-- ==== Sys2Proof/Word.lean ====
section
/-!
DEFINITION. The plainest word arithmetic of the model: bytes, little-endian numbers (R2), 32-bit saturation, and the
list helpers by which a numbered group of like things (lanes, queues, timers, key slots) is read and changed.
-/
namespace Sys2Proof

/-- An octet. -/
abbrev Byte := BitVec 8

/-- The largest 32-bit number: where the counters of the dictionary saturate. -/
def maxU32 : Nat := 4294967295

/-- Nanoseconds in one second. -/
def nsPerSec : Int := 1000000000

/-- Little-endian octets to a number (R2). -/
def leNat : List Byte → Nat
  | [] => 0
  | b :: t => b.toNat + 256 * leNat t

/-- A number to `n` little-endian octets (R2). -/
def toLe : Nat → Nat → List Byte
  | 0, _ => []
  | n + 1, v => BitVec.ofNat 8 v :: toLe n (v / 256)

/-- Big-endian octets to a number. -/
def beNat (l : List Byte) : Nat := leNat l.reverse

/-- `n` octets of `l` from offset `o`, padded by nothing when `l` is shorter. -/
def slice (l : List Byte) (o n : Nat) : List Byte := (l.drop o).take n

/-- The little-endian field of `n` octets at offset `o`. -/
def leAt (l : List Byte) (o n : Nat) : Nat := leNat (slice l o n)

/-- `v` read as an `n`-octet two's complement number. -/
def signedOf (n : Nat) (v : Nat) : Int :=
  let m : Nat := 256 ^ n
  let w := v % m
  if w < m / 2 then (w : Int) else (w : Int) - (m : Int)

/-- Bit `i` of `v`. -/
def bitOf (v i : Nat) : Bool := v.testBit i

/-- `v` with bit `i` set. -/
def setBit (v i : Nat) : Nat := v ||| (1 <<< i)

/-- `v` with bit `i` clear. -/
def clearBit (v i : Nat) : Nat := if v.testBit i then v - (1 <<< i) else v

/-- `v` with bit `i` as `b` says. -/
def putBit (v i : Nat) (b : Bool) : Nat := if b then setBit v i else clearBit v i

/-- 1 for true, 0 for false: how a BOOL reads (R29). -/
def boolNum (b : Bool) : Nat := if b then 1 else 0

/-- `v + n` held at the largest 32-bit number. -/
def satAdd (v n : Nat) : Nat := Nat.min (v + n) maxU32

/-- `v` held between `lo` and `hi`. -/
def clampInt (lo hi v : Int) : Int := if v < lo then lo else if hi < v then hi else v

/-- `v` held to the range of a signed 32-bit number, as DATA of several events asks (R89). -/
def satI32 (v : Int) : Int := clampInt (-2147483648) 2147483647 v

/-- A signed number as the 32 bits that carry it. -/
def u32Of (v : Int) : Nat := (v % 4294967296).toNat

/-- Quotient rounded to the nearest integer, halves upward. -/
def roundDiv (a : Int) (b : Nat) : Int := if b = 0 then 0 else (2 * a + (b : Int)) / (2 * (b : Int))

/-- Quotient rounded up. -/
def ceilDiv (a b : Nat) : Nat := if b = 0 then 0 else (a + b - 1) / b

/-- Element `i` of a numbered group, or `z` where the group has none. -/
def nth {α : Type} (l : List α) (i : Nat) (z : α) : α := (l[i]?).getD z

/-- The group with element `i` changed by `f`; an element the list does not reach is `z`, as `nth` reads it. -/
def upd {α : Type} : List α → Nat → (α → α) → α → List α
  | [], 0, f, z => [f z]
  | [], i + 1, f, z => z :: upd [] i f z
  | a :: t, 0, f, _ => f a :: t
  | a :: t, i + 1, f, z => a :: upd t i f z

/-- The record whose key is `k`, in a list of keyed records. -/
def findKey {α : Type} (key : α → Nat) (k : Nat) : List α → Option α
  | [] => none
  | a :: t => if key a = k then some a else findKey key k t

/-- The list with the record of `a`'s key replaced by `a`, or `a` appended where there is none. -/
def putKey {α : Type} (key : α → Nat) (a : α) : List α → List α
  | [] => [a]
  | b :: t => if key b = key a then a :: t else b :: putKey key a t

/-- The list without the records of key `k`. -/
def dropKey {α : Type} (key : α → Nat) (k : Nat) (l : List α) : List α := l.filter (fun a => key a ≠ k)

/-- The list with every record of key `k` changed by `f`. -/
def modKey {α : Type} (key : α → Nat) (k : Nat) (f : α → α) (l : List α) : List α :=
  l.map (fun a => if key a = k then f a else a)

/-- The last `n` elements of a list. -/
def lastN {α : Type} (n : Nat) (l : List α) : List α := l.drop (l.length - n)

/-- The sum of a list of numbers. -/
def sumNat (l : List Nat) : Nat := l.foldl (· + ·) 0

/-- `a` put into a list ordered by `rank`, after its equals. -/
def insertBy {α : Type} (rank : α → Int) (a : α) : List α → List α
  | [] => [a]
  | b :: t => if rank a < rank b then a :: b :: t else b :: insertBy rank a t

/-- A list ordered by `rank`, equals in their present order. -/
def sortBy {α : Type} (rank : α → Int) (l : List α) : List α := l.foldl (fun s a => insertBy rank a s) []

/-- The numbers 0 to `n` - 1. -/
def upTo (n : Nat) : List Nat := List.range n

/-- The `k`th of `m` equal slices of a BLOB of entries, each of `n` octets (helper for arrays held in BLOBs). -/
def blobItem (l : List Byte) (n k : Nat) : List Byte := slice l (n * k) n

end Sys2Proof
end

