-- ==== Sys2Proof/Syntax.lean ====
section
/-!
DEFINITION. The commands of the NQX-7720 as syntax: one constructor of `Instr` for each row of the table of operations and
events, and the types of their operands. A message that a unit parses by its fields is given by its fields; a message
that it parses by offsets (a QDL argument, a key update, an image header, a gate list, a delta) is given by its octets.
-/
namespace Sys2Proof

/-- The two radio bands (R90). -/
inductive Band where
  | sf | g
  deriving DecidableEq, Repr

/-- SYNC_STATE (R75, R87). -/
inductive SyncState where
  | free | acquiring | locked | holdover
  deriving DecidableEq, Repr

/-- The transports of QDL (R38, R41): UDP with the port it arrived on (R567), whether it is IPv4, and the host's address and port. -/
inductive Transport where
  | udp (prt : Fin 2) (v4 : Bool) (addr port : Nat)
  | muart | mspi
  deriving DecidableEq, Repr

/-- A session key as a term (R39, log 4): HKDF-SHA-256 of the ECDH secret of HPUB and DPUB, salted by HNONCE and DNONCE. -/
structure SessKey where
  hpub : Nat
  dpub : Nat
  hnonce : Nat
  dnonce : Nat
  deriving DecidableEq, Repr

/-- A 16-octet tag of AES-128-CCM as a term (R37, log 4): the key, and SESSION, SEQ and the direction octet of the nonce under which the body is
encrypted and the PDU authenticated. -/
structure Seal where
  key : SessKey
  session : Nat
  seq : Nat
  dir : Nat
  deriving DecidableEq, Repr

/-- The signature of a credential key or of the device identity key as a term (R39, log 4): the signing key's public octets (none: the
device's own), and the handshake fields that it covers. -/
structure HandSig where
  pub : Option (List (BitVec 8))
  cred : Nat
  hnonce : Nat
  hpub : Nat
  session : Nat
  dnonce : Nat
  dpub : Nat
  deriving DecidableEq, Repr

/-- How a PDU arrives (R35-R38): VER; whether OP is one of R36; whether FLAGS[15:3] are zero, LEN agrees and the whole has at most 1,472
octets; the tag where FLAGS has AUTH; the transport; over UDP the destination address and port. -/
structure PduHead where
  ver : Nat := 1
  opOk : Bool := true
  sound : Bool := true
  tag : Option Seal := none
  via : Transport := .muart
  dst : Nat := 0
  dport : Nat := 0
  deriving DecidableEq, Repr

/-- The QDL status codes (R34). -/
inductive Status where
  | ok | malformed | noSession | busy | unreachable | noEntry | accessDenied | typeMismatch | outOfRange | wrongMode
  | holdupLow | nvWorn | synthBusy | txLate | keyRevokedParent | keyExpired | keyUseExhausted | counterStale | tamper
  | imageBadBlock | imageBadSignature | migrationFailed | epochStale | leaseExpired | queueReset | tableFull | budgetDenied
  deriving DecidableEq, Repr

/-- A value of a dictionary entry: a number (of the numeric types) or octets (STR, BLOB, ADDR64). -/
inductive Val where
  | num (n : Int)
  | bytes (b : List Byte)
  deriving DecidableEq, Repr

/-- The header of a request of a session (R35, R43): SESSION, SEQ, and how the PDU arrives. -/
structure Req where
  session : Nat
  seq : Nat
  head : PduHead := {}
  deriving DecidableEq, Repr

/-- A READ item (R45): INDEX, SUB, META. -/
structure RItem where
  idx : Nat
  sub : Nat
  meta_ : Bool
  deriving DecidableEq, Repr

/-- A WRITE item (R45): INDEX, SUB, TYPE, VALUE. -/
structure WItem where
  idx : Nat
  sub : Nat
  ty : Nat
  value : List Byte
  deriving DecidableEq, Repr

/-- A request as its PDU's operation and body give it (R36, R45, R50, R52, R55): the inner request of a RELAY (R59), or one that
waits (R58). -/
inductive Inner where
  | read (snap : Bool) (items : List RItem)
  | write (atomic : Bool) (items : List WItem)
  | exec (idx sub : Nat) (arg : List Byte)
  | bulkRead (idx sub off len : Nat)
  | bulkWrite (idx sub off : Nat) (data : List Byte)
  | subscribe (action kind idx sub minMs : Nat)
  | relay (target : Nat) (inner : Inner)
  /-- An operation that no session request may carry: HELLO, PROOF, CLOSE or a reserved OP. -/
  | other (op : Nat)
  deriving DecidableEq, Repr

/-- The body of a QDL response (R39, R45, R50, R52, R55, R59). -/
inductive Body where
  | empty
  /-- READ items: key, TYPE, STATUS, VALUE. -/
  | read (items : List (Nat × Nat × Status × Val))
  | write (items : List (Nat × Status))
  | exec (key mode : Nat) (result : List Byte)
  | sub (id : Nat)
  | bulkRead (off : Nat) (data : List Byte)
  | bulkWrite (off len : Nat)
  /-- SESSION, and (none on an unauthenticated session) DNONCE, DPUB and DSIG. -/
  | challenge (session : Nat) (signed : Option (Nat × Nat × HandSig))
  | level (l : Nat)
  | relay (target : Nat) (status : Status) (inner : Body)
  deriving DecidableEq, Repr

/-- An error record (R545): DSTAT is `severity`, BUF and ADDR are absent where the record holds all ones. -/
structure ErrRec where
  severity : Nat
  buf : Option Nat
  time : Int
  unit : Nat
  inst : Nat
  code : Nat
  nest : Nat
  addr : Option Nat
  arg0 : Nat
  arg1 : Nat
  rseq : Nat
  deriving DecidableEq, Repr

/-- The head of a PTP message as received (R79): port, transport (as PTP_TRANSPORT numbers them), domain, sequence, source port identity. -/
structure PtpHead where
  port : Fin 2
  transport : Nat
  domain : Nat
  seq : Nat
  source : Nat
  sourcePort : Nat
  deriving DecidableEq, Repr

/-- A PTP Sync as received (R79): its head, two-step flag, originTimestamp and correctionField in ns. -/
structure PtpSync where
  head : PtpHead
  twoStep : Bool
  origin : Int
  corr : Int
  deriving DecidableEq, Repr

/-- A PTP Announce as received (R79): its head, the fields that the dataset comparison uses, currentUtcOffset, and the announce
interval in ns. -/
structure PtpAnnounce where
  head : PtpHead
  priority1 : Nat
  clockClass : Nat
  accuracy : Nat
  variance : Nat
  priority2 : Nat
  grandmaster : Nat
  stepsRemoved : Nat
  utcOffset : Int
  intervalNs : Nat
  deriving DecidableEq, Repr

/-- The message a PTP interval sends (R80, R88). -/
inductive PtpTimer where
  | sync | announce | delayReq
  deriving DecidableEq, Repr

/-- The units that recover under R548, other than lanes and queues. -/
inductive RecoverUnit where
  | frameSecurity | forwarding | shaper | bunting
  deriving DecidableEq, Repr

/-- The causes of a runtime fault (R547, R551). -/
inductive FatalCause where
  | workingSpace | coreException | sequencer | canton
  deriving DecidableEq, Repr

/-- What a start meets outside the device's own state (R480): whether PLL0 locks, whether the persistent store passes its check
(R494), whether the IMAGE key unwraps, and what the flash-dependent checks of R507 find in slots A and B (a reason of R506, 0 none). -/
structure BootResult where
  lock : Bool
  storeOk : Bool
  unwrapOk : Bool
  slotA : Nat
  slotB : Nat
  /-- R573: the flash's JEDEC ID, its size from SFDP in octets (0: unreadable), and reads that failed. -/
  flashId : Nat
  flashSize : Nat
  readErrors : Nat
  /-- R594: VIO_A and VIO_B stand at 1.8 V, else at 3.3 V. -/
  vioA18 : Bool
  vioB18 : Bool
  deriving DecidableEq, Repr

/-- A symmetric key as a term (log 4): key material drawn or installed, or derived under R327. -/
inductive Key where
  /-- Key material named by a number: an installed DMK, DGK or IMAGE key, or a stranger's key. -/
  | raw (n : Nat)
  /-- NLK = KDF(DMK, "NLK", EUI). -/
  | nlk (dmk eui : Nat)
  /-- SK = KDF(NLK, "SK", EUI ‖ KEY_GEN ‖ NONCE). -/
  | sk (dmk eui keyGen nonce : Nat)
  deriving DecidableEq, Repr

/-- Whose eight octets a CCM* nonce begins with (R351, R360): this device's, another EUI-64, or a district group address. -/
inductive NonceAddr where
  | device
  | eui (a : Nat)
  | group (octets : List Byte)
  deriving DecidableEq, Repr

/-- What Canton's checks of a key update message give that the octets alone do not (log 4): TARGET_ID_HASH matches, SIG verifies
under the signer's key, and the key that WRAPPED unwraps to (none: the unwrap or the padding fails). -/
structure KeyProof where
  hashOk : Bool
  sigOk : Bool
  key : Option Nat
  deriving DecidableEq, Repr

/-- An address in a MAC header: none, short, or EUI-64. -/
inductive Addr where
  | none
  | short (a : Nat)
  | eui (a : Nat)
  deriving DecidableEq, Repr

/-- IEEE 802.15.4 frame types that the device tells apart. -/
inductive FrameType where
  | beacon | data | ack | command | reserved
  deriving DecidableEq, Repr

/-- A District IE (R227): the vendor OUI it carries, and its content. -/
structure DistrictIe where
  oui : List Byte
  district : Nat
  epoch : Nat
  worker : Nat
  joinOpen : Bool
  rescue : Bool
  autonomous : Bool
  deriving DecidableEq, Repr

/-- The IEs of an enhanced beacon (R159, R226): TSCH Synchronization (ASN, join metric), Timeslot with TsCCAOffset and TsCCA and the values of
the template that it tells, ns, Channel Hopping with the whole sequence of the beacon's band, and Slotframe and Link: of each ADV slotframe its
handle, its size and, of each ADV cell, slot offset, channel offset and OPTIONS. -/
structure BeaconIes where
  asn : Nat
  joinMetric : Nat
  ccaOffset : Nat
  cca : Nat
  txOffset : Nat
  ackDelay : Nat
  ackGuard : Nat
  slotLen : Nat
  hop : List Nat
  frames : List (Nat × Nat × List (Nat × Nat × Nat))
  deriving DecidableEq, Repr

/-- A JOIN_REQ (R229): REJOIN, NONCE, LAST_SHORT, CAPS, and the key of its MIC (log 4). -/
structure JoinReq where
  rejoin : Bool
  nonce : Nat
  lastShort : Nat
  caps : Nat
  mic : Key
  deriving DecidableEq, Repr

/-- An RPL control message (RFC 6550) by what the device uses of it (R289, R291, R293). -/
inductive Rpl where
  | dis
  | dio (rank : Nat)
  /-- Target and DAO parent as addresses, DAOSequence, Path Sequence, Path Lifetime, K. -/
  | dao (target parent daoSeq pathSeq lifetime : Nat) (k : Bool)
  | daoAck (daoSeq : Nat)
  | other
  deriving DecidableEq, Repr

/-- What an IPv6 packet carries, by what the device does with it (log 12). -/
inductive IpBody where
  | data (l : List Byte)
  | rpl (m : Rpl)
  /-- An ICMPv6 error of RFC 4443: type, code. -/
  | icmpError (type code : Nat)
  deriving DecidableEq, Repr

/-- An IPv6 packet by its fields (log 12): addresses as 128-bit numbers, hop limit, DSCP, length in octets, the RPL option of
RFC 6553, the hops of a routing header of RFC 6554. -/
structure Ip where
  src : Nat
  dst : Nat
  hop : Nat
  dscp : Nat
  len : Nat
  rplOption : Bool
  route : List Nat
  body : IpBody
  deriving DecidableEq, Repr

/-- How a 6LoWPAN payload is formed (R289, R291): compressed, uncompressed, with a header that is not supported, or one that
fails to decompress. -/
inductive LowpanForm where
  | iphc | uncompressed | unsupported | bad
  deriving DecidableEq, Repr

/-- A fragment of RFC 4944: tag, packet size, offset, and its length, in octets of the uncompressed packet. -/
structure Frag where
  tag : Nat
  size : Nat
  off : Nat
  len : Nat
  deriving DecidableEq, Repr

/-- A BLOCK_REQ (R409): its flags, TAG, FOR, BASE, COUNT, and the blocks its bitmap marks missing. -/
structure BlockReq where
  done : Bool
  verifyFail : Bool
  refuse : Bool
  tag : Nat
  forNode : Nat
  base : Nat
  count : Nat
  missing : List Nat
  deriving DecidableEq, Repr

/-- The payload of a MAC frame, by what the device does with it. -/
inductive MacPayload where
  | empty
  /-- Any other payload, by its octets. -/
  | data (l : List Byte)
  | joinReq (j : JoinReq)
  /-- JOIN_RSP (R229): RESULT, SHORT, EPOCH, KEY_GEN, NONCE, and the key of its MIC. -/
  | joinRsp (result short epoch keyGen nonce : Nat) (mic : Key)
  /-- GROUP_KEY (R361): low octet of GEN, and the key. -/
  | groupKey (gen : Nat) (key : Key)
  /-- A 6LoWPAN packet or fragment; each fragment names the whole packet (log 12). -/
  | lowpan (form : LowpanForm) (frag : Option Frag) (ip : Ip)
  | blockReq (r : BlockReq)
  /-- BLOCK (R407): TAG, INDEX, FOR, PART, QUARTER, LAST, DATA. -/
  | block (tag index forNode part : Nat) (quarter last : Bool) (data : List Byte)
  /-- ANNOUNCE (R408): QUARTER, TAG, KIND, ROUND, VERSION, SIZE, BLOCKS, DIGEST. -/
  | announce (quarter : Bool) (tag kind round version size blocks digest : Nat)
  deriving DecidableEq, Repr

/-- A MAC frame as the device parses it. `srcEnd` counts the PSDU octets up to the end of the source address field, by the
addressing rules of IEEE 802.15.4 (R139); `key` stands for the key that secured it and `intact` for a MIC that verifies
under that key (log 4); `nonce` is the address with which its sender formed the nonce (R351); `tc` is the Time Correction IE: the correction in µs
and NACK (R210); `oui` that of the Vendor Specific Payload IE that holds a message of R229, R361 or R406. -/
structure MacFrame where
  ftype : FrameType
  version : Nat
  src : Addr
  dst : Addr
  srcEnd : Nat
  seq : Option Nat
  ackReq : Bool
  secured : Bool
  /-- Auxiliary security header malformed or with an unsupported option (R351). -/
  headerBad : Bool
  level : Nat
  keyMode : Nat
  keyIndex : Nat
  fc : Nat
  key : Key
  intact : Bool
  tc : Option (Int × Bool)
  district : Option DistrictIe
  payload : MacPayload
  tsch : Option BeaconIes := none
  nonce : NonceAddr := .device
  oui : List Byte := []
  deriving DecidableEq, Repr

/-- What a lane measures of a signal (R142): level in 0.1 dBm at the antenna, carrier offset in 0.01 ppm. -/
structure Signal where
  level : Int
  cfo : Int
  deriving DecidableEq, Repr

/-- STAGE of a receive descriptor (R150, R218, R352): frame security's half, the acknowledgement outcome, the verdict. -/
structure Stage where
  secstat : Nat := 0
  level : Nat := 0
  keyMode : Nat := 0
  fetched : Bool := false
  ack : Nat := 0
  verdict : Nat := 0
  deriving DecidableEq, Repr

/-- Bytes 8-31 of a receive descriptor (R150, R152, R153); `asn` is the ASN of the slot in which the cell began, which with
CELL identifies the cell (R166). -/
structure RxInfo where
  sfdTime : Int
  handle : Nat
  loc : Nat
  asn : Nat
  lane : Nat
  channel : Nat
  spread : Nat
  band : Band
  long : Bool
  pretuned : Bool
  handed : Bool
  cfo : Int
  rssi : Int
  lqi : Nat
  gain : Nat
  fcsOk : Bool
  fcs32 : Bool
  addrMatch : Bool
  captured : Bool
  gainStep : Bool
  allChannel : Bool
  expectedFirst : Bool
  clipped : Bool
  stage : Stage
  deriving DecidableEq, Repr


/-- STATE of a Pennant record (R205). -/
inductive NState where
  | unused | joining | active | adrift | rejoinRequired | dropped
  deriving DecidableEq, Repr

/-- A Pennant record (R203, R204). -/
structure Pennant where
  short : Nat
  eui : Nat
  cfo : Int := 0
  drift : Int := 0
  rssi : Int := 0
  lqi : Nat := 0
  cfoN : Nat := 0
  syncTime : Int := 0
  syncErr : Int := 0
  guard : Nat := 0
  slewMark : Nat := 0
  rxFc : Nat := 0
  rxDsn : Nat := 0
  txDsn : Nat := 0
  state : NState := .joining
  retry : Nat := 0
  ackTc : Int := 0
  driftN : Nat := 0
  cfoOut : Nat := 0
  lastHeard : Int := 0
  cfoValid : Bool := false
  driftValid : Bool := false
  syncValid : Bool := false
  rssiValid : Bool := false
  fcValid : Bool := false
  dsnValid : Bool := false
  onDie : Bool := false
  keepaliveDue : Bool := false
  ackCached : Bool := false
  txSecured : Bool := false
  /-- R221: PSDU_LEN of the last accepted frame. -/
  rxLen : Nat := 0
  deriving DecidableEq, Repr

/-- The security area of a node record (R330). -/
structure SecArea where
  keyGen : Nat := 0
  skValid : Bool := false
  expireAtReset : Bool := false
  usesLowSent : Bool := false
  exhausted : Bool := false
  hotSlot : Option Nat := none
  txFc : Nat := 0
  usesLeft : Nat := 0
  dmkGen : Nat := 0
  nonce : Nat := 0
  /-- R355: the SK was lost at a reset under EXPIRE_AT_RESET. -/
  lost : Bool := false
  deriving DecidableEq, Repr

/-- The clear part of a wrapped record (R331); `good` is false where its unwrap or a word of it fails. -/
structure Wrapped where
  keyGen : Nat
  dmkGen : Nat
  good : Bool
  deriving DecidableEq, Repr

/-- The routing area of a node record (R273). -/
structure RouteArea where
  parent : Nat := 0xFFFF
  daoSeq : Nat := 0
  pathSeq : Nat := 0
  psduMax : Nat := 127
  routeExpiry : Nat := 0
  upPkts : Nat := 0
  downPkts : Nat := 0
  /-- R293: PATH_SEQ holds a sequence accepted. -/
  pathKnown : Bool := false
  deriving DecidableEq, Repr

/-- One item of a REPL_NODES (R370): RECORD, and bytes 0-127 of the node record: Pennant, security and routing areas. -/
structure ReplNode where
  record : Nat
  eui : Nat
  short : Nat
  pennant : Option Pennant
  sec : SecArea
  route : RouteArea
  deriving DecidableEq, Repr

/-- One peer of a PEERS message (R370): ID, IPv6 address, and its identity key by a number. -/
structure PeerItem where
  id : Nat
  addr : Nat
  pub : Nat
  deriving DecidableEq, Repr

/-- A message of a hierarchy link by its fields (R370); `sigOk` says whether the signature is the sender's. -/
inductive HlMsg where
  | openMsg (ononce opener : Nat) (sigOk : Bool)
  | openAck (link anonce : Nat) (sigOk : Bool)
  | close (reason : Nat)
  | heartbeat (seq district : Nat) (revoke standby : Bool) (missLimit epoch hbInt : Nat) (leaseEnd : Int)
  | hbAck (seq hstate schedState asn align backlog : Nat)
  | peerProbe (id : Nat)
  | peerAnswer (id age : Nat)
  | witnessReq (id district : Nat)
  | witnessRsp (id district age epoch : Nat)
  | replDistrict (district epoch asnRef : Nat) (asnRefTime : Int) (slotLen mark deltaSeq records : Nat)
  | replNodes (items : List ReplNode)
  | replGone (records : List Nat)
  | claim (id eui lqi short : Nat) (sight : Int)
  | verdict (id : Nat) (grant : Bool) (winner : Nat)
  | drop (eui winner : Nat)
  | deltaPart (id total offset : Nat) (data : List Byte)
  | deltaResult (id status reason asn : Nat)
  | takeover (district : Nat) (restart : Bool) (epoch baseSeq : Nat) (start : Int)
  | restoreEnd (records deltaSeq : Nat)
  | ready (district status : Nat)
  | peers (l : List PeerItem)
  /-- KEY_MSG: the 240 octets of R335, and what Canton's checks of them give. -/
  | keyMsg (octets : List Byte) (proof : KeyProof)
  | keyResult (counter status : Nat)
  | relayReq (qseq origin : Nat) (inner : Inner)
  | relayRsp (qseq : Nat) (status : Status) (body : Body)
  | report (kind band district epoch arg0 arg1 : Nat)
  deriving DecidableEq, Repr


/-- What an Ethernet frame carries, by what the device does with it (R289, R290, R309, log 12). -/
inductive EthBody where
  | ip (p : Ip)
  | other (l : List Byte)
  deriving DecidableEq, Repr

/-- An Ethernet frame without FCS by its fields (R564, R565). -/
structure EthFrame where
  dst : Nat
  src : Nat
  /-- TCI of each 802.1Q tag, outermost first; TPID 0x88A8 anywhere. -/
  tags : List Nat
  otherTag : Bool
  etherType : Nat
  ptpEvent : Bool
  len : Nat
  body : EthBody
  deriving DecidableEq, Repr

/-- What a frame buffer holds (R240). -/
inductive Payload where
  | bytes (l : List Byte)
  | mac (f : MacFrame)
  | ip (p : Ip)
  | eth (f : EthFrame)
  /-- A message of a hierarchy link (R371). -/
  | hl (m : HlMsg)
  deriving DecidableEq, Repr

/-- Bytes 8-31 of a timed transmit descriptor (R194). -/
structure P0Info where
  when_ : Int
  neighbour : Nat
  group : Nat
  secure : Bool
  ackReq : Bool
  band : Band
  channel : Nat
  spread : Nat
  txPower : Int
  pclass : Nat
  tag : Nat
  deriving DecidableEq, Repr

/-- Bytes 8-31 of an egress or downlink descriptor (R318, R319, R357); `seq`, `level` and `group` are SEQ_USE (R356), `fc` the
frame counter assigned. -/
structure DownInfo where
  enq : Int
  neighbour : Nat
  tclass : Nat
  frag : Nat
  lastFrag : Bool
  pktTag : Nat
  airtime : Nat
  seq : Nat
  level : Nat
  group : Bool
  fc : Nat
  deriving DecidableEq, Repr

/-- Bytes 8-31 of a descriptor, by type (R250, R251). -/
inductive DescBody where
  | plain
  | event (ev flags data seq : Nat) (time : Int)
  | error (r : ErrRec)
  | rx (r : RxInfo)
  /-- P0 (R194), and its return on Q4 (R195). -/
  | p0 (p : P0Info)
  | p0Done (stamp : Int) (p : P0Info)
  /-- Q8 to Q34 (R318, R319, R357). -/
  | down (x : DownInfo)
  /-- P2 (R333): RECORD, KREQ, SHORT, UNTIL, PIN_END. -/
  | keyReq (record kreq short : Nat) (until_ pinEnd : Int)
  /-- P4 (R371): HKIND, BAND (255 not applicable), DISTRICT, EPOCH, ARG0, ARG1; a link message of HKIND 1 with its sender. -/
  | hier (kind band district epoch arg0 arg1 : Nat) (msg : Option (Nat × HlMsg))
  /-- P3 (R196): SOURCE, DELTA_ID, ADDR in the runtime working space, DLEN, RECV_TIME. -/
  | delta (source deltaId addr dlen : Nat) (recv : Int)
  /-- Q3 (R294): SFD_TIME, SRC_EUI, SRC_SHORT, LQI, RXPATH. -/
  | uplink (sfd : Int) (eui short lqi rxpath : Nat)
  /-- Q5 (R295): EUI, SHORT, LPS, INGRESS, TIME, LQI, RXPATH, DETAIL. -/
  | exc (eui short lps ingress : Nat) (time : Int) (lqi rxpath detail : Nat)
  /-- Q37 (R296): OUT, TCLASS, NEXT_HOP. -/
  | orig (out tclass nextHop : Nat)
  /-- Q6, Q7 (R565): RX_TIME, PORT, ERXF, TCI, ETHERTYPE, PAYLOAD_OFF. -/
  | eth (time : Int) (port erxf tci etherType off : Nat)
  /-- Q35 (R419): CAMPAIGN, BKIND, TARGET, BLOCK, PART, ROUND, FOR, GROUP, ENQ_TIME. -/
  | image (campaign bkind target block part round forNode group : Nat) (enq : Int)
  /-- Q36 (R420): SFD_TIME, SRC, REQ_OFF, LQI, CAMPAIGN, BLOCK, PART. -/
  | blockReq (sfd : Int) (src off lqi campaign block part : Nat)
  /-- P6 (R421): CAMPAIGN, VALUE8, SHORT, SLOT, TIME. -/
  | bunt (campaign value short slot : Nat) (time : Int)
  /-- Q5 (R44, R58): a request of a session, or of the manager by its QSEQ and ORIGIN, that waits for the QDL server. -/
  | request (r : Req) (i : Inner)
  | relayed (qseq origin : Nat) (i : Inner)
  /-- P7 (R444): STATE, GRANT_MASK, PROFILE, E_MJ, TIME, T_MAX. -/
  | gov (state mask profile : Nat) (e time tmax : Int)
  deriving DecidableEq, Repr

/-- A descriptor (R250): DTYPE, DSTAT, LEN, BUF (absent: 0xFFFFFFFF), and its type's own fields. -/
structure Desc where
  dtype : Nat
  dstat : Nat
  len : Nat
  buf : Option Nat
  body : DescBody
  deriving DecidableEq, Repr

/-- A link key as a term (R368, log 4): HKDF-SHA-256 of the ECDH secret with the peer's identity key, salted by ONONCE and ANONCE. -/
structure LinkKey where
  pub : Nat
  ononce : Nat
  anonce : Nat
  deriving DecidableEq, Repr

/-- The tag of a link message as a term (R369, log 4): the key, and LINK, SEQ and the direction octet of the nonce. -/
structure LinkSeal where
  key : LinkKey
  link : Nat
  seq : Nat
  dir : Nat
  deriving DecidableEq, Repr

/-- What a message of an open hierarchy link carries beside its body (R368, R369): LINK, SEQ, its tag, and the UDP port at which it arrives. -/
structure HlHead where
  link : Nat
  seq : Nat
  tag : LinkSeal
  port : Nat := 5842
  deriving DecidableEq, Repr

/-- The commands: one constructor for each row of the table of operations and events. -/
inductive Instr where
  /-- `ENTRY_WRITE` (R30). A QDL WRITE item, plain or ATOMIC, to an entry with no row of its own is checked under R610 and applied at once or committed for RP entries. -/
  | entryWrite (r : Req) (atomic : Bool) (items : List WItem)
  /-- `LO_READ` (R49). A READ of a LO sub-index returns bits 31:0 and latches the matching upper bits for that session and entry. -/
  | loRead (r : Req) (snap : Bool) (items : List RItem)
  /-- `HI_READ` (R49). A READ of a HI sub-index returns the latched upper bits and empties the latch, or returns the live bits if the latch is empty. -/
  | hiRead (r : Req) (snap : Bool) (items : List RItem)
  /-- `BULK_WRITE` (R55). A BULK write stages a chunk of a BULK target's content without committing anything. -/
  | bulkWrite (r : Req) (idx sub off : Nat) (data : List Byte)
  /-- `SUBSCRIBE` (R52). A SUBSCRIBE request adds, removes or removes all entry or event subscriptions of the session. -/
  | subscribe (r : Req) (action kind idx sub minMs : Nat)
  /-- `NOTIFY` (R53). Once MIN_INTERVAL has passed, the device sends the coalesced latest value of a changed subscribed entry. -/
  | notify (session subId : Nat)
  /-- `HELLO` (R39). A HELLO opens a handshake, and the device answers with a signed CHALLENGE, or with BUSY or NO_SESSION. -/
  | hello (h : PduHead) (seq cred hnonce hpub : Nat)
  /-- `PROOF` (R39). A PROOF is checked against the credential key and the session opens at the credential's level, or NO_SESSION is answered. -/
  | proof (h : PduHead) (session seq : Nat) (hsig : Option HandSig)
  /-- `PROOF_TIMEOUT` (R40). No PROOF arrives within 5 s of the CHALLENGE, so the handshake fails with NO_SESSION. -/
  | proofTimeout (session : Nat)
  /-- `CREDENTIAL_REFUSAL_END` (R40). The 60 s refusal of a credential that reached AUTH_FAIL_LIMIT ends. -/
  | credentialRefusalEnd (cred : Fin 16)
  /-- `CLOSE` (R42). A CLOSE from either side ends a QDL session with its subscriptions and latches. -/
  | close (r : Req)
  /-- `SESSION_IDLE_TIMEOUT` (R42). A session with no valid request for IDLE_TIMEOUT seconds is closed. -/
  | sessionIdleTimeout (session : Nat)
  /-- `RELAY` (R60). The manager sets ORIGIN and forwards the inner request of a RELAY PDU to the target worker, or answers UNREACHABLE, WRONG_MODE or MALFORMED. -/
  | relay (r : Req) (target : Nat) (inner : Inner)
  /-- `RELAY_TIMEOUT` (R60). No worker response arrives within RELAY_TIMEOUT, so the manager answers UNREACHABLE. -/
  | relayTimeout (target qseq : Nat)
  /-- `CLOSE_ALL` (R64). The command closes every session other than the caller's after the response. -/
  | closeAll (r : Req) (arg : List Byte)
  /-- `CRED_ENABLE_WRITE` (R65). A credential write is refused if it would leave no enabled L2 credential, and disabling a credential closes its sessions after the response. -/
  | credEnableWrite (r : Req) (cred : Fin 16) (enable : Bool)
  /-- `REF_LOST` (R68). No REFCLK edge arrives for 1 µs, so the device stops transmission, blanks the lanes and moves the time base to slow ticks. -/
  | refLost
  /-- `REF_RESTORED` (R68). PLL0 relocks within 100 ms and slot activity resumes in HOLDOVER. -/
  | refRestored
  /-- `REF_RELOCK_TIMEOUT` (R68). PLL0 has not relocked 100 ms after loss of REFCLK, and the device enters M11 with cause REF_LOST. -/
  | refRelockTimeout
  /-- `SLOW_CALIBRATION` (R70). At the end of each 1 s window, the calibrated slow increment is set from SLOWCLK measured against TBCLK. -/
  | slowCalibration (slowTicks fastTicks : Nat)
  /-- `PHASE_SLEW_END` (R74). The servo's predicted remaining offset reaches zero and PHASE_SLEW is set to 0. -/
  | phaseSlewEnd
  /-- `STEP` (R76). The command steps the time base by a relative or absolute value between two fast ticks, where R77 permits it. -/
  | step (r : Req) (arg : List Byte)
  /-- `TB_SOURCE_WRITE` (R75). Writing TB_SOURCE changes the time source, and a value of 0 sets SYNC_STATE to FREE. -/
  | tbSourceWrite (r : Req) (value : Byte)
  /-- `SYNC` (R79). A received PTP Sync is timestamped, and for a one-step master yields an offset measurement for the servo. -/
  | sync (m : PtpSync)
  /-- `FOLLOW_UP` (R79). A received Follow_Up completes a two-step measurement, which the servo accepts or discards as an outlier. -/
  | followUp (h : PtpHead) (origin corr : Int)
  /-- `DELAY_REQ` (R79). The manager as master answers a received Delay_Req with a Delay_Resp. -/
  | delayReq (h : PtpHead) (corr : Int)
  /-- `DELAY_RESP` (R79). A received Delay_Resp updates the mean path delay; `forUs`: its requesting port identity is the device's. -/
  | delayResp (h : PtpHead) (forUs : Bool) (receive corr : Int)
  /-- `ANNOUNCE` (R79). A received Announce enters master selection and may change the parent. -/
  | announce (m : PtpAnnounce)
  /-- `PTP_DISCARD` (R79). A PTP message of an unsupported type is discarded and counted in PTP_DISCARDS. -/
  | ptpDiscard (port : Fin 2) (transport : Nat)
  /-- `PTP_INTERVAL` (R80). At each Sync, Announce or Delay_Req interval, the device sends its PTP messages as master or slave. -/
  | ptpInterval (kind : PtpTimer)
  /-- `SOURCE_TIMEOUT` (R75). The PTP announce timeout, or 3 s without a PPS_IN edge, moves SYNC_STATE to HOLDOVER. -/
  | sourceTimeout
  /-- `PPS_IN_EDGE` (R81). A selected PPS_IN edge is stamped and used as an offset measurement. -/
  | ppsInEdge (falling : Bool)
  /-- `PPS_IN_MISSING` (R81). Each further second after 3 s without an edge raises event 19. -/
  | ppsInMissing
  /-- `PPS_OUT_START` (R82). The time base reaches a whole second plus PPS_OUT_PHASE and the pulse starts, subject to the gate. -/
  | ppsOutStart
  /-- `PPS_OUT_END` (R82). The pulse ends after PPS_OUT_WIDTH. -/
  | ppsOutEnd
  /-- `ALIGN_EXCEEDED` (R84). Growth of ALIGN_ERR_EST in HOLDOVER crosses 1,000 ns and raises event 17. -/
  | alignExceeded
  /-- `CALIBRATE` (R102). The command starts a band calibration at the next T0, or within 100 µs when no slots are prepared. -/
  | calibrate (r : Req) (band : Band) (arg : List Byte)
  /-- `CAL_DONE` (R99). A band calibration completes, and the device records temperature and time, clears CAL_PENDING and raises event 24. -/
  | calDone (band : Band) (imageRej : Int)
  /-- `CAL_ABANDONED` (R101). CAL_PENDING has been set for 60 s without a suitable slot, so event 25 is raised and the wait continues. -/
  | calAbandoned (band : Band)
  /-- `MASK_VIOLATION` (R115). A mask bin exceeds its limit for 16 µs, so the PA drops, TX_INHIBIT is set and recovery is scheduled or transmission stays inhibited. -/
  | maskViolation (band : Band)
  /-- `CLEAR_INHIBIT` (R119). The command calibrates the band and clears TX_INHIBIT. -/
  | clearInhibit (r : Req) (band : Band) (arg : List Byte)
  /-- `SLOT_PREPARATION` (R21). At T0 − 900 µs the sequencer reads the schedule, requests keys, obtains grants, sets gain, latches Pennant values, binds lanes and unpins keys. -/
  | slotPreparation
  /-- `SLOT_START` (R83). The time base reaches T0, the gain index is applied and lanes take their new bindings. -/
  | slotStart
  /-- `WINDOW_OPEN` (R171). A receive, rescue or acknowledgement window opens and the bound lanes enter SEARCH. -/
  | windowOpen (band : Band) (handle loc : Nat)
  /-- `WINDOW_CLOSE` (R133). A receive window closes and lanes in SEARCH return to IDLE. -/
  | windowClose (band : Band) (handle loc : Nat)
  /-- `CELL_TRANSMIT` (R173). At T0 + TX_OFFSET the band sends the selected frame, beacon, keepalive or burst, blanking its lanes. -/
  | cellTransmit (band : Band) (lock margin : Int)
  /-- `ACK_TRANSMIT` (R172). At E + ACK_DELAY the device sends the secured acknowledgement if it ends before the slot tail. -/
  | ackTransmit (band : Band) (lock margin : Int)
  /-- `ACK_WINDOW_CLOSE` (R173). An acknowledgement window closes with no acknowledgement acquired, so the attempt counts as unacknowledged. -/
  | ackWindowClose (band : Band)
  /-- `PREAMBLE_ACQUIRED` (R134). A lane in SEARCH acquires 4 zero symbols and enters PREAMBLE. -/
  | preambleAcquired (lane : Fin 32) (zeros : Nat) (sig : Signal)
  /-- `CORRELATOR_HANDOVER` (R136). A shadow correlator hands a preamble it acquired to a lane in SEARCH. -/
  | correlatorHandover (lane : Fin 32) (zeros : Nat) (sig : Signal)
  /-- `REHOME` (R137). A lane in PREAMBLE moves to a correlator peak that is stronger by REHOME_THRESHOLD. -/
  | rehome (lane : Fin 32) (sig : Signal) (atSfd : Bool)
  /-- `SFD_FOUND` (R133). The lane latches RSSI and timestamp, allocates a granule and enters HEADER. -/
  | sfdFound (lane : Fin 32) (sig : Signal)
  /-- `PREAMBLE_TIMEOUT` (R141). No SFD arrives within PREAMBLE_TIMEOUT symbols, so a false preamble is counted and the lane returns to rest. -/
  | preambleTimeout (lane : Fin 32)
  /-- `PHR_RECEIVED` (R130). The PHR is decoded, and the lane enters PAYLOAD or commits PHR_BAD. -/
  | phrReceived (lane : Fin 32) (phr0 phr1 : Byte)
  /-- `CAPTURE` (R138). A correlator SFD stronger by CAPTURE_THRESHOLD aborts the present frame and the lane takes the new one. -/
  | capture (lane : Fin 32) (sig : Signal) (psdu : List Byte)
  /-- `LAST_PSDU_CHIP` (R146). The last chip arrives and the lane checks the FCS and commits the receive descriptor to Q0 or Q1. -/
  | lastPsduChip (lane : Fin 32) (frame : MacFrame) (fcsGood : Bool) (evm : Nat) (cfo : Int) (clipped : Bool)
  /-- `LANE_FAULT` (R147). A hung chip counter or failed state check puts the lane into RECOVER, with ABORT_FAULT if it held a frame. -/
  | laneFault (lane : Fin 32) (hang : Bool)
  /-- `LANE_RECOVERED` (R147). A lane's recovery ends and it returns to rest, or is quarantined after a third fault. -/
  | laneRecovered (lane : Fin 32)
  /-- `LANE_RESTORE` (R155). The command returns a quarantined lane to binding from the next preparation. -/
  | laneRestore (r : Req) (band : Band) (arg : List Byte)
  /-- `RX_VERIFY` (R352). Frame security takes a receive descriptor, verifies it under CCM*, writes SECSTAT and pushes it to Q2. -/
  | rxVerify (band : Band)
  /-- `FRAME_JUDGEMENT` (R219). The sequencer judges a Q2 descriptor, updates the Pennant record, decides the acknowledgement and delivers the frame. -/
  | frameJudgement
  /-- `HIT_MARK` (R277). The sequencer's request sets HIT for the sender of an accepted or repeated frame. -/
  | hitMark
  /-- `ADRIFT_CHECK` (R214). The once-per-second guard test moves named neighbours whose uncertainty exceeds 4.0 ms to ADRIFT. -/
  | adriftCheck
  /-- `TX_HOLD_CHECK` (R225). The once-per-second test abandons head frames held longer than TX_HOLD_MAX. -/
  | txHoldCheck
  /-- `JOIN_REQ` (R229). The runtime verifies a join request's MIC and admits, refuses or claims the node, then answers with a JOIN_RSP through P0. -/
  | joinReq
  /-- `JOIN_TIMEOUT` (R230). A record still JOINING after JOIN_TIMEOUT is freed with its table entry. -/
  | joinTimeout
  /-- `RX_NOT_OK_RECORD` (R223). The runtime records an RX_NOT_OK descriptor in telemetry and frees its granule. -/
  | rxNotOkRecord
  /-- `PENNANT_QUERY` (R234). The command returns a neighbour's 64-byte Pennant record. -/
  | pennantQuery (r : Req) (arg : List Byte)
  /-- `PENNANT_RESET` (R234). The command clears a neighbour's measurement validity and sample counts. -/
  | pennantReset (r : Req) (arg : List Byte)
  /-- `HALYARD_SEND` (R233). The command sends a Halyard burst as a class-0 activity, or at once in M10. -/
  | halyardSend (r : Req) (arg : List Byte)
  /-- `HALYARD_SENT` (R233). A burst ends in full, refused, cut off or denied, and event 55 is raised. -/
  | halyardSent
  /-- `TIMED_TRANSMIT` (R195). The sequencer takes a P0 descriptor and places it on a transmit or multicast list, or schedules or refuses its timed transmission. -/
  | timedTransmit
  /-- `DOWNLINK_FRAME` (R20). The sequencer takes a Q32 frame onto its neighbour's transmit list. -/
  | downlinkFrame
  /-- `SECURE_FRAME` (R356). Frame security secures a Q33 frame, assigns its counter and returns it on Q34. -/
  | secureFrame
  /-- `SECURED_DOWNLINK` (R357). The sequencer takes a Q34 descriptor, keeping the frame for its cell or abandoning it on failure. -/
  | securedDownlink
  /-- `DELTA_SUBMIT` (R200). The command pushes the staged delta to P3 for checking. -/
  | deltaSubmit (r : Req) (arg : List Byte) (sigOk : Bool)
  /-- `DELTA_DISCARD` (R200). The command discards the staged delta. -/
  | deltaDiscard (r : Req) (arg : List Byte)
  /-- `DELTA_CHECK` (R185). The runtime checks a P3 delta in order, then accepts it as a pending version (late if need be) or rejects it, and reports DELTA_RESULT. -/
  | deltaCheck (sigOk : Bool)
  /-- `CELL_QUERY` (R200). The command returns the cell record of a given identity. -/
  | cellQuery (r : Req) (arg : List Byte)
  /-- `SF_SUSPEND_WRITE` (R193). Writing SF_SUSPEND stops or resumes preparation of a slotframe's cells from the next preparation. -/
  | sfSuspendWrite (r : Req) (h : Fin 64) (suspend : Byte)
  /-- `KEY_REQUEST` (R333). The runtime serves a P2 load or unpin request so that the SK is hot or released. -/
  | keyRequest
  /-- `PIN_EXPIRY` (R333). A key's pin lapses at its PIN_END. -/
  | pinExpiry
  /-- `INSTALL` (R337). A checked and committed INSTALL message installs or replaces a key, invalidating a replaced DMK. -/
  | install (r : Req) (arg : List Byte) (proof : KeyProof)
  /-- `INVALIDATE` (R338). A checked and committed INVALIDATE message removes a DMK or DGK, or clears a node's SK. -/
  | invalidate (r : Req) (arg : List Byte) (proof : KeyProof)
  /-- `TAMPER_CLEAR` (R350). A checked TAMPER_CLEAR message clears the tamper flag and latch, then resets after 100 ms. -/
  | tamperClear (r : Req) (arg : List Byte) (proof : KeyProof)
  /-- `SET_AUTHORITY` (R336). A checked message makes EPUB the AUTHORITY key. -/
  | setAuthority (r : Req) (arg : List Byte) (proof : KeyProof)
  /-- `KEY_EXPORT` (R339). The manager commits EXPORT_CTR and builds a wrapped key message for a named peer. -/
  | keyExport (r : Req) (arg : List Byte)
  /-- `KEY_REPLACE_COMPAT` (R341). The command replaces a DMK or DGK in the NQX-3310 manner after checking the unwrap and KCV. -/
  | keyReplaceCompat (r : Req) (arg : List Byte) (key : Option Nat)
  /-- `FORCE_REJOIN` (R338). The command invalidates a node's SK so that it must rejoin. -/
  | forceRejoin (r : Req) (arg : List Byte)
  /-- `SEC_QUERY` (R364). The command returns a node's security area without key material. -/
  | secQuery (r : Req) (arg : List Byte)
  /-- `REJOIN_REQUIRED_SWEEP` (R343). Within 2 s the runtime sets every district record to REJOIN_REQUIRED and clears SK_VALID. -/
  | rejoinRequiredSweep
  /-- `TAMPER` (R345). An enabled tamper input held for 1 µs zeroizes hot slots, aborts key operations and enters M11. -/
  | tamper (input : Fin 2) (active keyOp : Bool)
  /-- `TAMPER_FLAG_COMMIT` (R349). The persistent tamper flag commit is retried once per second until accepted. -/
  | tamperFlagCommit
  /-- `GROUP_FC_MARK_COMMIT` (R359). The next group counter mark is committed, or the commit is retried once per second. -/
  | groupFcMarkCommit
  /-- `GROUP_OVERLAP_END` (R361). At the end of GROUP_OVERLAP, the new DGK takes over with GROUP_FC = 0. -/
  | groupOverlapEnd
  /-- `HEARTBEAT_SEND` (R372). Every HB_INTERVAL the manager counts missed heartbeats, sends heartbeats and witness requests, and marks workers SUSPECT. -/
  | heartbeatSend
  /-- `OPEN` (R368). A signed OPEN from an accepted key opens or replaces a hierarchy link and is answered with OPEN_ACK. `pub` is
  the key under which OSIG verifies (0 none), `port` the UDP port at which it arrives. -/
  | openMsg (port opener ononce pub : Nat)
  /-- `OPEN_ACK` (R368). An OPEN_ACK completes link opening and derives the link key. ASIG verifies under
  `pub` (0 none) and covers an OPEN with `ononce`. -/
  | openAck (port peer link anonce ononce pub : Nat)
  /-- `HL_CLOSE` (R370). A hierarchy CLOSE message ends the link. -/
  | hlClose (h : HlHead) (reason : Nat)
  /-- `HL_MESSAGE_DISCARD` (R369). A link message with a bad tag, stale SEQ, reserved TYPE or wrong layout is discarded. -/
  | hlMessageDiscard
  /-- `REQUEST_REPEAT` (R369). An unanswered hierarchy request is sent again every 200 ms under a new SEQ. -/
  | requestRepeat
  /-- `HL_LINK_DOWN` (R369). A link that carries no valid message for 3 × HB_INTERVAL is down and is reopened. -/
  | hlLinkDown (peer : Nat)
  /-- `HEARTBEAT` (R373). A worker takes a heartbeat's lease, standby, revoke or epoch into its hierarchy state and answers HB_ACK. -/
  | heartbeat (h : HlHead) (hbSeq district : Nat) (revoke standby : Bool) (missLimit epoch hbInt : Nat) (leaseEnd : Int)
  /-- `HB_ACK` (R372). The manager records a worker's acknowledgement, state and alignment, ending any suspicion. -/
  | hbAck (h : HlHead) (hbSeq hstate schedState asn align backlog : Nat)
  /-- `LEASE_EXPIRED` (R374). At the first T0 at or after LEASE_END, transmission is cut off and the worker enters EXPIRED. -/
  | leaseExpired
  /-- `HEARTBEAT_MISS_LIMIT` (R377). A LEASED worker without heartbeats for MISS_LIMIT × HB_INT sends PEER_PROBE to its peers. -/
  | heartbeatMissLimit
  /-- `PEER_PROBE` (R370). A worker answers a peer probe with the age of its last heartbeat. -/
  | peerProbe (h : HlHead) (id : Nat)
  /-- `PEER_ANSWER` (R377). A peer answer is collected for the autonomy decision. -/
  | peerAnswer (h : HlHead) (id age : Nat)
  /-- `PEER_PROBE_TIMEOUT` (R377). After 500 ms of probing, the worker enters AUTONOMOUS or stays LEASED and probes again. -/
  | peerProbeTimeout
  /-- `AUTONOMY_END` (R378). At AUTONOMY_END the worker stops transmission and enters AUTONOMY_ENDED. -/
  | autonomyEnd
  /-- `WITNESS_REQ` (R379). A witness answers with the age and epoch of the last authentic beacon of the district. -/
  | witnessReq (h : HlHead) (id district : Nat)
  /-- `WITNESS_RSP` (R380). The manager collects a witness response and may declare the worker DEAD. -/
  | witnessRsp (h : HlHead) (id district age epoch : Nat)
  /-- `TAKEOVER_COMMAND` (R381). The command starts a planned takeover of a district. -/
  | takeoverCommand (r : Req) (arg : List Byte)
  /-- `TAKEOVER_START` (R381). The manager chooses a new server, commits the new epoch and sends TAKEOVER, keys, replication, deltas and RESTORE_END, retrying each second if needed. -/
  | takeoverStart
  /-- `TAKEOVER` (R384). A device enters TAKING_OVER and sets district, epoch and delta base. -/
  | takeover (h : HlHead) (district : Nat) (restart : Bool) (epoch baseSeq : Nat) (start : Int)
  /-- `REPL_DISTRICT` (R384). The receiver takes a district's time reference, template and counters, or the manager stores them. -/
  | replDistrict (h : HlHead) (district epoch asnRef : Nat) (asnRefTime : Int) (slotLen mark deltaSeq records : Nat)
  /-- `REPL_NODES` (R384). Replicated node records are created or stored. -/
  | replNodes (h : HlHead) (items : List ReplNode)
  /-- `REPL_GONE` (R388). Replicated records named as freed are removed. -/
  | replGone (h : HlHead) (records : List Nat)
  /-- `RESTORE_END` (R384). Once the restore is applied and SYNC_STATE is LOCKED, the device sends READY. -/
  | restoreEnd (h : HlHead) (records deltaSeq : Nat)
  /-- `READY` (R385). The manager answers READY with a leased heartbeat, or retries the takeover with the next candidate. -/
  | ready (h : HlHead) (district status : Nat)
  /-- `PEERS` (R392). A worker sets its peer list from a PEERS message. -/
  | peers (h : HlHead) (list : List PeerItem)
  /-- `KEY_MSG` (R391). A worker applies a key message under R337 and answers KEY_RESULT. -/
  | keyMsg (h : HlHead) (octets : List Byte) (proof : KeyProof)
  /-- `KEY_RESULT` (R370). The manager records the outcome of a key message. -/
  | keyResult (h : HlHead) (counter status : Nat)
  /-- `DELTA_PART` (R391). A device reassembles delta parts and pushes a complete delta to P3. -/
  | deltaPart (h : HlHead) (id total offset : Nat) (data : List Byte)
  /-- `DELTA_RESULT` (R370). The manager records a worker's delta outcome. -/
  | deltaResult (h : HlHead) (id status reason asn : Nat)
  /-- `RELAY_REQ` (R394). A worker serves a relayed QDL request at the ORIGIN level and answers RELAY_RSP. -/
  | relayReq (h : HlHead) (qseq origin : Nat) (inner : Inner)
  /-- `RELAY_RSP` (R60). The manager returns a worker's response to the relaying host. -/
  | relayRsp (h : HlHead) (qseq : Nat) (status : Status) (body : Body)
  /-- `REPORT` (R371). The manager takes a worker's report of near-far, lost cells, late switches, higher epochs or ended leases. -/
  | report (h : HlHead) (kind bandNo district epoch arg0 arg1 : Nat)
  /-- `HIERARCHY_CONTROL` (R371). The runtime takes a P4 descriptor and handles a link message or forwards a report. -/
  | hierarchyControl
  /-- `REPL_INTERVAL` (R388). The server sends REPL_DISTRICT and changed records every REPL_INTERVAL. -/
  | replInterval
  /-- `FULL_REPL_PERIOD` (R388). The server starts a paced full replication of every record. -/
  | fullReplPeriod
  /-- `CLAIM` (R390). The manager decides a worker's claim of a node by holder, sighting window and link quality. -/
  | claim (h : HlHead) (id eui lqi short : Nat) (sight : Int)
  /-- `VERDICT` (R389). A worker admits the held join on GRANT, or answers RESULT 3 on DENY. -/
  | verdict (h : HlHead) (id : Nat) (grant : Bool) (winner : Nat)
  /-- `CLAIM_WAIT` (R389). No verdict within CLAIM_WAIT, so the worker answers RESULT 3. -/
  | claimWait
  /-- `DROP` (R390). The worker sets the node DROPPED and removes it once its transmit list is empty. -/
  | drop (h : HlHead) (eui winner : Nat)
  /-- `ASSIGN` (R383). The command gives an unassigned district epoch 1 and a grid time reference, and serves it. -/
  | assign (r : Req) (arg : List Byte)
  /-- `DECLARE_DEAD` (R397). The command declares a SUSPECT worker dead without witnesses. -/
  | declareDead (r : Req) (arg : List Byte)
  /-- `W_PUBKEY_WRITE` (R398). Writing a linked device's W_PUBKEY closes its link. -/
  | wPubkeyWrite (r : Req) (w : Fin 160) (key : List Byte)
  /-- `EPOCH_COMMIT` (R366). The new epoch commit is retried once per second until accepted. -/
  | epochCommit
  /-- `SCRUB_BURST` (R248). When granted, the scrub reads, corrects or marks the next bursts and tests retired granules. -/
  | scrubBurst (bursts : Nat) (single double failed : List Nat)
  /-- `SCRUB_BEHIND` (R248). A scrub pass is unfinished at the end of its period, so SCRUB_BEHIND is set and the pace rises. -/
  | scrubBehind
  /-- `SCRUB_NOW` (R265). The command starts a scrub pass at the M10 rate. -/
  | scrubNow (r : Req) (arg : List Byte)
  /-- `QUEUE_PUSH` (R254). A producer claims space and writes a packet, which is committed, refused or rewound. -/
  | queuePush (q : Fin 56) (d : Desc) (abort : Bool)
  /-- `QUEUE_POP` (R255). A consumer reads the oldest visible packet and frees its slot, with bank swap for ping-pong queues. -/
  | queuePop (q : Fin 56)
  /-- `DROP_REST` (R255). The consumer skips the remaining words of a packet it is reading. -/
  | dropRest (q : Fin 56)
  /-- `QUEUE_FAULT` (R261). A pointer mismatch, depth overrun or uncorrectable word freezes the queue and starts recovery. -/
  | queueFault (q : Fin 56) (word : Bool) (lost : Option (Fin 512))
  /-- `QUEUE_REOPEN` (R261). Recovery completes, the queue reopens empty and its buffers are released, or a third fault quarantines it. -/
  | queueReopen (q : Fin 56)
  /-- `QUEUE_RESTORE` (R266). The command empties and reopens a quarantined queue. -/
  | queueRestore (r : Req) (arg : List Byte)
  /-- `FORWARD_UPLINK` (R289). The forwarding engine decompresses, reassembles, looks up and forwards or diverts a Q3 packet. -/
  | forwardUplink
  /-- `FORWARD_DOWNLINK` (R290). The engine resolves, source-routes, compresses and fragments a Q6, Q7 or Q37 packet to the airtime queues. -/
  | forwardDownlink
  /-- `EXCEPTION_PACKET` (R295). The runtime takes a Q5 exception or local packet, such as a learn notice, RPL message or ICMP error case. -/
  | exceptionPacket
  /-- `LEARN_RETRY` (R284). Owed learn notifications are pushed again once per millisecond. -/
  | learnRetry
  /-- `LEARN_TIMEOUT` (R284). A candidate expires LEARN_TIMEOUT after its first sighting. -/
  | learnTimeout
  /-- `NODE_INSERT` (R278). The engine inserts or updates an entry, relocating entries or using overflow, or refuses with TABLE_FULL. -/
  | nodeInsert (eui short worker district record : Nat)
  /-- `TABLE_REBUILD` (R281). The runtime reinserts the nodes of a cleared bucket after a table loss. -/
  | tableRebuild
  /-- `SWEEP_VISIT` (R286). When granted, the sweeper visits the next entries, clearing HIT, setting STALE or removing them. -/
  | sweepVisit (visits : Nat)
  /-- `AGE_BEHIND` (R287). An ageing pass is unfinished at the end of its period and runs faster. -/
  | ageBehind
  /-- `NODE_QUERY` (R297). The command returns a node's entry and routing area. -/
  | nodeQuery (r : Req) (arg : List Byte)
  /-- `NODE_REMOVE` (R282). The command removes a node's entry, record, Pennant and wrapped key. -/
  | nodeRemove (r : Req) (arg : List Byte)
  /-- `NODE_STATIC` (R297). The command sets or clears STATIC of a node entry. -/
  | nodeStatic (r : Req) (arg : List Byte)
  /-- `REASM_TIMEOUT` (R292). An incomplete reassembly is discarded after REASM_TIMEOUT. -/
  | reasmTimeout
  /-- `DAO` (R293). An accepted DAO sets the target's parent, sequences and route expiry. -/
  | dao
  /-- `ROUTE_EXPIRY` (R293). The runtime clears ROUTE_VALID of a route at its expiry. -/
  | routeExpiry
  /-- `DIO_TRICKLE` (R291). A Trickle interval expiry sends a DIO unless suppressed. -/
  | dioTrickle
  /-- `ETHERNET_TRANSMIT` (R305). An idle port starts the head packet of the highest eligible class whose gate window fits it. -/
  | ethernetTransmit (prt : Fin 2)
  /-- `LINK_DOWN` (R306). A port's link goes down, its queued packets are discarded and its shaper credits cleared. -/
  | linkDown (prt : Fin 2)
  /-- `LINK_UP` (R563). A port's link comes up after training. -/
  | linkUp (prt : Fin 2) (speed : Fin 5)
  /-- `GATE_COMMIT` (R309). The command checks and commits the pending gate list and fixes its switch instant. -/
  | gateCommit (r : Req) (prt : Fin 2) (arg : List Byte)
  /-- `GATE_CANCEL` (R322). The command discards a waiting gate list. -/
  | gateCancel (r : Req) (prt : Fin 2) (arg : List Byte)
  /-- `GATE_SWITCHED` (R309). At the switch instant the pending list becomes active. -/
  | gateSwitched (prt : Fin 2)
  /-- `GATE_ENTRY_BOUNDARY` (R307). The active list moves to its next entry or cycle and the gates change. -/
  | gateEntryBoundary (prt : Fin 2)
  /-- `MESH_SHAPER_TURN` (R315). The airtime shaper releases held frames and pops a class head to Q32 or the hold. -/
  | meshShaperTurn
  /-- `HOLD_EXPIRED` (R317). A held frame older than TX_HOLD_MAX is discarded. -/
  | holdExpired
  /-- `NB_QUERY` (R320). The command returns a neighbour's airtime ledger entry. -/
  | nbQuery (r : Req) (arg : List Byte)
  /-- `IMAGE_COMMIT` (R401). The command accepts the staged image for a digest check and copy into a slot. -/
  | imageCommit (r : Req) (arg : List Byte)
  /-- `IMAGE_COMMITTED` (R401). The digest check completes, and the image is committed into the slot or the slot is left unchanged. -/
  | imageCommitted
  /-- `IMAGE_DELETE` (R422). The command empties an unused repository slot. -/
  | imageDelete (r : Req) (arg : List Byte)
  /-- `IMAGE_DISCARD` (R401). The command discards the staged image. -/
  | imageDiscard (r : Req) (arg : List Byte)
  /-- `C_START` (R405). The command selects targets and starts a campaign in ANNOUNCING. -/
  | cStart (r : Req) (c : Fin 8) (arg : List Byte)
  /-- `C_PAUSE` (R417). The command pauses a campaign. -/
  | cPause (r : Req) (c : Fin 8) (arg : List Byte)
  /-- `C_RESUME` (R417). The command returns a paused campaign to its prior state. -/
  | cResume (r : Req) (c : Fin 8) (arg : List Byte)
  /-- `C_ABORT` (R417). The command ends a campaign and discards its waiting frames. -/
  | cAbort (r : Req) (c : Fin 8) (arg : List Byte)
  /-- `CAMPAIGN_ASSIGN` (R418). The manager loads an image and parameters on a worker through relays and starts the campaign. -/
  | campaignAssign (r : Req) (arg : List Byte)
  /-- `BUNTING_QUERY` (R422). The command returns a node's Bunting area. -/
  | buntingQuery (r : Req) (arg : List Byte)
  /-- `BLOCK_REQ` (R412). Bunting applies a node's block request to its progress and demand, and queues repairs. -/
  | blockReq
  /-- `MULTICAST_FRAME_SENT` (R420). Bunting takes the sequencer's report that a multicast frame was sent, and advances the round. -/
  | multicastFrameSent
  /-- `REPAIR_ACKNOWLEDGED` (R415). A repair frame is reported acknowledged and stops being outstanding. -/
  | repairAcknowledged
  /-- `REPAIR_ABANDONED` (R415). A repair frame is reported abandoned and stops being outstanding. -/
  | repairAbandoned
  /-- `FRAME_DISCARDED` (R420). Bunting takes a report of a frame discarded after an abort. -/
  | frameDiscarded
  /-- `IMAGE_BLOCK` (R414). The sequencer takes a Q35 frame onto its group's multicast list or a neighbour's transmit list. -/
  | imageBlock
  /-- `BUNTING_FRAME_PUSH` (R414). Bunting builds and pushes the next announce, block or repair frame when fewer than four are outstanding. -/
  | buntingFramePush (c : Fin 8) (repair : Bool)
  /-- `ROUND_GAP_END` (R413). At the end of a gap the campaign ends, starts another gap or starts the next round. -/
  | roundGapEnd (c : Fin 8)
  /-- `TARGET_CHECK` (R416). The once-per-second check fails silent or late targets and ends resolved campaigns. -/
  | targetCheck
  /-- `CAMPAIGN_STALLED` (R417). A campaign with no cells or no frame for STALL_TIME raises event 107. -/
  | campaignStalled (c : Fin 8)
  /-- `BUNTING_CONTROL` (R421). The runtime takes a P6 report of a state change, target resolution or image damage. -/
  | buntingControl
  /-- `REFILL` (R425). Each millisecond the governor adds the refill rate to E, clips it and updates the profile. -/
  | refill
  /-- `RECONCILIATION` (R428). Each second the governor subtracts the measured energy from E and adds back the forecasts of ended activities. -/
  | reconciliation (samples : List (Nat × Nat))
  /-- `BATT_STALE` (R427). BATT_SOC goes unwritten for BATT_AGE_MAX, reducing the day rate and raising event 10. -/
  | battStale
  /-- `SENSOR_SAMPLE` (R430). Each millisecond the sensors are read, faults are judged and H, the governor state and calibration triggers are tested. -/
  | sensorSample (temps : List Int) (holdup : Nat)
  /-- `CMD_DEFER_MAX` (R438). A MODE 1 command deferred for CMD_DEFER_MAX completes with BUDGET_DENIED. -/
  | cmdDeferMax (key : Nat)
  /-- `GOVERNOR_COMMAND` (R444). The runtime takes a P7 report and holds or resumes deferrable work. -/
  | governorCommand
  /-- `DUTY_MODE_WRITE` (R452). Writing DUTY_MODE moves the device between M6 and M7 from the next preparation. -/
  | dutyModeWrite (r : Req) (value : Byte)
  /-- `MAINTENANCE_ENTER` (R457). The command with ENTER = 1 moves the device into M10 when no schedule runs. -/
  | maintenanceEnter (r : Req) (arg : List Byte)
  /-- `MAINTENANCE_EXIT` (R457). The command with ENTER = 0 returns the device from M10 to its base mode. -/
  | maintenanceExit (r : Req) (arg : List Byte)
  /-- `SLEEP` (R461). The command checks a sleep request and accepts it. -/
  | sleep (r : Req) (arg : List Byte)
  /-- `SLEEP_ENTRY` (R462). Entry begins 50 ms after the response and switches domains off, latches pads and arms the wake sources. -/
  | sleepEntry
  /-- `WAKE_IN` (R465). WAKE_IN held at its level for 100 µs wakes the device. -/
  | wakeIn
  /-- `WAKE_ALARM` (R465). The first slow tick at or after ALARM wakes the device. -/
  | wakeAlarm
  /-- `E0_LINK_ENERGY` (R466). Signal energy on E0 for 1 ms wakes the device from M2 or M3. -/
  | e0LinkEnergy
  /-- `HALYARD_WINDOW` (R467). Every 100 ms the detector samples a 2 ms window and wakes the device on a matching ID, or counts a foreign match. -/
  | halyardWindow (symbols : Fin 65) (complements : Bool) (ident : BitVec 16)
  /-- `POWER_GOOD` (R480). VCORE_PG asserts and the start sequence runs its steps through to the base mode, M5 or M11. -/
  | powerGood (b : BootResult)
  /-- `POWER_GOOD_TIMEOUT` (R468). Power-good does not arrive within 20 ms, and VCORE is retried, or the device returns to sleep or keeps retrying. -/
  | powerGoodTimeout
  /-- `POWER_ON` (R479). VAON above 1.62 V for 1 ms takes D0 out of reset, which then commands VCORE on, or TEST_EN enters factory test. -/
  | powerOn (testEn : Bool)
  /-- `BROWNOUT` (R472). Regulator overload or low VAON for 20 µs causes a cold reset. -/
  | brownout (overload : Bool)
  /-- `POWER_OFF` (R452). VAON is removed and the device enters M0. -/
  | powerOff
  /-- `STORE_CLEAR_DONE` (R238). The central store clear and read-back completes, or fails with detail 4. -/
  | storeClearDone (failed : Nat)
  /-- `RUNTIME_READY` (R483). The runtime reports ready and the start continues. -/
  | runtimeReady (migrationOk : Bool)
  /-- `WATCHDOG` (R483). The runtime is not ready within 2 s, so the device resets, or enters M11 after the third time. -/
  | watchdog
  /-- `ROOT_COMMIT` (R486). In M5 the drawn root is committed, with retries once per second. -/
  | rootCommit (trngOk : Bool)
  /-- `PROVISION_COMMIT` (R487). The command checks provisioning, commits the record and lock, and resets after 100 ms. -/
  | provisionCommit (r : Req) (arg : List Byte)
  /-- `RESET` (R488). The command resets the device 100 ms after the response. -/
  | reset (r : Req) (arg : List Byte)
  /-- `DEVICE_RESET` (R478). A commanded or delayed reset begins with its cause and turns VCORE off for 10 ms. -/
  | deviceReset
  /-- `PAD_RELEASE` (R474). The command releases latched pads to their domain's levels. -/
  | padRelease (r : Req) (arg : List Byte)
  /-- `COMMIT` (R493). A persistent commit passes the hold-up check, journals its items, writes its marker and updates home words. -/
  | commit (verifyFail : Option (Fin 153)) (homed : Bool)
  /-- `WEAR_MOVE` (R495). When granted, a worn page is copied to a spare and switched in by a directory commit. -/
  | wearMove (page : Fin 153) (powerLost : Bool)
  /-- `FW_WRITE` (R509). The command accepts the staged image for checking and writing into a slot. -/
  | fwWrite (r : Req) (arg : List Byte)
  /-- `FW_WRITTEN` (R509). The slot write completes READY, or fails with its reason. -/
  | fwWritten (sigOk tagsOk digestOk : Bool) (flashBad : Option Nat)
  /-- `FW_DISCARD` (R509). The command discards the staged image file. -/
  | fwDiscard (r : Req) (arg : List Byte)
  /-- `FW_HOIST` (R511). The command verifies the READY slot, checks hold-up and commits it as TRIAL. -/
  | fwHoist (r : Req) (arg : List Byte) (found : Nat)
  /-- `HOIST_ACTIVATION` (R512). In M9 the runtime hands over, the new runtime starts and migrates, or falls back, and the schedule resumes. -/
  | hoistActivation (ready migrationOk : Bool)
  /-- `FW_CONFIRM` (R517). The command confirms the TRIAL slot as GOOD and raises SEC_FLOOR. -/
  | fwConfirm (r : Req) (arg : List Byte)
  /-- `AUTO_CONFIRM` (R517). AUTO_CONFIRM seconds after TRIAL_SINCE, the trial slot is confirmed. -/
  | autoConfirm
  /-- `FW_REVERT` (R518). The command ends a trial and returns to the GOOD slot. -/
  | fwRevert (r : Req) (arg : List Byte)
  /-- `TIMER_EXPIRY` (R527). A timer's count reaches its period and it expires periodically or as a one-shot. -/
  | timerExpiry (n : Fin 24)
  /-- `TIMER_WRAP` (R527). A timer's count wraps at 2⁴⁸, setting WRAP. -/
  | timerWrap (n : Fin 24)
  /-- `TIMER_CAPTURE` (R531). A capture edge copies COUNT into the capture register, possibly setting OVERRUN. -/
  | timerCapture (n : Fin 24) (falling : Bool)
  /-- `CAP_LO_READ` (R531). A READ of CAP_LO returns the capture, latches CAP_HI and clears CAP_NEW. -/
  | capLoRead (r : Req) (n : Fin 24) (captured : Bool)
  /-- `PERIOD_WRITE` (R529). Writing PERIOD takes effect at the next tick, possibly expiring the timer at once. -/
  | periodWrite (r : Req) (n : Fin 24) (period : BitVec 64)
  /-- `ARM` (R528). The command sets COUNT to PHASE and starts the timer. -/
  | arm (r : Req) (n : Fin 24) (arg : List Byte)
  /-- `STOP` (R528). The command stops the timer and keeps COUNT. -/
  | stop (r : Req) (n : Fin 24) (arg : List Byte)
  /-- `CLEAR_FLAGS` (R537). The command clears EXPIRED, OVERRUN and WRAP as masked. -/
  | clearFlags (r : Req) (n : Fin 24) (arg : List Byte)
  /-- `GROUP_START` (R533). The command starts every timer of a group on one tick, optionally staggered. -/
  | groupStart (r : Req) (arg : List Byte)
  /-- `GROUP_STOP` (R536). The command stops every timer of a group on one tick. -/
  | groupStop (r : Req) (arg : List Byte)
  /-- `DEBUG_HALT` (R532). A debug halt begins or ends, freezing or releasing timers with HALT_FREEZE. -/
  | debugHalt (begin_ : Bool)
  /-- `EVENT_NOTIFICATION` (R542). The runtime takes a P5 descriptor, sends NOTIFY to subscribers and writes telemetry. -/
  | eventNotification
  /-- `EVT_ACK` (R541). The command clears the named pending event bits. -/
  | evtAck (r : Req) (arg : List Byte)
  /-- `ERROR_RECORD` (R552). The runtime pops an error record from P1 into ERR_LOG and telemetry. -/
  | errorRecord
  /-- `ERR_LOG_CLEAR` (R559). The command empties ERR_LOG. -/
  | errLogClear (r : Req) (arg : List Byte)
  /-- `UNIT_FAULT` (R548). A unit detects its own fault, commits an error record and begins recovery, nesting or quarantining. -/
  | unitFault (u : RecoverUnit) (state : Bool) (check : Nat)
  /-- `UNIT_RECOVERED` (R548). A unit's recovery ends and it takes its next item of work. -/
  | unitRecovered (u : RecoverUnit)
  /-- `UNIT_RESTORE` (R550). The command returns a quarantined unit to service. -/
  | unitRestore (r : Req) (arg : List Byte)
  /-- `RUNTIME_FAULT` (R551). A runtime fault latches a fatal record, stops transmission and resets within 1 ms. -/
  | runtimeFault (cause : FatalCause) (unit_ : Nat)
  /-- `TELEM_WRITE` (R554). When granted, staged telemetry records are copied into the ring. -/
  | telemWrite
  /-- `SAMPLE` (R555). Every SAMPLE_PERIOD the runtime reads SAMPLE_LIST and stages a SAMPLE record. -/
  | sample
  /-- `TELEM_FREEZE` (R556). The command freezes or resumes copies into the telemetry ring. -/
  | telemFreeze (r : Req) (arg : List Byte)
  /-- `ETHERNET_RECEIVE` (R564). A port checks a received frame and pushes it to Q6 or Q7, or discards it. -/
  | ethernetReceive (prt : Fin 2) (fcsGood : Bool) (f : EthFrame)
  /-- `PORT_MODE_WRITE` (R563). Writing PORT_MODE or AUTONEG retrains the link after the response. -/
  | portModeWrite (r : Req) (prt : Fin 2) (autoneg : Bool) (value : Byte)
  /-- `ROUTER_ADVERTISEMENT` (R567). A Router Advertisement supplies the autoconfiguration prefix and default router. -/
  | routerAdvertisement (router : Nat) (pfx : Option Nat)
  /-- `NEIGHBOR_SOLICITATION` (R567). The device answers a Neighbor Solicitation or ARP request for its own address. -/
  | neighborSolicitation (prt : Fin 2) (arp : Bool) (target : Nat)
  /-- `MUART_FRAME` (R569). A delimited MUART frame is unstuffed, CRC-checked and taken as a PDU or discarded. -/
  | muartFrame (octets : List Byte) (lineError tagOk sigOk : Bool)
  /-- `MUART_IDLE_TIMEOUT` (R569). A partial frame is dropped after 100 ms without a byte. -/
  | muartIdleTimeout
  /-- `BAUD_WRITE` (R568). Writing BAUD changes the rate 10 ms after the response. -/
  | baudWrite (r : Req) (baud : BitVec 32)
  /-- `MSPI_WRITE` (R570). An MSPI WRITE transaction delivers a PDU, accepted at the rise of MSPI_CS_N if it is sound. -/
  | mspiWrite (len : Nat) (octets : List Byte) (crc : BitVec 32) (tagOk sigOk : Bool)
  /-- `MSPI_READ` (R570). An MSPI READ transaction returns the oldest outbound PDU, which leaves the buffer if clocked in full. -/
  | mspiRead (clocked : Nat)
  /-- `MSPI_STATUS` (R570). An MSPI STATUS transaction returns TXLEN and RXFREE. -/
  | mspiStatus (command : Byte)
  /-- `VCORE_SET_WRITE` (R576). A committed VCORE_SET write sends the voltage code to the PMIC. -/
  | vcoreSetWrite (r : Req) (value : BitVec 16) (nacks : Fin 5)
  /-- `GPIO_OUT_WRITE` (R577). Writing GPIO_OUT drives the pin, or stores the level while the pads are latched. -/
  | gpioOutWrite (r : Req) (n : Fin 24) (high : Byte)
  /-- `EXTEST` (R579). Loading EXTEST, CLAMP or HIGHZ hands the pads to the scan chain and stops transmission. -/
  | extest
  /-- `IDCODE` (R579). IDCODE or BYPASS after a pad-controlling instruction resets the device with cause 4. -/
  | idcode
  /-- `SETTINGS_MIGRATION_RETRY` (R514). During a start, a settings migration commit refused with HOLDUP_LOW is retried once per second while steps 11–14 of R480 wait. -/
  | settingsMigrationRetry (migrationOk : Bool)
  /-- `CONFIRM_COMMIT_RETRY` (R517). A confirmation commit refused by the hold-up check is retried once per second until the slot becomes GOOD. -/
  | confirmCommitRetry
  /-- `DUPLICATE_ADDRESS_DETECTION` (R567). Duplicate Address Detection on an IPv6 management address ends, and the address is either taken into use or counted in DAD_FAILS and left unused. -/
  | duplicateAddressDetection (addr : Nat) (duplicate : Bool)
  /-- `MUART_CTS_N` (R568). With FLOW true, a change of MUART_CTS_N stops or resumes the device's transmission of MUART bytes. -/
  | muartCtsN (asserted : Bool)
  /-- `P0_DESCRIPTOR_RETURNED` (R195). The runtime takes from Q4 a P0 descriptor returned with its DSTAT and stamped time, and takes back ownership of its buffer. -/
  | p0DescriptorReturned
  deriving DecidableEq, Repr

end Sys2Proof
end

