-- ==== Sys2Proof/WellFormed.lean ====
section
/-!
DEFINITION. Which commands can be carried at all: every operand lies within the width that the spec gives its field. The meanings do not rest on
it; a command outside it is no command that a transport or a pin could bring.
-/
namespace Sys2Proof

/-- A number of `n` bits. -/
def fits (n v : Nat) : Bool := v < 2 ^ n

/-- An IPv6 address (R567). -/
def addrOk (v : Nat) : Bool := fits 128 v

/-- VER, the UDP addresses and ports of a PDU (R35, R38). -/
def pduOk (h : PduHead) : Bool :=
  fits 8 h.ver && addrOk h.dst && fits 16 h.dport && (match h.via with | .udp _ _ a p => addrOk a && fits 16 p | _ => true)

/-- SESSION and SEQ of a PDU (R35). -/
def reqOk (r : Req) : Bool := fits 32 r.session && fits 32 r.seq && pduOk r.head

/-- ARG of an EXEC fits the body (R35, R50). -/
def argOk (l : List Byte) : Bool := l.length ≤ 1450

/-- DATA of a BULK write fits the body (R35, R55). -/
def dataOk (l : List Byte) : Bool := l.length ≤ 1444

/-- READ items: COUNT, INDEX and SUB (R45). -/
def ritemsOk (l : List RItem) : Bool := fits 16 l.length && l.all (fun i => fits 16 i.idx && fits 8 i.sub)

/-- WRITE items: COUNT, INDEX, SUB, TYPE and VLEN (R45). -/
def witemsOk (l : List WItem) : Bool :=
  fits 16 l.length && l.all (fun i => fits 16 i.idx && fits 8 i.sub && fits 8 i.ty && fits 16 i.value.length)

/-- The fields of a request by its operation (R36). -/
def innerOk : Inner → Bool
  | .read _ items => ritemsOk items
  | .write _ items => witemsOk items
  | .exec idx sub arg => fits 16 idx && fits 8 sub && argOk arg
  | .bulkRead idx sub off len => fits 16 idx && fits 8 sub && fits 32 off && fits 16 len
  | .bulkWrite idx sub off data => fits 16 idx && fits 8 sub && fits 32 off && dataOk data
  | .subscribe action kind idx sub minMs => fits 8 action && fits 8 kind && fits 16 idx && fits 8 sub && fits 16 minMs
  | .relay target inner => fits 8 target && innerOk inner
  | .other op => fits 8 op

/-- LINK and SEQ of a link message (R369), and the port it comes to. -/
def headOk (h : HlHead) : Bool := fits 32 h.link && fits 32 h.seq && fits 16 h.port

/-- The common fields of a descriptor (R250). -/
def descOk (d : Desc) : Bool :=
  fits 8 d.dtype && fits 8 d.dstat && d.len ≤ 2016 && (match d.buf with | some g => fits 32 g | none => true)

/-- The fields of an Ethernet frame (R564, R565). -/
def ethOk (f : EthFrame) : Bool := fits 48 f.dst && fits 48 f.src && f.tags.all (fits 16) && fits 16 f.etherType

/-- The head of a PTP message (R79, IEEE 1588). -/
def ptpOk (h : PtpHead) : Bool := h.transport ≤ 2 && fits 8 h.domain && fits 16 h.seq && fits 64 h.source && fits 16 h.sourcePort

/-- The fields of a PTP Sync (R79, IEEE 1588). -/
def syncOk (m : PtpSync) : Bool := ptpOk m.head

/-- The fields of a PTP Announce (R79, IEEE 1588). -/
def announceOk (m : PtpAnnounce) : Bool :=
  ptpOk m.head && fits 8 m.priority1 && fits 8 m.clockClass && fits 8 m.accuracy && fits 16 m.variance
    && fits 8 m.priority2 && fits 64 m.grandmaster && fits 16 m.stepsRemoved

/-- A command whose operands lie within the fields that carry them. -/
def Instr.wf : Instr → Bool
  | .entryWrite r _ items => reqOk r && witemsOk items
  | .loRead r _ items => reqOk r && ritemsOk items
  | .hiRead r _ items => reqOk r && ritemsOk items
  | .bulkWrite r idx sub off data => reqOk r && fits 16 idx && fits 8 sub && fits 32 off && dataOk data
  | .subscribe r action kind idx sub minMs => reqOk r && fits 8 action && fits 8 kind && fits 16 idx && fits 8 sub && fits 16 minMs
  | .notify session subId => fits 32 session && fits 8 subId
  | .hello h seq cred hnonce hpub => pduOk h && fits 32 seq && fits 8 cred && fits 128 hnonce && fits 512 hpub
  | .proof h session seq _ => pduOk h && fits 32 session && fits 32 seq
  | .proofTimeout session => fits 32 session
  | .credentialRefusalEnd _ => true
  | .close r => reqOk r
  | .sessionIdleTimeout session => fits 32 session
  | .relay r target inner => reqOk r && fits 8 target && innerOk inner
  | .relayTimeout target qseq => fits 8 target && fits 32 qseq
  | .closeAll r arg => reqOk r && argOk arg
  | .credEnableWrite r _ _ => reqOk r
  | .refLost => true
  | .refRestored => true
  | .refRelockTimeout => true
  | .slowCalibration _ _ => true
  | .phaseSlewEnd => true
  | .step r arg => reqOk r && argOk arg
  | .tbSourceWrite r _ => reqOk r
  | .sync m => syncOk m
  | .followUp h _ _ => ptpOk h
  | .delayReq h _ => ptpOk h
  | .delayResp h _ _ _ => ptpOk h
  | .announce m => announceOk m
  | .ptpDiscard _ transport => transport ≤ 2
  | .ptpInterval _ => true
  | .sourceTimeout => true
  | .ppsInEdge _ => true
  | .ppsInMissing => true
  | .ppsOutStart => true
  | .ppsOutEnd => true
  | .alignExceeded => true
  | .calibrate r _ arg => reqOk r && argOk arg
  | .calDone _ _ => true
  | .calAbandoned _ => true
  | .maskViolation _ => true
  | .clearInhibit r _ arg => reqOk r && argOk arg
  | .slotPreparation => true
  | .slotStart => true
  | .windowOpen _ handle loc => fits 8 handle && fits 8 loc
  | .windowClose _ handle loc => fits 8 handle && fits 8 loc
  | .cellTransmit _ _ _ => true
  | .ackTransmit _ _ _ => true
  | .ackWindowClose _ => true
  | .preambleAcquired _ _ _ => true
  | .correlatorHandover _ _ _ => true
  | .rehome _ _ _ => true
  | .sfdFound _ _ => true
  | .preambleTimeout _ => true
  | .phrReceived _ _ _ => true
  | .capture _ _ psdu => psdu.length ≤ 511
  | .lastPsduChip _ _ _ _ _ _ => true
  | .laneFault _ _ => true
  | .laneRecovered _ => true
  | .laneRestore r _ arg => reqOk r && argOk arg
  | .rxVerify _ => true
  | .frameJudgement => true
  | .hitMark => true
  | .adriftCheck => true
  | .txHoldCheck => true
  | .joinReq => true
  | .joinTimeout => true
  | .rxNotOkRecord => true
  | .pennantQuery r arg => reqOk r && argOk arg
  | .pennantReset r arg => reqOk r && argOk arg
  | .halyardSend r arg => reqOk r && argOk arg
  | .halyardSent => true
  | .timedTransmit => true
  | .downlinkFrame => true
  | .secureFrame => true
  | .securedDownlink => true
  | .deltaSubmit r arg _ => reqOk r && argOk arg
  | .deltaDiscard r arg => reqOk r && argOk arg
  | .deltaCheck _ => true
  | .cellQuery r arg => reqOk r && argOk arg
  | .sfSuspendWrite r _ _ => reqOk r
  | .keyRequest => true
  | .pinExpiry => true
  | .install r arg _ => reqOk r && argOk arg
  | .invalidate r arg _ => reqOk r && argOk arg
  | .tamperClear r arg _ => reqOk r && argOk arg
  | .setAuthority r arg _ => reqOk r && argOk arg
  | .keyExport r arg => reqOk r && argOk arg
  | .keyReplaceCompat r arg _ => reqOk r && argOk arg
  | .forceRejoin r arg => reqOk r && argOk arg
  | .secQuery r arg => reqOk r && argOk arg
  | .rejoinRequiredSweep => true
  | .tamper _ _ _ => true
  | .tamperFlagCommit => true
  | .groupFcMarkCommit => true
  | .groupOverlapEnd => true
  | .heartbeatSend => true
  | .openMsg port opener _ _ => fits 16 port && fits 8 opener
  | .openAck port peer link _ _ _ => fits 16 port && fits 8 peer && fits 32 link
  | .hlClose h reason => headOk h && fits 8 reason
  | .hlMessageDiscard => true
  | .requestRepeat => true
  | .hlLinkDown peer => fits 8 peer
  | .heartbeat h hbSeq district _ _ missLimit epoch hbInt _ => headOk h && fits 32 hbSeq && fits 16 district && fits 8 missLimit && fits 32 epoch && fits 16 hbInt
  | .hbAck h hbSeq hstate schedState asn align backlog => headOk h && fits 32 hbSeq && fits 8 hstate && fits 8 schedState && fits 64 asn && fits 32 align && fits 32 backlog
  | .leaseExpired => true
  | .heartbeatMissLimit => true
  | .peerProbe h id => headOk h && fits 32 id
  | .peerAnswer h id age => headOk h && fits 32 id && fits 32 age
  | .peerProbeTimeout => true
  | .autonomyEnd => true
  | .witnessReq h id district => headOk h && fits 32 id && fits 16 district
  | .witnessRsp h id district age epoch => headOk h && fits 32 id && fits 16 district && fits 32 age && fits 32 epoch
  | .takeoverCommand r arg => reqOk r && argOk arg
  | .takeoverStart => true
  | .takeover h district _ epoch baseSeq _ => headOk h && fits 16 district && fits 32 epoch && fits 32 baseSeq
  | .replDistrict h district epoch asnRef _ slotLen mark deltaSeq records => headOk h && fits 16 district && fits 32 epoch && fits 64 asnRef && fits 32 slotLen && fits 32 mark && fits 32 deltaSeq && fits 32 records
  | .replNodes h _ => headOk h
  | .replGone h _ => headOk h
  | .restoreEnd h records deltaSeq => headOk h && fits 32 records && fits 32 deltaSeq
  | .ready h district status => headOk h && fits 16 district && fits 16 status
  | .peers h _ => headOk h
  | .keyMsg h octets _ => headOk h && decide (octets.length = 240)
  | .keyResult h counter status => headOk h && fits 64 counter && fits 16 status
  | .deltaPart h id total offset data => headOk h && fits 32 id && fits 32 total && fits 32 offset && dataOk data
  | .deltaResult h id status reason asn => headOk h && fits 32 id && fits 16 status && fits 8 reason && fits 64 asn
  | .relayReq h qseq origin inner => headOk h && fits 32 qseq && fits 8 origin && innerOk inner
  | .relayRsp h qseq _ _ => headOk h && fits 32 qseq
  | .report h kind bandNo district epoch arg0 arg1 => headOk h && fits 8 kind && fits 8 bandNo && fits 16 district && fits 32 epoch && fits 64 arg0 && fits 64 arg1
  | .hierarchyControl => true
  | .replInterval => true
  | .fullReplPeriod => true
  | .claim h id eui lqi short _ => headOk h && fits 32 id && fits 64 eui && fits 8 lqi && fits 16 short
  | .verdict h id _ winner => headOk h && fits 32 id && fits 8 winner
  | .claimWait => true
  | .drop h eui winner => headOk h && fits 64 eui && fits 8 winner
  | .assign r arg => reqOk r && argOk arg
  | .declareDead r arg => reqOk r && argOk arg
  | .wPubkeyWrite r _ key => reqOk r && argOk key
  | .epochCommit => true
  | .scrubBurst _ _ _ _ => true
  | .scrubBehind => true
  | .scrubNow r arg => reqOk r && argOk arg
  | .queuePush _ d _ => descOk d
  | .queuePop _ => true
  | .dropRest _ => true
  | .queueFault _ _ _ => true
  | .queueReopen _ => true
  | .queueRestore r arg => reqOk r && argOk arg
  | .forwardUplink => true
  | .forwardDownlink => true
  | .exceptionPacket => true
  | .learnRetry => true
  | .learnTimeout => true
  | .nodeInsert eui short worker district record => fits 64 eui && fits 16 short && fits 8 worker && fits 16 district && fits 32 record
  | .tableRebuild => true
  | .sweepVisit _ => true
  | .ageBehind => true
  | .nodeQuery r arg => reqOk r && argOk arg
  | .nodeRemove r arg => reqOk r && argOk arg
  | .nodeStatic r arg => reqOk r && argOk arg
  | .reasmTimeout => true
  | .dao => true
  | .routeExpiry => true
  | .dioTrickle => true
  | .ethernetTransmit _ => true
  | .linkDown _ => true
  | .linkUp _ _ => true
  | .gateCommit r _ arg => reqOk r && argOk arg
  | .gateCancel r _ arg => reqOk r && argOk arg
  | .gateSwitched _ => true
  | .gateEntryBoundary _ => true
  | .meshShaperTurn => true
  | .holdExpired => true
  | .nbQuery r arg => reqOk r && argOk arg
  | .imageCommit r arg => reqOk r && argOk arg
  | .imageCommitted => true
  | .imageDelete r arg => reqOk r && argOk arg
  | .imageDiscard r arg => reqOk r && argOk arg
  | .cStart r _ arg => reqOk r && argOk arg
  | .cPause r _ arg => reqOk r && argOk arg
  | .cResume r _ arg => reqOk r && argOk arg
  | .cAbort r _ arg => reqOk r && argOk arg
  | .campaignAssign r arg => reqOk r && argOk arg
  | .buntingQuery r arg => reqOk r && argOk arg
  | .blockReq => true
  | .multicastFrameSent => true
  | .repairAcknowledged => true
  | .repairAbandoned => true
  | .frameDiscarded => true
  | .imageBlock => true
  | .buntingFramePush _ _ => true
  | .roundGapEnd _ => true
  | .targetCheck => true
  | .campaignStalled _ => true
  | .buntingControl => true
  | .refill => true
  | .reconciliation _ => true
  | .battStale => true
  | .sensorSample _ _ => true
  | .cmdDeferMax _ => true
  | .governorCommand => true
  | .dutyModeWrite r _ => reqOk r
  | .maintenanceEnter r arg => reqOk r && argOk arg
  | .maintenanceExit r arg => reqOk r && argOk arg
  | .sleep r arg => reqOk r && argOk arg
  | .sleepEntry => true
  | .wakeIn => true
  | .wakeAlarm => true
  | .e0LinkEnergy => true
  | .halyardWindow _ _ _ => true
  | .powerGood _ => true
  | .powerGoodTimeout => true
  | .powerOn _ => true
  | .brownout _ => true
  | .powerOff => true
  | .storeClearDone _ => true
  | .runtimeReady _ => true
  | .watchdog => true
  | .rootCommit _ => true
  | .provisionCommit r arg => reqOk r && argOk arg
  | .reset r arg => reqOk r && argOk arg
  | .deviceReset => true
  | .padRelease r arg => reqOk r && argOk arg
  | .commit _ _ => true
  | .wearMove _ _ => true
  | .fwWrite r arg => reqOk r && argOk arg
  | .fwWritten _ _ _ _ => true
  | .fwDiscard r arg => reqOk r && argOk arg
  | .fwHoist r arg found => reqOk r && argOk arg && fits 8 found
  | .hoistActivation _ _ => true
  | .fwConfirm r arg => reqOk r && argOk arg
  | .autoConfirm => true
  | .fwRevert r arg => reqOk r && argOk arg
  | .timerExpiry _ => true
  | .timerWrap _ => true
  | .timerCapture _ _ => true
  | .capLoRead r _ _ => reqOk r
  | .periodWrite r _ _ => reqOk r
  | .arm r _ arg => reqOk r && argOk arg
  | .stop r _ arg => reqOk r && argOk arg
  | .clearFlags r _ arg => reqOk r && argOk arg
  | .groupStart r arg => reqOk r && argOk arg
  | .groupStop r arg => reqOk r && argOk arg
  | .debugHalt _ => true
  | .eventNotification => true
  | .evtAck r arg => reqOk r && argOk arg
  | .errorRecord => true
  | .errLogClear r arg => reqOk r && argOk arg
  | .unitFault _ _ _ => true
  | .unitRecovered _ => true
  | .unitRestore r arg => reqOk r && argOk arg
  | .runtimeFault _ _ => true
  | .telemWrite => true
  | .sample => true
  | .telemFreeze r arg => reqOk r && argOk arg
  | .ethernetReceive _ _ f => ethOk f
  | .portModeWrite r _ _ _ => reqOk r
  | .routerAdvertisement router pfx => addrOk router && (match pfx with | some x => addrOk x | none => true)
  | .neighborSolicitation _ _ target => addrOk target
  | .muartFrame _ _ _ _ => true
  | .muartIdleTimeout => true
  | .baudWrite r _ => reqOk r
  | .mspiWrite len _ _ _ _ => fits 16 len
  | .mspiRead _ => true
  | .mspiStatus _ => true
  | .vcoreSetWrite r _ _ => reqOk r
  | .gpioOutWrite r _ _ => reqOk r
  | .extest => true
  | .idcode => true
  | .settingsMigrationRetry _ => true
  | .confirmCommitRetry => true
  | .duplicateAddressDetection addr _ => addrOk addr
  | .muartCtsN _ => true
  | .p0DescriptorReturned => true

end Sys2Proof
end

