-- ==== Sys2Proof/Decode.lean ====
section
/-!
DEFINITION. The commands of this block are no words: the table of operations and events gives none of its rows bits.
-/
namespace Sys2Proof

/-- The command that a word spells by the table's bits: no row of spec/opcode_table.json gives any, so there is none. -/
def decodeTableWord (_nbits _w : Nat) : Option Instr := none

end Sys2Proof
end

