-- ==== Sys2Proof/Config.lean ====
section
/-!
DEFINITION. What the manual leaves open and the model leaves free: constants without a body, each named in the assumption
log. Nothing in Lean can evaluate one, so a statement that holds of the model holds whatever their values are.
-/
namespace Sys2Proof.Config

/-- The session identifier the device draws (R39 does not say how), by the free counter (log 5). -/
opaque sessionId : Nat → Nat
/-- The SUB_ID that the device gives a subscription (R52 does not say which), by the free counter (log 5). -/
opaque subId : Nat → Nat
/-- The random octets DNONCE (R39), by the free counter (log 5). -/
opaque nonce : Nat → Nat
/-- DPUB, the device's ephemeral public key (R39), by the free counter (log 5). -/
opaque ephemeral : Nat → Nat
/-- Where the controller starts looking for a free granule: it hands them out in any order (R241, log 6). -/
opaque granulePick : Nat → Nat
/-- The settings page, of 64, that holds an RP entry (R490 does not place them, log 7). -/
opaque settingsPage : Nat → Nat
/-- The journal page, of 8, that a commit writes (R490, log 7). -/
opaque journalPage : Nat → Nat
/-- The frequency correction the servo chooses, 0.01 ppm (R74 says it maintains it, not by which law, log 8). -/
opaque servoFreq : Nat → Int

/-- The carrier offset measured up to the abort of a frame (R143), 0.01 ppm, by the free counter (log 10). -/
opaque abortCfo : Nat → Int
/-- The link quality measured up to the abort of a frame (R143), by the free counter (log 10). -/
opaque abortLqi : Nat → Nat

/-- What RXFLAGS shows of an aborted frame (R143, R153): whether its source address was decoded and matches the latched neighbour, and whether the
ADC reached full scale, both up to the abort, by the free counter (log 10). -/
opaque abortMatch : Nat → Bool
opaque abortClipped : Nat → Bool
/-- SCRATCH of a granule, undefined whenever its ownership passes (R240): by granule, ALLOC_TIME and the number of passes (log 126). -/
opaque scratch : Nat → Int → Nat → BitVec 128
/-- The mask margin of a Halyard burst, 0.1 dB (R114): the monitor measures it, and no command tells it, by the free counter (log 127). -/
opaque burstMargin : Nat → Int
/-- Slots of the sequencer's prefetch: at least 64 (R190; log 128). -/
opaque prefetch : Nat
/-- Where the runtime starts looking for space for a delta in its working space (R196 does not lay the space out), by the free counter (log 129). -/
opaque workPick : Nat → Nat
/-- Whether SIG of a delta verifies, where no command's operand says so (R185), by the free counter (log 4). -/
opaque deltaSig : Nat → Bool

/-- The hash seeds that Canton's TRNG draws at a reset (R271), by the free counter (log 13). -/
opaque hashSeed : Nat → Nat

/-- The key check value of a key (R328), as a 24-bit number: AES is a term here (log 4). -/
opaque kcv : Nat → Nat
/-- The reason that events 100 and 101 carry where a boot record commit ends with NV_WORN (R509 and R511 name no reason), by the free
counter (log 30). -/
opaque wornReason : Nat → Nat

/-- An octet of a staged content that no BULK write has staged (R55 and R401 do not say what it holds), by its offset (log 29). -/
opaque unstaged : Nat → BitVec 8
/-- EPUB, WRAPPED and SIG of an exported message, as numbers (R339): drawn or computed by Canton, by the free counter (log 4). -/
opaque exportEpub : Nat → Nat
opaque exportWrapped : Nat → Nat
opaque exportSig : Nat → Nat

/-- The random number of shared cells a retransmission waits (R174), by the free counter and the exponent (log 15). -/
opaque backoff : Nat → Nat → Nat

/-- DATA of the event that ends a CALIBRATE or SCRUB_NOW with BUDGET_DENIED (R438 does not state it), by its key (log 17). -/
opaque deniedData : Nat → Nat

/-- LINK of a hierarchy link, which the answerer of an OPEN chooses (R370 does not say how), by the free counter (log 19). -/
opaque linkId : Nat → Nat
/-- The deltas that make up a district's schedule, as the manager's planning gives them (R382, R391 state no source), by district and
the free counter: their octets (log 20). -/
opaque scheduleDeltas : Nat → Nat → List (List Byte)
/-- The spreading code of a district's ADV cells as a spare that is to witness it listens (R379 does not say how it knows), by
district (log 21). -/
opaque advSpread : Nat → Nat

/-- The cell, of those in force, whose record a store address of the schedule region holds (R163 and R236 do not lay the region out), by
the address (log 36). -/
opaque scheduleCell : Nat → Nat

/-- Octets of an IPv6 packet compressed under R291 (R291 leaves the encoder its choices), by the free counter and the packet's length
(log 22). -/
opaque lowpanLen : Nat → Nat → Nat
/-- The MAC address that Neighbor Discovery gives for a next hop on the backhaul (R289), by its IPv6 address (log 23). -/
opaque hopMac : Nat → Nat

/-- ROOT, 256 bits that Canton's TRNG draws once (R325; log 4). -/
opaque rootSecret : List (BitVec 8)
/-- HKDF-SHA-256 of R326 as a term: from IKM, salt, info and the octets of output (log 4). -/
opaque hkdf : List (BitVec 8) → List (BitVec 8) → List (BitVec 8) → Nat → List (BitVec 8)
/-- The public key on P-256 of a private scalar, X then Y, by octet (R326; log 4). -/
opaque publicKey : Nat → Nat → BitVec 8
/-- The low 12 bits of JTAG_IDCODE, which R579 leaves to the BSDL file (log 2). -/
opaque idcodeLow : Nat
/-- PSDU octets of a frame recorded in telemetry (R223): the model holds frames by their fields, by the free counter and offset (log 12). -/
opaque psduOctet : Nat → Nat → BitVec 8
/-- What Canton's checks give of a staged key update message that a relayed or a serial request applies (R337), by the free counter:
the target's hash, the signature, whether WRAPPED unwraps, and the key (log 4). -/
opaque proofHash : Nat → Bool
opaque proofSig : Nat → Bool
opaque proofUnwraps : Nat → Bool
opaque proofKey : Nat → Nat
/-- What the flash-dependent checks of R507 find in a slot as a FW_HOIST that a relay, a serial frame or a queue of waiting requests
brings runs, as one of four outcomes, by the free counter (log 33). -/
opaque flashFound : Nat → Nat

end Sys2Proof.Config
end

