-- ==== Sys2Proof/Machine/State.lean ====
section
/-!
DEFINITION. The state of the NQX-7720 as plain data (R8-R604): the dictionary, every unit's registers, queues, counters,
pins and hidden state, the queue of waiting commands, the state after reset, and the stops.
Every field's comment names the rule of spec/ that gives it; a field marked MODEL'S OWN is bookkeeping of the model.
-/
namespace Sys2Proof.Machine

/-- Where the machine stops with a fault. The model has no such stop: every command of the table has an effect (possibly
none) in every state, so no constructor but this one, which no meaning answers, is needed. Safe. -/
inductive Fault where
  /-- Raised by no meaning: the closed type needs a name. -/
  | unreachable
  deriving DecidableEq, Repr

/-- Where the machine refuses a command. -/
inductive Refusal where
  /-- A row of the opcode table without a meaning, by its mnemonic. Raised by `exec` for such a row only. Safe. -/
  | notModelled (mnemonic : String)
  deriving DecidableEq, Repr

/-- A dictionary: values by key, index * 256 + sub-index, keys rising; an unlisted key holds the entry's default. -/
abbrev Dict := List (Nat × Val)

/-- Counters of RO entries by key, index * 256 + sub-index; an unlisted counter is 0. -/
abbrev Counters := List (Nat × Nat)

/-- The store's bytes by address; an unlisted address reads 0 (R238 clears the store with zero). -/
abbrev Memory := List Host.Cell

/-- The major modes (R450). -/
inductive Mode where
  | m0 | m1 | m2 | m3 | m4 | m5 | m6 | m7 | m8 | m9 | m10 | m11
  deriving DecidableEq, Repr

/-- What is fixed at manufacture or by provisioning (R25, R63, R325, R487): touched by ROOT_COMMIT and PROVISION_COMMIT only. -/
structure Perm where
  /-- R63 0x0100.02 SILICON_REV; 8 bits; per die; reset: DESIGN CHOICE 0 (log 2). -/
  siliconRev : Nat := 0
  /-- R63 0x0100.03 DEVICE_EUI; 64 bits; per die; reset: DESIGN CHOICE 0 (log 2). -/
  deviceEui : Nat := 0
  /-- R325: a root secret is held in the persistent store; 1 bit; reset: false, a device never started. -/
  root : Bool := false
  /-- R63 0x0100.04 ROLE: 0 unprovisioned, 1 manager, 2 worker or spare; reset 0. -/
  role : Nat := 0
  /-- R63 0x0100.05 WORKER_ID; 8 bits; reset 0xFF. -/
  workerId : Nat := 255
  /-- R489 0x1200.06 PROVISIONED: the provisioning record is present; reset false. -/
  provisioned : Bool := false
  /-- R489 0x1200.07 DEBUG_LOCKED; reset false. -/
  debugLocked : Bool := false
  deriving DecidableEq, Repr

/-- Time base and clocks (R66-R76, R84). -/
structure ClkState where
  /-- MODEL'S OWN: real time since the reset state, in 1/64 ns; the deadlines of the rules are measured on it (log 3). -/
  up : Nat := 0
  /-- R69: the time base, 64 bits of nanoseconds over a 32-bit fraction; reset 0 (R478). -/
  tb : BitVec 96 := 0
  /-- R87 0x1800.0C TICK_SOURCE is fast; reset 1. -/
  fast : Bool := true
  /-- MODEL'S OWN: where the rising edges of SLOWCLK lie, as `up` modulo the slow period (R71); reset: DESIGN CHOICE 0 (log 122). -/
  slowPhase : Nat := 0
  /-- R87 0x1810.01 REF_OK; reset: DESIGN CHOICE true (log 2). -/
  refOk : Bool := true
  /-- R87 0x1810.03 SLOW_OK; reset: DESIGN CHOICE true (log 2). -/
  slowOk : Bool := true
  /-- R68: when REFCLK was lost, while its return is awaited; reset none. -/
  refLostAt : Option Nat := none
  /-- R69, R70: the calibrated slow increment, 64 bits; reset nominal 0x0000773594000000. -/
  slowIncr : BitVec 64 := 0x0000773594000000#64
  /-- R87 0x1810.04 SLOW_FREQ_ERR; reset 0. -/
  slowErr : Int := 0
  /-- R70: start of the present 1 s calibration window; reset 0. -/
  calStart : Nat := 0
  /-- R87 0x1800.06 FREQ_ADJ, 0.01 ppm; reset 0. -/
  freqAdj : Int := 0
  /-- R87 0x1800.09 PHASE_SLEW, 0.01 ppm; reset 0. -/
  phaseSlew : Int := 0
  /-- R74: when the servo's prediction of the remaining offset reaches zero; reset none. -/
  slewUntil : Option Nat := none
  /-- R87 0x1800.04 SYNC_STATE; reset FREE. -/
  sync : SyncState := .free
  /-- R87 0x1800.05 OFFSET_EST, ns; reset 0. -/
  offset : Int := 0
  /-- R74, R75: when the last accepted measurement was taken; reset none. -/
  measAt : Option Nat := none
  /-- R74: the servo's prediction of the remaining offset, and the instant it is reckoned from; reset none. -/
  pred : Option (Nat × Int) := none
  /-- R75: consecutive measurements below 500 ns; reset 0. -/
  goodRun : Nat := 0
  /-- R75: consecutive measurements above SYNC_LIMIT; reset 0. -/
  badRun : Nat := 0
  /-- R84: the last 16 |offset| values, newest last; reset none. -/
  lastOffsets : List Nat := []
  /-- R87 0x1800.0E ALIGN_ERR_EST, ns; reset 0xFFFFFFFF. -/
  align : Nat := 4294967295
  /-- R84: the last estimate made in LOCKED; reset: none yet, 0xFFFFFFFF. -/
  lockedAlign : Nat := 4294967295
  /-- R84: the estimate at entry to HOLDOVER and that instant; reset none. -/
  holdover : Option (Nat × Nat) := none
  deriving DecidableEq, Repr

/-- A foreign master whose Announce was received (R79). -/
structure Foreign where
  port : Fin 2
  identity : Nat
  portNumber : Nat
  priority1 : Nat
  clockClass : Nat
  accuracy : Nat
  variance : Nat
  priority2 : Nat
  grandmaster : Nat
  stepsRemoved : Nat
  utcOffset : Int
  at_ : Nat
  interval : Nat
  deriving DecidableEq, Repr

/-- The IEEE 1588 subset (R79, R80, R88). -/
structure PtpState where
  /-- R79: masters heard, one record per port and identity; reset none. -/
  foreign : List Foreign := []
  /-- R88 0x1820.08 PARENT_ID: the chosen parent; reset none. -/
  parent : Option Foreign := none
  /-- R88 0x1820.09 MEAN_PATH_DELAY, ns; reset 0. -/
  meanPath : Int := 0
  /-- R88 0x1820.0C UTC_OFFSET, s; reset 37. -/
  utcOffset : Int := 37
  /-- R79: a two-step Sync awaiting its Follow_Up: sequence, receive stamp, correction; reset none. -/
  pendingSync : Option (Nat × Int × Int) := none
  /-- R79: the Delay_Req sent and not yet answered: sequence, transmit stamp; reset none. -/
  pendingDelay : Option (Nat × Int) := none
  /-- R79: origin and receive stamp of the last Sync, from which the path delay is computed; reset none. -/
  lastSync : Option (Int × Int) := none
  /-- R79: next sequence number of the device's Sync, Announce and Delay_Req; reset 0. -/
  seqSync : Nat := 0
  seqAnnounce : Nat := 0
  seqDelay : Nat := 0
  /-- R88: values in force of the PTP settings written since the last Announce or Sync interval; reset none. -/
  kept : Dict := []
  /-- R81: the whole seconds by which the last PTP measurement found the time base ahead; reset 0. -/
  seconds : Int := 0
  /-- R88: when the last Sync, Announce and Delay_Req intervals ended; reset 0. -/
  syncAt : Nat := 0
  announceAt : Nat := 0
  delayAt : Nat := 0
  deriving DecidableEq, Repr

/-- A set of PPS settings (R88). -/
structure PpsSet where
  /-- 0x1830.01 PPS_IN_EN. -/
  inEn : Bool
  /-- 0x1830.02 PPS_IN_EDGE. -/
  inEdge : Nat
  /-- 0x1830.03 PPS_IN_COMP. -/
  inComp : Int
  /-- 0x1830.05 PPS_OUT_EN. -/
  outEn : Bool
  /-- 0x1830.06 PPS_OUT_WIDTH. -/
  width : Nat
  /-- 0x1830.07 PPS_OUT_PHASE. -/
  phase : Int
  /-- 0x1830.08 PPS_OUT_GATE. -/
  gate : Nat
  deriving DecidableEq, Repr

/-- PPS input and output (R81, R82, R88). -/
structure PpsState where
  /-- R88 0x1830.04 PPS_IN_LAST; reset 0. -/
  inLast : Int := 0
  /-- R81: instant of the last edge, or none since the start or since PPS_IN_EN became true; reset none. -/
  lastEdge : Option Nat := none
  /-- R81: the later of the start and the instant PPS_IN_EN last became true; reset 0. -/
  since : Nat := 0
  /-- R81: seconds already reported missing; reset 0. -/
  missing : Nat := 0
  /-- R82: PPS_OUT is high; reset false. -/
  out : Bool := false
  /-- R82: fast ticks left of the present pulse; reset 0. -/
  ticksLeft : Nat := 0
  /-- R82: the latest second pulsed; reset none. -/
  lastSecond : Option Int := none
  /-- R88: the second of a write to a PPS setting, and the settings in force until the next one; reset none. -/
  before : Option (Int × PpsSet) := none
  deriving DecidableEq, Repr

/-- Power modes and domains (R450-R477). -/
structure PwrState where
  /-- R476 0x1000.01 MODE; reset M4: a start has begun (R452). -/
  mode : Mode := .m4
  /-- R476 0x1000.02 BASE_MODE is M7; reset M6 (DUTY_MODE default). -/
  baseFull : Bool := false
  /-- The base mode is M7 whatever DUTY_MODE holds: the manager (R453). -/
  fullOnly : Bool := false
  /-- The device is a spare (R25), for its bands before a takeover (R26, R453). -/
  spare : Bool := false
  /-- R458 0x1000.04 FAULT_CAUSE; reset 0. -/
  faultCause : Nat := 0
  /-- R459 0x1000.05 DOMAINS_ON, 12 bits; reset: D0 only, VCORE is not yet up. -/
  domains : Nat := 1
  /-- R473 0x1000.06 PAD_HOLD, 12 bits; reset 0. -/
  padHold : Nat := 0
  /-- R476 0x1000.0D WAKE_CAUSE; reset 0. -/
  wakeCause : Nat := 0
  /-- R476 0x1000.0E WAKE_TIME; reset 0. -/
  wakeTime : Int := 0
  /-- R476 0x1000.0F LAST_SLEEP_MODE; reset 0. -/
  lastSleep : Nat := 0
  /-- R476 0x1000.10 SLEEP_ENTRY_TIME; reset 0. -/
  sleepEntryTime : Int := 0
  /-- R476 0x1000.12 HALYARD_FOREIGN, 0x1000.13 HALYARD_LAST_ID, 0x1000.14 WAKE_FAILS; reset 0. -/
  halyardForeign : Nat := 0
  halyardLastId : Nat := 0
  wakeFails : Nat := 0
  /-- R461: an accepted SLEEP (MODE, HBAND, HCHANNEL, ALARM) and when its entry begins; reset none. -/
  sleepReq : Option (Nat × Nat × Nat × Int) := none
  sleepDue : Nat := 0
  /-- R462: entry has begun and the point of no return is not reached; reset false. -/
  entering : Bool := false
  /-- R467: DISTRICT_ID held at entry; reset 0. -/
  sleepDistrict : Nat := 0
  /-- R472: the brown-out flag: 0 none, 1 overload, 2 low VAON; reset 0. -/
  brownFlag : Nat := 0
  /-- R480: WAKE_FAILS at the last start; reset 0. -/
  wakeFailsSeen : Nat := 0
  /-- R456 MESH_OK_N is asserted; reset false (released, R475). -/
  meshOk : Bool := false
  /-- R468 VCORE is commanded on through the PMIC link; reset true: D0 has commanded it (R479). -/
  vcoreOn : Bool := true
  /-- R594: the pads of VIO_A and of VIO_B are set for 1.8 V, else for 3.3 V; reset 3.3 V (log 138), sensed at step 1 of each start. -/
  vioA18 : Bool := false
  vioB18 : Bool := false
  /-- R475, R473: PA_EN_SF, PA_EN_G, LNA_EN_SF, LNA_EN_G as their front ends drive them; reset low. -/
  paSf : Bool := false
  paG : Bool := false
  lnaSf : Bool := false
  lnaG : Bool := false
  deriving DecidableEq, Repr

/-- Where a start stands (R479, R480). -/
inductive StartStage where
  /-- No start runs and none is needed: the device runs (or sleeps). -/
  | idle
  /-- VCORE is commanded on and power-good is awaited. -/
  | waitPg
  /-- D0 waits to command VCORE on again (a reset's 10 ms, a retry's 10 ms or one second). -/
  | waitRetry
  /-- Steps 1 to 10 run: the store is being cleared or the runtime is not ready. -/
  | booting
  /-- Step 14 is done. -/
  | done
  deriving DecidableEq, Repr

/-- Start-up and provisioning (R478-R489). -/
structure StartState where
  stage : StartStage := .waitPg
  /-- R478 0x1200.01 RESET_CAUSE; reset 1, power-on. -/
  cause : Nat := 1
  /-- R484 0x1200.02 START_DETAIL; reset 0. -/
  detail : Nat := 0
  /-- R489 0x1200.03 START_COUNT, kept in the persistent store; reset 0. -/
  startCount : Nat := 0
  /-- R489 0x1200.04 LAST_START_TIME, ns; reset 0. -/
  lastStartTime : Nat := 0
  /-- R489 0x1200.0B PG_FAILS; reset 0. -/
  pgFails : Nat := 0
  /-- R483 0x1200.0C WATCHDOG_RESETS, kept in the persistent store; reset 0. -/
  watchdogResets : Nat := 0
  /-- R468: attempts at VCORE made; reset 1. -/
  attempts : Nat := 1
  /-- R479, R468: when the present wait began; reset 0. -/
  since : Nat := 0
  /-- R480: instant of power-good; start of step 10; reset 0. -/
  pgAt : Nat := 0
  runtimeAt : Nat := 0
  /-- R238: the store clear of step 4 is done; reset false. -/
  clearDone : Bool := false
  /-- R483: the runtime has reported ready; reset false. -/
  ready : Bool := false
  /-- R514: a settings migration commit waits for hold-up energy: when it is tried again; reset none. -/
  migrationWait : Option Nat := none
  /-- R480: steps 11 and 12 are done; reset false. -/
  applied : Bool := false
  /-- R32, R544: QDL is served; reset false. -/
  served : Bool := false
  /-- R485: the boot runtime serves (M5, and M11 while the full runtime does not run); reset true. -/
  bootRuntime : Bool := true
  /-- R486: ROOT is drawn and its commit is due at this instant; reset none. -/
  rootDue : Option Nat := none
  /-- R488, R487, R551: a reset pending: its cause and when it begins; reset none. -/
  pendingReset : Option (Nat × Nat) := none
  /-- R489 0x1200.08 P_ROLE and 0x1200.09 P_WORKER_ID are RW entries, held in the dictionary. R586: factory test. -/
  factoryTest : Bool := false
  /-- R345: the first unwrap of the start has happened; reset false. -/
  unwrapped : Bool := false
  /-- R487: ROLE and WORKER_ID of a provisioning record committed by the command being carried out, until that command ends; reset none. -/
  record : Option (Nat × Nat) := none
  deriving DecidableEq, Repr

/-- A commit the device's own runtime has requested and not yet run (R492): START_COUNT and WATCHDOG_RESETS (R483, R489). -/
structure NvWork where
  starts : Nat
  watchdogs : Nat
  deriving DecidableEq, Repr

/-- The persistent store and hold-up (R490-R502). -/
structure NvState where
  /-- R30: RP entries in force; an unlisted entry holds its default. -/
  rp : Dict := []
  /-- R498, R515: the settings copy that is not in force: its SET_VERSION and values; reset none. -/
  shadow : Option (Nat × Dict) := none
  /-- R502 0x1300.07 SETTINGS_VERSION, R498 SET_SEQ; reset: DESIGN CHOICE 0 (log 2). -/
  version : Nat := 0
  setSeq : Nat := 0
  /-- R490: physical page of each of the 153 logical pages; reset: logical page l at physical page l + 2. -/
  pageMap : List Nat := (List.range 153).map (· + 2)
  /-- R497 PAGE_WRITES by physical page; an unlisted page has 0; reset: DESIGN CHOICE 0 (log 2). -/
  writes : Counters := []
  /-- R496: physical pages retired, logical pages marked worn; reset none. -/
  retired : List Nat := []
  worn : List Nat := []
  /-- R492: commits waiting; reset none. -/
  waiting : List NvWork := []
  /-- R493, R494: commits whose marker stands in the journal and whose home words are not written; reset none. -/
  journal : List NvWork := []
  /-- R489, R483: START_COUNT and WATCHDOG_RESETS as the store holds them; reset 0. -/
  saved : NvWork := ⟨0, 0⟩
  /-- R494: sequence of the directory, whose two copies take turns; reset: DESIGN CHOICE 0 (log 2). -/
  dirSeq : Nat := 0
  /-- R484: the store failed its check at this start; reset false. The written RP entries that cannot be read until a start finds the store
  sound again, their defaults in force meanwhile; reset none. -/
  unreadable : Bool := false
  unread : Dict := []
  /-- R499: the last 8 samples of HOLDUP_SENSE, mV; reset: DESIGN CHOICE none (log 2). -/
  sense : List Nat := []
  /-- R502 0x1320.07 HOLDUP_LAST_NEED; reset 0. -/
  lastNeed : Nat := 0
  deriving DecidableEq, Repr

/-- What a start keeps of one event (R539, R558). -/
structure EvRec where
  count : Nat := 0
  lastTime : Int := 0
  lastData : Nat := 0
  deriving DecidableEq, Repr

/-- A rate limit: the event, its instance, what has gathered since the last raise, and when that was (R539). -/
structure RateRec where
  key : Nat
  acc : Nat
  last : Option Nat
  deriving DecidableEq, Repr

/-- Events (R539-R544). -/
structure EvState where
  /-- R558: COUNT, LAST_TIME and LAST_DATA of events 0-127; reset all 0. -/
  recs : List EvRec := List.replicate 128 {}
  /-- R541: the pending set, 128 bits; reset 0. -/
  pending : Nat := 0
  /-- R558 0x8000.06 EVENT_SEQ, wraps at 2^32; reset 0. -/
  seq : Nat := 0
  /-- R544: events held in D0 while QDL is not served (event, DATA, TIME), at most 32, oldest first; reset none. -/
  held : List (Nat × Nat × Int) := []
  /-- R539: rate-limited events; reset none. -/
  rates : List RateRec := []
  /-- R54: events whose notification P5 refused, by which the notification counters of the sessions subscribed are to advance; reset none. -/
  missed : List Nat := []
  deriving DecidableEq, Repr

/-- Error records and single faults (R545-R552, R559). -/
structure ErrState where
  /-- R545 RSEQ of the last record; reset 0. -/
  rseq : Nat := 0
  /-- R552 ERR_LOG, at most 1,024, oldest first; reset none. -/
  log : List ErrRec := []
  /-- R551 LAST_FATAL, in the D0 latch; reset none. -/
  lastFatal : Option ErrRec := none
  /-- R549: the open episodes of units 4, 6, 7, 8: unit, faults so far, CODE of the last; reset none. -/
  episodes : List (Nat × Nat × Nat) := []
  /-- R559 UNITS_QUARANTINED, a bit per unit; reset 0. -/
  quarantined : Nat := 0
  deriving DecidableEq, Repr

/-- A telemetry record (R553). -/
inductive TelemBody where
  | pad (len : Nat)
  | event (ev flags data seq : Nat) (time : Int)
  | error (r : ErrRec)
  | sample (items : List (Nat × Nat × Option Val))
  | frame (desc : Desc) (psdu : List Byte)
  deriving DecidableEq, Repr

/-- A staged telemetry record: its body, its length in bytes, when it was made. -/
structure TelemRec where
  body : TelemBody
  len : Nat
  time : Int
  deriving DecidableEq, Repr

/-- The telemetry ring and its staging buffer (R553-R556, R560). -/
structure TelemState where
  /-- R554: staged records, oldest first; reset none. -/
  staged : List TelemRec := []
  /-- R560 TELEM_HEAD, TELEM_TAIL, TELEM_NEXT_SEQ; reset 0, 0, 1. -/
  head : Nat := 0
  tail : Nat := 0
  nextSeq : Nat := 1
  /-- R553: offsets and lengths of the records intact in the ring, oldest first; reset none. -/
  ring : List (Nat × Nat) := []
  /-- R556 TELEM_FREEZE; reset false. -/
  frozen : Bool := false
  /-- R555: instant of the last SAMPLE; reset 0. -/
  lastSample : Nat := 0
  deriving DecidableEq, Repr

/-- One granule of the frame buffer region that is not free (R240). -/
structure Granule where
  index : Nat
  refs : Nat
  unit : Nat
  off : Nat
  len : Nat
  time : Int
  body : Payload
  poison : Bool := false
  /-- R240 SCRATCH, 16 octets, is undefined whenever ownership passes: MODEL'S OWN, how often it has, which the free value is taken by (log 126). -/
  passes : Nat := 0
  deriving DecidableEq, Repr

/-- The central store controller (R236-R249, R264, R265). -/
structure StoreState where
  /-- R237: sizes in force of regions 5, 6 and 7 in 64 MiB units; reset 16, 8, 8. -/
  fbUnits : Nat := 16
  repoUnits : Nat := 8
  telemUnits : Nat := 8
  /-- R240: granules that are allocated or retired; reset none. -/
  granules : List Granule := []
  /-- R247: retired granules awaiting the scrub's test, and those that failed it (true); reset none. -/
  retired : List (Nat × Bool) := []
  /-- R262: orphaned granules; reset none. -/
  orphans : List Nat := []
  /-- R264 FREE_MIN; reset: all 524,288 granules free. -/
  freeMin : Nat := 524288
  /-- R244: bursts marked poisoned, by address / 64; reset none. -/
  poisoned : List Nat := []
  /-- R244: words whose next read finds an error, as the scrub meets them, are the command's operand. -/
  scrubPos : Nat := 0
  /-- R248: start of the present pass, whether one runs at the M10 rate, SCRUB_BEHIND; reset 0, false, false. -/
  passStart : Nat := 0
  scrubNow : Bool := false
  behind : Bool := false
  /-- R265 SCRUB_PASSES, LAST_PASS_TIME; reset 0. -/
  passes : Nat := 0
  lastPass : Nat := 0
  deriving DecidableEq, Repr

/-- QSTATE (R266). -/
inductive QState where
  | openQ | recovering | quarantined
  deriving DecidableEq, Repr

/-- One queue (R252-R263): a ping-pong queue uses `fill` and `drain`, a circular queue `drain`, `rd` and `wr`. -/
structure Queue where
  /-- R256: the fill bank, oldest first; reset empty. -/
  fill : List Desc := []
  /-- R256 the drain bank, or the committed packets of a circular queue (R257), oldest first; reset empty. -/
  drain : List Desc := []
  /-- R257: read and write pointers; reset 0. -/
  rd : Nat := 0
  wr : Nat := 0
  /-- R255: words of the packet being read that are still to be read; reset 0. -/
  reading : Nat := 0
  /-- MODEL'S OWN: the packet a QUEUE_POP handed to the consumer, which the consumer's next command takes up; reset none. -/
  taken : Option Desc := none
  /-- R266 QSTATE; reset OPEN. -/
  state : QState := .openQ
  /-- R263: faults of the open episode; reset 0. -/
  nest : Nat := 0
  /-- R261: buffers and number of the packets cut off by the recovery under way, and its cause; reset none. -/
  collected : List Nat := []
  discarded : Nat := 0
  cause : Nat := 0
  orphan : Option Nat := none
  /-- R266 PUSH_REFUSED, RESETS, REWINDS, DROP_RESTS; reset 0. -/
  refused : Nat := 0
  resets : Nat := 0
  rewinds : Nat := 0
  dropRests : Nat := 0
  deriving DecidableEq, Repr

/-- One general timer (R525-R537); its RW settings are in the dictionary. -/
structure Timer where
  count : Nat := 0
  capture : Nat := 0
  run : Bool := false
  expired : Bool := false
  capNew : Bool := false
  overrun : Bool := false
  wrap : Bool := false
  expiries : Nat := 0
  /-- R528, R532: ARMs (true) and STOPs (false) not yet applied, oldest first: they are at the next tick of the source at which the timer
  is not frozen; reset none. -/
  deferred : List Bool := []
  deriving DecidableEq, Repr

/-- RADIO_STATE (R95). -/
inductive RadioState where
  | sleep | standby | ready | rx | tx | cal
  deriving DecidableEq, Repr

/-- Why a calibration runs (R100, R102, R115, R119). -/
inductive CalKind where
  | start | temp | commanded | mask | clear
  deriving DecidableEq, Repr

/-- A frame on one of the sequencer's lists (R195, R224, R414). -/
structure TxItem where
  id : Nat
  /-- The descriptor as it was taken from Q32, Q35 or P0. -/
  desc : Desc
  /-- When it entered the list. -/
  at_ : Nat
  ackReq : Bool
  secure : Bool
  /-- Sequence number, once assigned; frame counter and level, once secured (R19). -/
  seq : Option Nat := none
  secured : Option (Nat × Nat) := none
  /-- Sent to Q33 and not yet returned (R20). -/
  inQ33 : Bool := false
  deriving DecidableEq, Repr

/-- What the end of a transmission brings about once its last chip has left the ball. -/
inductive TxAfter where
  | nothing
  /-- R211: an acknowledgement sent whole synchronizes: short address, SFD instant, error, whether a drift sample may be taken. -/
  | sync (short : Nat) (sfd err : Int) (drift : Bool)
  /-- R230: the acknowledgement of a join request sent whole: the EUI, SFD instant, error. -/
  | joined (eui : Nat) (sfd err : Int)
  deriving DecidableEq, Repr

/-- A transmission in progress on a band. -/
structure TxNow where
  channel : Nat
  /-- R115: the destination of a frame sent, none for a beacon, acknowledgement or burst. -/
  dest : Option Nat
  /-- An acknowledgement to a sender, and the buffer of the frame that it answers (R218). -/
  isAck : Bool
  ofBuf : Option Nat := none
  /-- R116: TX1, the end of the last chip, on the time base. -/
  fin : Int
  after : TxAfter
  deriving DecidableEq, Repr

/-- One band's front end (R90-R120). -/
structure BandState where
  /-- R117 RADIO_STATE; reset SLEEP. -/
  state : RadioState := .sleep
  /-- R117 TX_CHANNEL (none reads 0xFF), TX_SYN_WORD, TX_PREOFFSET; reset none, 0, 0. -/
  txChannel : Option Nat := none
  synWord : Nat := 0
  preoffset : Int := 0
  /-- R117 GAIN_INDEX, and the index that the next T0 applies (R111); reset 0, none. -/
  gain : Nat := 0
  nextGain : Option Nat := none
  /-- R118: the gain ceilings, 0.1 dBm, by index; reset: DESIGN CHOICE the nominal ones (log 2). -/
  ceilings : List Int := []
  /-- R99: the calibration under way, and one that waits for the band's next T0 (R102); reset none. -/
  cal : Option CalKind := none
  calWait : Option CalKind := none
  /-- R50: keys of the accepted commands that the calibration under way satisfies; reset none. -/
  calKeys : List Nat := []
  /-- R117 CAL_PENDING: since when, and whether its 60 s were reported (R101); reset none. -/
  calPending : Option (Nat × Bool) := none
  /-- R117 LAST_CAL_TEMP, LAST_CAL_TIME, IMAGE_REJ; reset 0. -/
  lastTemp : Int := 0
  lastTime : Int := 0
  imageRej : Int := 0
  /-- R119 TX_INHIBIT, MASK_MARGIN; the last resumption (R115); reset false, 0, none. -/
  inhibit : Bool := false
  margin : Int := 0
  resumedAt : Option Nat := none
  /-- R98: the lanes are blanked; the transmission in progress; reset false, none. -/
  blanked : Bool := false
  tx : Option TxNow := none
  /-- R116, R98: after a transmission, when PA_EN falls and when the transition to reception ends; when PA_EN last fell; reset none. -/
  paFall : Option Int := none
  unblankAt : Option Int := none
  paFell : Option Int := none
  /-- R113: the coefficient set of the transmission in progress or of the last one; reset none, no transmission yet. -/
  fir : Option (List Byte) := none
  /-- R102: ASN of the slot in which a commanded or mask-recovery calibration last started at T0; reset none. -/
  calSlot : Option Nat := none
  deriving DecidableEq, Repr

/-- LANE_STATE (R132). -/
inductive LaneState where
  | off | idle | search | preamble | header | payload | commit | blanked | recover | quarantined
  deriving DecidableEq, Repr

/-- What a lane is bound to in a slot (R123, R125). -/
structure Binding where
  channel : Nat
  spread : Nat
  pretune : Int
  narrow : Bool
  handle : Nat
  loc : Nat
  /-- ASN of the slot in which the cell began (R166). -/
  asn : Nat
  neighbour : Option Nat
  neighbourEui : Option Nat
  expectedFirst : Bool
  allChannel : Bool
  /-- The binding serves the acknowledgement window of a transmit cell (R170). -/
  ackWindow : Bool
  deriving DecidableEq, Repr

/-- The frame a lane receives (R142, R150). -/
structure LaneFrame where
  sfdTime : Int
  rssi : Int
  cfo : Int
  buf : Option Nat
  len : Nat
  long : Bool
  gain : Nat
  handed : Bool
  captured : Bool
  gainStep : Bool
  bind : Binding
  deriving DecidableEq, Repr

/-- A lane (R121-R158). -/
structure Lane where
  /-- R156 LANE_STATE; reset OFF. -/
  state : LaneState := .off
  /-- R156 BOUND_CHANNEL, BOUND_SPREAD, PRETUNE, and the cell; reset none. -/
  bind : Option Binding := none
  /-- R611: the binding taken at T0 or at the next rest (none inside: switched off); reset none. -/
  next : Option (Option Binding) := none
  /-- R121: the frequency of the NCO, mHz; reset 0. -/
  nco : Int := 0
  /-- R137, R140: level of the preamble locked onto, whether the correlator acquired it, and when; reset none. -/
  lock : Option (Int × Bool × Nat) := none
  /-- R137: the correlator's last SFD while the lane was in PREAMBLE: its stamp and what was measured; reset none. -/
  other : Option (Int × Signal) := none
  /-- R133: the frame held; reset none. -/
  frame : Option LaneFrame := none
  /-- R147, R549: faults of the open episode; reset 0. -/
  nest : Nat := 0
  lastCode : Nat := 0
  /-- R141: instants of the false preambles of the last second, on the time base; reset none. -/
  falses : List Int := []
  /-- R156 LAST_RSSI, LAST_LQI, LAST_CFO; reset 0. -/
  lastRssi : Int := 0
  lastLqi : Nat := 0
  lastCfo : Int := 0
  deriving DecidableEq, Repr

/-- SCHED_STATE (R192). -/
inductive SchedSt where
  | none | running | autonomous | stopped
  deriving DecidableEq, Repr

/-- A cell record (R163); OPTIONS is kept as its bits (R164). -/
structure Cell where
  handle : Nat
  loc : Nat
  slotOffset : Nat
  chOffset : Nat
  cls : Nat
  options : Nat
  neighbour : Nat
  txPower : Int
  maxPsdu : Nat
  spread : Nat
  span : Nat
  group : Nat
  deriving DecidableEq, Repr

/-- A slotframe (R162). -/
structure Slotframe where
  handle : Nat
  band : Band
  size : Nat
  deriving DecidableEq, Repr

/-- The timing template (R198); defaults of its entries. -/
structure Template where
  slotLen : Nat := 10000000
  txOffset : Nat := 4100000
  ackDelay : Nat := 800000
  ackGuard : Nat := 200000
  sharedGuard : Nat := 1000000
  guardBudget : Nat := 500000
  slotTail : Nat := 200000
  ackPsdu : Nat := 24
  rescueLead : Nat := 500000
  minBe : Nat := 1
  maxBe : Nat := 5
  deriving DecidableEq, Repr

/-- A schedule version (R186, R190): template, hopping sequences (empty: the default of R169), slotframes, cells. -/
structure SchedVer where
  tmpl : Template := {}
  hopSf : List Nat := []
  hopG : List Nat := []
  frames : List Slotframe := []
  cells : List Cell := []
  deriving DecidableEq, Repr

/-- An operation of a delta (R184). -/
inductive DeltaOp where
  | setTiming (t : Template)
  | addFrame (f : Slotframe)
  | delFrame (h : Nat)
  | addCell (c : Cell)
  | delCell (h l o : Nat)
  | modCell (c : Cell)
  | setHop (b : Band) (l : List Nat)
  deriving DecidableEq, Repr

/-- An accepted delta that has not switched (R186, R187): SEQ, the ASN it switches at, whether that is a late one, its operations. -/
structure PendingDelta where
  seq : Nat
  at_ : Nat
  late : Bool
  ops : List DeltaOp
  deriving DecidableEq, Repr

/-- What a transmission is (R107, R173, R177, R195, R217, R226, R233). -/
inductive TxKind where
  | beacon
  /-- The head frame of a neighbour's list. -/
  | frame (short : Nat)
  | keepalive (short : Nat)
  | mcast (group : Nat)
  | bcast
  /-- A timed P0 frame, by its number in the sequencer's store. -/
  | timed (id : Nat)
  | burst
  deriving DecidableEq, Repr

/-- A band's transmission of a prepared slot. -/
structure TxPlan where
  kind : TxKind
  handle : Nat
  loc : Nat
  cls : Nat
  channel : Nat
  spread : Nat
  power : Int
  /-- Pre-offset under R107 before the clamp of R108, and the neighbour it was latched for. -/
  preoffset : Int
  neighbour : Option Nat
  /-- T0 + TX_OFFSET, or WHEN: nominal instant of the first SHR chip. -/
  nominal : Int
  /-- The instant by which what follows must have ended: the T0 after the span, less SLOT_TAIL (R172). -/
  limit : Int
  /-- PSDU length of the frame chosen, whether it requests an acknowledgement, SPAN, OPTIONS. -/
  len : Nat
  ackReq : Bool
  span : Nat
  options : Nat
  /-- T0 of the cell's first slot, and the template it runs by (R161, R189). -/
  t0 : Int
  tmpl : Template
  deriving DecidableEq, Repr

/-- A receive window of a prepared slot (R171, R173, R176). -/
structure RxPlan where
  handle : Nat
  loc : Nat
  cls : Nat
  options : Nat
  neighbour : Option Nat
  channels : List Nat
  spread : Nat
  power : Int
  span : Nat
  guard : Nat
  opens : Int
  closes : Int
  limit : Int
  /-- The neighbour's carrier offset latched, where valid (R21, R107). -/
  cfo : Option Int := none
  /-- T0 of the cell's first slot, and the template it runs by (R161, R189, R208). -/
  t0 : Int
  tmpl : Template
  /-- An acknowledgement window of a transmit cell (R173). -/
  ack : Bool := false
  deriving DecidableEq, Repr

/-- A cell that a lane bound for another cell serves too (R123): ASN of the slot in which it began, HANDLE, LOCAL, the lane. -/
structure LaneShare where
  asn : Nat
  handle : Nat
  loc : Nat
  lane : Nat
  deriving DecidableEq, Repr

/-- A receive, rescue or acknowledgement window that has opened (R171, R173, R176): its cell, the ASN of the slot in which that began, when it
closes, whether it is a rescue window, and whether it is over. -/
structure Window where
  band : Band
  handle : Nat
  loc : Nat
  asn : Nat
  closes : Int
  rescue : Bool
  shut : Bool
  deriving DecidableEq, Repr

/-- One band's part of a prepared slot. -/
structure BandPlan where
  tx : Option TxPlan := none
  rx : List RxPlan := []
  /-- R102: a commanded calibration was granted; R101: a temperature calibration was; R233: a burst was. -/
  cal : Option CalKind := none
  burst : Bool := false
  /-- R123: cells that a lane bound for another serves too. -/
  served : List LaneShare := []
  deriving DecidableEq, Repr

/-- A prepared slot (R21). -/
structure SlotPlan where
  asn : Nat
  t0 : Int
  sf : BandPlan
  g : BandPlan
  /-- R437: the background tasks granted for the slot. -/
  tasks : List Nat
  deriving DecidableEq, Repr

/-- A span in progress on a band (R167): the last ASN it covers. -/
structure SpanNow where
  band : Band
  last : Nat
  deriving DecidableEq, Repr

/-- The sequencer's schedule (R159-R201). -/
structure SchedState where
  /-- R197 SCHED_STATE; reset NONE. -/
  st : SchedSt := .none
  /-- R197 ASN, EPOCH, DELTA_SEQ, STOP_CAUSE, ASN_REF, ASN_REF_TIME; reset 0. -/
  asn : Nat := 0
  epoch : Nat := 0
  deltaSeq : Nat := 0
  stopCause : Nat := 0
  asnRef : Nat := 0
  asnRefTime : Int := 0
  /-- R161: the slot length in force before ASN_REF, ns; reset: the template's default. -/
  prevLen : Nat := 10000000
  /-- R185: SEQ of the last accepted delta; reset 0. -/
  accepted : Nat := 0
  /-- R186: the version in force; reset: no slotframe, template and hopping at their defaults. -/
  ver : SchedVer := {}
  /-- R198 TIMING_ASN; reset 0. -/
  timingAsn : Nat := 0
  /-- R185, R186: accepted deltas not yet switched, by SEQ, at most 16; reset none. -/
  pending : List PendingDelta := []
  /-- R200 LAST_DELTA_STATUS, LAST_DELTA_REASON, LAST_SWITCH_ASN; reset 0. -/
  lastStatus : Nat := 0
  lastReason : Nat := 0
  lastSwitch : Nat := 0
  /-- R187: ASN of the slot whose preparation has begun; reset none. -/
  prepAsn : Option Nat := none
  /-- R21: the slot prepared and not begun, and the slot in progress; reset none. -/
  prep : Option SlotPlan := none
  now : Option SlotPlan := none
  /-- R166: receive cells and acknowledgement windows of the slots begun lately, by ASN and band, newest last, as windows and judgements need
  them; reset none. -/
  past : List (Nat × Band × RxPlan) := []
  /-- R167: spans in progress; reset none. -/
  spans : List SpanNow := []
  /-- R21, R107: the neighbours latched for the slots prepared lately: ASN, short address, carrier offset (0 where it is not valid); reset none. -/
  latched : List (Nat × Nat × Int) := []
  /-- R123: lanes that serve a cell beside the one that bound them; reset none. -/
  cellLanes : List LaneShare := []
  /-- R171, R176: the receive windows of the slots begun lately, open or over; reset none. -/
  windows : List Window := []
  /-- R245: cells whose record holds an uncorrectable word: HANDLE, slot offset, LOCAL; reset none. -/
  badCells : List (Nat × Nat × Nat) := []
  /-- R174: backoff of shared cells: destination, exponent, shared cells still to pass; reset none. -/
  backoff : List (Nat × Nat × Nat) := []
  /-- R57: values in force of settings of slot activity written since the last preparation, and of those that the slot prepared next is the
  first to run without; reset none. -/
  kept : Dict := []
  keptNow : Dict := []
  /-- R196: the deltas in the runtime working space, by store address, until their check; reset none. -/
  working : List (Nat × List Byte) := []
  deriving DecidableEq, Repr

/-- The Bunting area of a node record (R410). -/
structure BuntArea where
  campaign : Nat := 0xFF
  /-- B_STATE: 0 NONE, 1 PENDING, 2 RECEIVING, 3 DONE, 4 REFUSED, 5 FAILED, 6 LOST. -/
  state : Nat := 0
  tag : Nat := 0
  base : Nat := 0
  held : Nat := 0
  lastReq : Int := 0
  repairs : Nat := 0
  verify : Nat := 0
  cause : Nat := 0
  /-- B_MAP: 2,048 bits. -/
  map : Nat := 0
  deriving DecidableEq, Repr

/-- A node record (R272): its Pennant while DIRECT, security, routing and Bunting areas, and its wrapped key. -/
structure Node where
  /-- Record index 0-1,048,575. -/
  index : Nat
  eui : Nat
  short : Nat
  pennant : Option Pennant := none
  sec : SecArea := {}
  route : RouteArea := {}
  bunt : BuntArea := {}
  wrapped : Option Wrapped := none
  /-- R230: since when it is JOINING. -/
  joiningAt : Nat := 0
  deriving DecidableEq, Repr

/-- A neighbour's transmit list (R224). -/
structure TxList where
  short : Nat
  items : List TxItem
  deriving DecidableEq, Repr

/-- An acknowledgement the device awaits (R173, R224). -/
structure AckWait where
  band : Band
  kind : TxKind
  short : Nat
  seq : Nat
  secured : Bool
  /-- Opening and close of the window, on the time base. -/
  opens : Int
  close : Int
  handle : Nat
  loc : Nat
  /-- ASN of the slot in which the cell began, and the item of the transmit list or the timed frame it was sent for. -/
  asn : Nat
  item : Option Nat
  /-- Stamped instant of the frame's first chip (R78), and whether its cell is SHARED, TIMEKEEPING. -/
  stamp : Int
  shared : Bool
  timekeeping : Bool
  deriving DecidableEq, Repr

/-- An acknowledgement the device is to send (R172, R210). -/
structure AckPlan where
  band : Band
  channel : Nat
  spread : Nat
  power : Int
  /-- Destination: the sender's short address, if the frame carried one. -/
  short : Nat
  dest : Addr
  seq : Option Nat
  secured : Bool
  level : Nat
  /-- The correction in µs, clamped (R210). -/
  tc : Int
  preoffset : Int
  nominal : Int
  limit : Int
  /-- The synchronization the acknowledgement makes (R211): SFD instant, error, and whether a drift sample may be taken. -/
  sfd : Int
  err : Int
  drift : Bool
  /-- A join request's acknowledgement: the EUI it comes from (R230). -/
  join : Option Nat := none
  /-- The frame's buffer, by which its descriptor is found in Q4 (R218). -/
  buf : Option Nat := none
  deriving DecidableEq, Repr

/-- The JOIN_RSP last sent to an EUI, which a repeated request with the same NONCE gets again (R229). -/
structure JoinMemo where
  eui : Nat
  nonce : Nat
  result : Nat
  short : Nat
  epoch : Nat
  keyGen : Nat
  deriving DecidableEq, Repr

/-- A Halyard burst under way or waiting (R233). -/
structure Burst where
  band : Band
  channel : Nat
  district : Nat
  /-- ms. -/
  duration : Nat
  /-- When the command was accepted. -/
  at_ : Nat
  /-- First slot and number of slots, once granted and begun. -/
  begun : Option (Nat × Nat) := none
  deriving DecidableEq, Repr

/-- Neighbours and reliability (R202-R235). -/
structure NbrState where
  /-- R272: node records in use, by ascending short address; reset none. -/
  nodes : List Node := []
  /-- R224, R414, R195: transmit lists, multicast lists by GROUP, broadcast lists by band, timed frames; reset none. -/
  lists : List TxList := []
  mcast : List (Nat × List TxItem) := []
  bcast : List (Band × List TxItem) := []
  timed : List TxItem := []
  nextId : Nat := 0
  /-- R15: P0 descriptors of the runtime that P0 refused and that are pushed again, oldest first; reset none. -/
  p0Owed : List Desc := []
  /-- R195: returns on Q4 that were refused and are retried; reset none. -/
  returns : List Desc := []
  /-- R212 SLEW_ACTIVE, µs; reset 0; and the part of a µs below it. -/
  slewActive : Nat := 0
  slewPart : Nat := 0
  /-- R277: short addresses whose hit mark is requested; reset none. -/
  hitMarks : List Nat := []
  /-- R214, R225: when the once-per-second tests last ran; reset 0. -/
  adriftAt : Nat := 0
  holdAt : Nat := 0
  /-- R173, R172: acknowledgements awaited and acknowledgements owed; reset none. -/
  awaits : List AckWait := []
  acks : List AckPlan := []
  /-- R195, R225: frames sent without an acknowledgement request whose transmission has not ended: the band, the item and the stamp of its first
  chip; reset none. -/
  ending : List (Band × TxItem × Int) := []
  /-- R229: the last JOIN_RSP of each EUI; reset none. -/
  rsps : List JoinMemo := []
  burst : Option Burst := none
  deriving DecidableEq, Repr

/-- What a hot slot holds (R332). -/
inductive HotKey where
  | level2 (kind keyId : Nat)
  | session (record : Nat)
  deriving DecidableEq, Repr

/-- A hot slot in use (R332, R333): what it holds, the generations it records, its pins (UNTIL, PIN_END), last use. -/
structure HotSlot where
  slot : Nat
  holds : HotKey
  keyGen : Nat
  dmkGen : Nat
  pins : List (Int × Int)
  used : Nat
  deriving DecidableEq, Repr

/-- An entry of the persistent key table (R329). -/
structure KeyEntry where
  kind : Nat
  keyId : Nat
  exportable : Bool
  present : Bool
  gen : Nat
  key : Nat
  signer : Nat
  deriving DecidableEq, Repr

/-- A superseded DGK kept for GROUP_OVERLAP (R360, R361). -/
structure OldDgk where
  district : Nat
  gen : Nat
  key : Nat
  until_ : Nat
  deriving DecidableEq, Repr

/-- Canton and frame security (R324-R365). -/
structure CantonState where
  /-- R332: hot slots in use; reset none. -/
  hot : List HotSlot := []
  /-- R329: the persistent key table; reset none. -/
  table : List KeyEntry := []
  /-- R363 CTR_OPERATOR, CTR_MANAGER, EXPORT_CTR, persistent; reset 0. -/
  ctrOperator : Nat := 0
  ctrManager : Nat := 0
  exportCtr : Nat := 0
  /-- R349: the tamper latch of D0, and the persistent flag; reset false. -/
  latch : Bool := false
  flag : Bool := false
  /-- R350: inputs asserted now, a bit each; reset: DESIGN CHOICE none (log 2). -/
  asserted : Nat := 0
  /-- R363 TAMPER_CAUSE, TAMPER_TIME; reset 0. -/
  cause : Nat := 0
  time : Int := 0
  /-- R349: a commit of the flag is due at this instant; reset none. -/
  flagDue : Option Nat := none
  /-- R345: keys kept in the D0 retention bank; reset none. -/
  retention : List HotKey := []
  /-- R361, R364: the DGK that secures group frames, by GEN and key; reset none. -/
  group : Option (Nat × Nat) := none
  /-- R364 GROUP_FC, GROUP_FC_MARK (persistent); reset 0. -/
  groupFc : Nat := 0
  groupMark : Nat := 0
  /-- R359: a mark commit is due at this instant; reset none. -/
  markDue : Option Nat := none
  /-- R361: the overlap's end, when a new DGK has been installed; reset none. -/
  overlapEnd : Option Nat := none
  /-- R360: superseded DGKs; highest verified beacon counters by district and generation; reset none. -/
  old : List OldDgk := []
  beacons : List (Nat × Nat × Nat) := []
  /-- R343: districts whose records are to be swept, and since when; reset none. -/
  sweeps : List (Nat × Nat) := []
  /-- R520: GEN of the superseded IMAGE key that is kept; reset none. -/
  prevImage : Option Nat := none
  /-- R347: KEK is in slot 0 and keys can be unwrapped; reset false, until the start's first unwrap. -/
  kek : Bool := false
  /-- R15: pushes of frame security that Q2 or Q34 refused, tried again each cycle: the queue, the packet, since when; reset none. -/
  owed : List (Nat × Desc × Nat) := []
  deriving DecidableEq, Repr

/-- A die temperature sensor (R430, R431, R448). -/
structure Sensor where
  /-- TEMP, TEMP_PEAK, 0.1 °C; reset: DESIGN CHOICE 250 (log 2). -/
  temp : Int := 250
  peak : Int := 250
  inService : Bool := true
  /-- R431: since when it has differed from the others' mean by more than 25.0 °C; reset none. -/
  offSince : Option Nat := none
  deriving DecidableEq, Repr

/-- A candidate activity that the governor granted and whose end lies ahead (R428, R432): end (time base), energy, heat, µJ. -/
structure GrantedCost where
  fin : Int
  energy : Int
  heat : Int
  deriving DecidableEq, Repr

/-- Energy and thermal governor (R425-R449). -/
structure GovState where
  /-- R445 GOV_STATE; reset 0. -/
  st : Nat := 0
  /-- R425: E in µJ, and the hundredths of a µJ below it (R427); at a start E_CAP × E_RECOVER / 100 (R443). -/
  e : Int := 18000000
  frac : Nat := 0
  /-- R432 H_PENDING, as the grants not yet ended; reset none. -/
  granted : List GrantedCost := []
  /-- R426 PROFILE is night; reset false. -/
  night : Bool := false
  /-- R426: the lamp's level as sampled, since when, and as filtered over 100 ms; reset false, 0, false. -/
  lampRaw : Bool := false
  lampSince : Nat := 0
  lamp : Bool := false
  /-- R427: when BATT_SOC was last written; staleness; when event 10 was last raised; reset none, true, none. -/
  battAt : Option Nat := none
  battStale : Bool := true
  battRaised : Option Nat := none
  sensors : List Sensor := List.replicate 8 {}
  /-- R445 INPUT_POWER, INPUT_ENERGY (mJ), UNATTRIBUTED; reset 0. -/
  inputPower : Nat := 0
  inputEnergy : Nat := 0
  unattributed : Int := 0
  /-- The µJ of input energy below 1 mJ; reset 0. -/
  inputPart : Nat := 0
  /-- When the last refill, reconciliation and sample ran; reset 0. -/
  refillAt : Nat := 0
  reconAt : Nat := 0
  sampleAt : Nat := 0
  /-- R444 GRANT_MASK: classes granted in the last slot; reset 0. -/
  grantMask : Nat := 0
  /-- R440: the runtime holds its deferrable work; reset false. -/
  hold : Bool := false
  /-- R438: commands accepted with MODE 1 whose first slot of work is deferred: key, since when; reset none. -/
  deferred : List (Nat × Nat) := []
  /-- R438: accepted commands of task 6 whose first slot of work has come; reset none. -/
  begun : List Nat := []
  /-- R557 TASK_LAST_GRANT of tasks 0-6; reset 0. -/
  taskAt : List Int := List.replicate 7 0
  /-- R449 event 9: since when class 1, 2, 3 has been deferred in every slot, and whether it was raised; reset none. -/
  starved : List (Nat × Nat × Bool) := []
  deriving DecidableEq, Repr

/-- HIER_STATE (R375). -/
inductive HierSt where
  | unlinked | standby | takingOver | leased | autonomous | autonomyEnded | expired | fenced
  deriving DecidableEq, Repr

/-- A hierarchy link (R368, R369): the other device's ID (0 the manager), LINK, whether it is up, its sequence numbers, the real
time of its last valid message, and whether this device opened it. -/
structure Link where
  peer : Nat
  link : Nat
  key : LinkKey
  up : Bool
  rxSeq : Nat
  txSeq : Nat
  lastRx : Nat
  opened : Bool
  deriving DecidableEq, Repr

/-- A request sent on a link and not yet answered (R369): the other device, the message, when it was last sent. -/
structure HlReq where
  peer : Nat
  msg : HlMsg
  at_ : Nat
  deriving DecidableEq, Repr

/-- A delta being reassembled from its parts (R391). -/
structure DeltaParts where
  id : Nat
  total : Nat
  parts : List (Nat × List Byte)
  deriving DecidableEq, Repr

/-- A probe of the peers under way (R377): its ID, when it was sent, the answers (peer, HB_AGE). -/
structure Probe where
  id : Nat
  at_ : Nat
  answers : List (Nat × Nat)
  deriving DecidableEq, Repr

/-- What the manager holds of a worker or spare beside its RP entries (R372, R379, R398). -/
structure WRec where
  id : Nat
  suspect : Bool := false
  dead : Bool := false
  /-- W_HSTATE, W_LEASE_END, W_MISSED, W_ALIGN; reset 0xFF, 0, 0, 0xFFFFFFFF. -/
  hstate : Nat := 255
  leaseEnd : Int := 0
  missed : Nat := 0
  align : Nat := 4294967295
  /-- HB_SEQ of the last heartbeat sent, and whether it has been acknowledged; reset none. -/
  hbSeq : Option Nat := none
  acked : Bool := true
  /-- WITNESS_RSP since it became SUSPECT: AGE, EPOCH. -/
  witness : List (Nat × Nat) := []
  /-- R394: QSEQ of the last relayed request to it; reset 0. -/
  qseq : Nat := 0
  /-- R393: districts and generations of the DGKs sent over the present link. -/
  dgks : List (Nat × Nat) := []
  /-- R391: outcome of the last KEY_MSG (COUNTER, STATUS) and of the last delta (DELTA_ID, STATUS, SWITCH_ASN). -/
  keyResult : Option (Nat × Nat) := none
  deltaResult : Option (Nat × Nat × Nat) := none
  /-- R371: the last REPORT of the device: HKIND, BAND, DISTRICT, EPOCH, ARG0, ARG1. -/
  lastReport : Option (Nat × Nat × Nat × Nat × Nat × Nat) := none
  deriving DecidableEq, Repr

/-- What the manager holds of a district (R366, R383, R388, R391, R397); EPOCH, the delta counter and the reference persist. -/
structure DistrictRec where
  district : Nat
  /-- SERVER (0xFF none), DSTATE. -/
  server : Nat := 255
  dstate : Nat := 0
  epoch : Nat := 0
  deltaCtr : Nat := 0
  /-- R383: its first epoch is committed, and no READY has ended its ASSIGN. -/
  fresh : Bool := false
  /-- ASN_REF, ASN_REF_TIME, SLOT_LEN, GROUP_FC_MARK, DELTA_SEQ last committed or replicated. -/
  asnRef : Nat := 0
  asnRefTime : Int := 0
  slotLen : Nat := 0
  mark : Nat := 0
  deltaSeq : Nat := 0
  /-- The district's replicated records. -/
  nodes : List ReplNode := []
  deriving DecidableEq, Repr

/-- A takeover, restart or assignment under way on the manager (R381-R385). -/
structure Takeover where
  district : Nat
  restart : Bool
  /-- ASSIGN: the district is given its first epoch. -/
  assign : Bool
  /-- TARGET of the command (none chooses), and the candidates that failed. -/
  wanted : Option Nat
  tried : List Nat
  /-- The server replaced (0xFF none). -/
  old : Nat
  /-- The epoch is committed; the server chosen, once TAKEOVER is sent; START_TIME. -/
  committed : Bool
  target : Option Nat
  start : Int
  /-- When the next attempt is due. -/
  due : Nat
  /-- Key of the command that it completes, if one. -/
  key : Option Nat
  deriving DecidableEq, Repr

/-- A sighting of a node by a claim (R390): EUI, worker, SIGHT_TIME, LQI. -/
structure Sighting where
  eui : Nat
  worker : Nat
  at_ : Int
  lqi : Nat
  deriving DecidableEq, Repr

/-- A join request held for a verdict (R389), and what its descriptor gave. -/
structure HeldJoin where
  id : Nat
  eui : Nat
  band : Band
  sfd : Int
  err : Int
  acked : Bool
  lqi : Nat
  cfo : Int
  rssi : Int
  req : JoinReq
  at_ : Nat
  deriving DecidableEq, Repr

/-- The hierarchy (R366-R398): as a worker or spare sees it, then as the manager does. -/
structure HierState where
  st : HierSt := .unlinked
  /-- R368: links; openings sent and not answered (peer, ONONCE, when); reset none. -/
  links : List Link := []
  opening : List (Nat × Nat × Nat) := []
  /-- R369: requests not yet answered; identifiers received (peer, kind, number) with the answer given; reset none. -/
  requests : List HlReq := []
  answers : List (Nat × Nat × Nat × Option HlMsg) := []
  /-- R398 FENCE_EPOCH; reset 0. -/
  fenceEpoch : Nat := 0
  /-- R63 DISTRICT_ID; reset 0. -/
  district : Nat := 0
  /-- R384: the district being taken over (0 none); reset 0. -/
  taking : Nat := 0
  /-- R396 LEASE_END, LAST_HEARTBEAT and its real time, AUTONOMY_END; reset 0, 0, none, 0. -/
  leaseEnd : Int := 0
  lastHeartbeat : Int := 0
  heardAt : Option Nat := none
  autonomyEnd : Int := 0
  /-- R375: the worker has had a lease since its start; reset false. -/
  leased : Bool := false
  /-- R377: MISS_LIMIT and HB_INT (ms) as last carried; reset 8, 250. -/
  missLimit : Nat := 8
  hbInt : Nat := 250
  /-- R381: START_TIME of the takeover; reset 0. -/
  start : Int := 0
  /-- R384: GROUP_FC_MARK to commit, a restore's failure, RESTORE_END applied and READY owed, READY sent; reset none. -/
  restoreStatus : Nat := 0
  readyOwed : Bool := false
  readySent : Bool := false
  /-- R377: the probe under way, when the last was sent, next PROBE_ID; reset none, none, 1. -/
  probe : Option Probe := none
  probedAt : Option Nat := none
  nextProbe : Nat := 1
  /-- R392 PEER_LIST; reset none. -/
  peers : List PeerItem := []
  /-- R391: deltas in parts; reset none. -/
  parts : List DeltaParts := []
  /-- R388: records as last replicated, and when; when the last full pass began; reset none, 0, 0. -/
  replicated : List ReplNode := []
  replAt : Nat := 0
  fullAt : Nat := 0
  /-- R388: the records of a full pass not yet sent, and how many go at each REPL_INTERVAL; reset none, 0. -/
  fullLeft : List Nat := []
  fullShare : Nat := 0
  /-- R396: HL_PORT as the start found it; reset 5842. -/
  port : Nat := 5842
  /-- R394: QSEQ values executed with their responses, the last 16. -/
  relayed : List (Nat × Status × Body) := []
  /-- R49, R394: latches of relayed requests; reset none. -/
  relayLatches : List (Nat × Nat) := []
  /-- R389: joins held for a verdict; CLAIM_ID of the next claim; reset none, 1. -/
  joins : List HeldJoin := []
  /-- R379: until when a spare before takeover listens for a witness request; reset none. -/
  listenUntil : Option Nat := none
  nextId : Nat := 1
  /-- R370: the last authentic beacon of each district: district, real time, epoch; reset none. -/
  beacons : List (Nat × Nat × Nat) := []
  /-- Manager: devices, districts (R397 DISTRICT_TABLE), takeovers under way, sightings; reset none. -/
  ws : List WRec := []
  districts : List DistrictRec := []
  takeovers : List Takeover := []
  sightings : List Sighting := []
  /-- R372: HB_SEQ of the next heartbeat, REQ_ID of the next witness request, when heartbeats were last sent; reset 1, 1, 0. -/
  nextHb : Nat := 1
  nextReq : Nat := 1
  hbAt : Nat := 0
  deriving DecidableEq, Repr

/-- An entry of the node table (R269, R270). -/
structure NtEntry where
  /-- Place: bucket × 4 + way, and whether in the overflow store (EFLAGS OVERFLOW). -/
  loc : Nat
  ovf : Bool
  eui : Nat
  short : Nat
  hit : Bool
  stale : Bool
  static : Bool
  direct : Bool
  routeValid : Bool
  swept : Bool
  worker : Nat
  depth : Nat
  district : Nat
  record : Nat
  insertTime : Nat
  lastHit : Nat
  deriving DecidableEq, Repr

/-- A learn-pending candidate (R283). -/
structure Candidate where
  index : Nat
  eui : Nat
  short : Nat
  /-- LSTATE: 1 notified, 2 notification owed, 3 rejected. -/
  st : Nat
  bestLqi : Nat
  bestFrom : Nat
  ingress : Nat
  count : Nat
  first : Int
  last : Int
  /-- Real time of the first sighting. -/
  at_ : Nat
  deriving DecidableEq, Repr

/-- A reassembly in progress (R292): the sender, the tag, the packet, the intervals received, its granule. -/
structure Reasm where
  src : Nat
  tag : Nat
  ip : Ip
  size : Nat
  got : List (Nat × Nat)
  buf : Nat
  at_ : Nat
  deriving DecidableEq, Repr

/-- Forwarding and the node table (R268-R298). -/
structure FwdState where
  /-- R269: valid entries; reset none. -/
  entries : List NtEntry := []
  /-- R268: the VALID words of the short index: a short address, and the EUI of the entry whose place its word holds; reset none. -/
  sidx : List (Nat × Nat) := []
  /-- R271: which draws of Canton's TRNG gave SEED1 and SEED2 (the seeds are free values of it); reset 0. -/
  seedDraw : Nat := 0
  /-- R275: the cache's sets, EUIs most recently used first; reset none. -/
  cache : List (Nat × List Nat) := []
  /-- R284; reset none. -/
  lps : List Candidate := []
  /-- R286: pass parity, the pass's start; reset false, 0. -/
  parity : Bool := false
  passStart : Nat := 0
  /-- R286: AGE_PERIOD in force for the present pass (none: as set). -/
  period : Option Nat := none
  /-- R297 AGE_BEHIND; reset false. -/
  behind : Bool := false
  /-- R286: place the sweeper visits next: a place of the main buckets, or 1,048,576 + a place of the overflow store; reset 0. -/
  pos : Nat := 0
  /-- R281: buckets cleared by a table loss, whose nodes are to be inserted again: (overflow, bucket); and words of the short index. -/
  lost : List (Bool × Nat) := []
  lostShort : List Nat := []
  reasm : List Reasm := []
  /-- R15: packets of the runtime that Q37 refused, oldest first, pushed again; reset none. -/
  owed : List Desc := []
  /-- R277: the engine's turn among Q3, Q6, Q7 and Q37. -/
  turn : Nat := 0
  /-- R290: PKT_TAG of the next packet; the ICMPv6 errors sent in the present second, and its start (R290). -/
  pktTag : Nat := 0
  icmpSent : Nat := 0
  icmpAt : Nat := 0
  /-- R291: the present Trickle interval, ms log₂, its start, consistent DIOs heard. -/
  trickleI : Nat := 12
  trickleAt : Nat := 0
  trickleC : Nat := 0
  /-- R298: values in force of the RPL and context settings written since the last DIO; reset none. -/
  rplKept : Dict := []
  deriving DecidableEq, Repr

/-- A directory record of the image repository (R400). -/
structure ImageRec where
  slot : Nat
  /-- ISTATE: 1 committed, 2 damaged. -/
  st : Nat
  kind : Nat
  blocks : Nat
  version : Nat
  size : Nat
  time : Int
  digest : Nat
  deriving DecidableEq, Repr

/-- A repair waiting or outstanding (R412, R415): neighbour, node, block, part. -/
structure Repair where
  nbr : Nat
  node : Nat
  block : Nat
  part : Nat
  deriving DecidableEq, Repr

/-- A campaign (R404-R417); its parameters are RW entries in the dictionary. -/
structure Campaign where
  /-- C_STATE: 0 IDLE, 1 ANNOUNCING, 2 ROUND, 3 GAP, 4 PAUSED, 5 DONE, 6 ABORTED. -/
  st : Nat := 0
  /-- The state held before a pause. -/
  prior : Nat := 0
  pauseCause : Nat := 0
  /-- R403: paused by command when a damaged image paused it; reset false. -/
  heldPause : Bool := false
  round : Nat := 0
  /-- Announcements left to build in ANNOUNCING; frames of the round's plan left to build: (block, part); ANNOUNCE due. -/
  announce : Nat := 0
  plan : List (Nat × Nat) := []
  annDue : Bool := false
  /-- Blocks of the plan built since the last ANNOUNCE of the round. -/
  sinceAnn : Nat := 0
  /-- R414: frames pushed and not yet reported sent. -/
  outN : Nat := 0
  repairs : List Repair := []
  waiting : List Repair := []
  gapAt : Nat := 0
  lastSent : Nat := 0
  stalled : Bool := false
  /-- R417: aborted; the next slot preparation empties its multicast list; reset false. -/
  dropList : Bool := false
  targetsN : Nat := 0
  skipped : Nat := 0
  doneN : Nat := 0
  refusedN : Nat := 0
  failedN : Nat := 0
  lostN : Nat := 0
  deriving DecidableEq, Repr

/-- The steps of an assignment (R418): the worker's COUNT of event 104 read, the image staged, committed, its event awaited, the
target list staged, the parameters written, C_START executed, C_STATE read. -/
inductive AssignStep where
  | count | stage | commit | poll | targets | params | start | result
  deriving DecidableEq, Repr

/-- A CAMPAIGN_ASSIGN under way on the manager (R418): WORKER, CAMPAIGN, SLOT, its step, the offset staged next, COUNT of event 104
before the commit, the QSEQ of the request it awaits. -/
structure AssignRun where
  worker : Nat
  camp : Nat
  slot : Nat
  step : AssignStep
  off : Nat
  noted : Nat
  qseq : Nat
  deriving DecidableEq, Repr

/-- Bunting (R399-R424). -/
structure BuntState where
  images : List ImageRec := []
  camps : List Campaign := List.replicate 8 {}
  /-- R401: the commit under way: SLOT, KIND, VERSION, SIZE, DIGEST. -/
  committing : Option (Nat × Nat × Nat × Nat × Nat) := none
  /-- R418: the manager's assignment under way; reset none. -/
  assign : Option AssignRun := none
  lastCheck : Nat := 0
  deriving DecidableEq, Repr

/-- A gate list (R307): BASE, CYCLE, and its entries, gates and interval. -/
structure GateList where
  base : Int
  cycle : Nat
  entries : List (Nat × Nat)
  deriving DecidableEq, Repr

/-- A frame that a port is sending (R305): its class, its descriptor, and when it ends. -/
structure Sending where
  cls : Nat
  desc : Desc
  fin : Nat
  deriving DecidableEq, Repr

/-- One Ethernet port (R305-R312, R562-R566). -/
structure Port where
  /-- R581 LINK_UP, SPEED; reset false, 0. -/
  up : Bool := false
  speed : Nat := 0
  /-- R305: the frame being sent; reset none. -/
  sending : Option Sending := none
  /-- R307, R309: the active gate list; a committed list that waits for its switch instant; reset none. -/
  active : Option GateList := none
  waiting : Option (GateList × Int) := none
  /-- R312: a list restored at the start that waits for LOCKED; the list last committed, persistent; reset none. -/
  restored : Option GateList := none
  committed : Option GateList := none
  /-- R322 SWITCH_TIME; reset 0. -/
  switch : Int := 0
  deriving DecidableEq, Repr

/-- An entry of the airtime ledger (R314) that is not at rest: its credit in ns × 64,000,000. BAND and SPREAD follow from the
schedule in force, HELD from the hold. -/
structure Ledger where
  short : Nat
  credit : Int
  deriving DecidableEq, Repr

/-- A downlink descriptor in the hold (R315), and the cost it is charged at its release. -/
structure Held where
  desc : Desc
  cost : Nat
  deriving DecidableEq, Repr

/-- Shaping (R299-R323). -/
structure ShpState where
  /-- R321 CREDIT of S0-S31, in bits or ns × 64,000,000; reset 0. -/
  credits : List Int := List.replicate 32 0
  /-- R314: ledger entries with credit; reset none: every credit is 0. -/
  ledger : List Ledger := []
  /-- R315: the hold, oldest first; reset none. -/
  hold : List Held := []
  /-- R317: packets a fragment of which was discarded, whose later fragments go too: NEIGHBOUR and PKT_TAG; reset none. -/
  cut : List (Nat × Nat) := []
  ports : List Port := List.replicate 2 {}
  deriving DecidableEq, Repr

/-- A boot flash slot as the boot record holds it (R505, R506, R523): its state, and the header's fields. -/
structure FwSlot where
  /-- SLOT_STATE: 0 EMPTY, 1 WRITING, 2 READY, 3 TRIAL, 4 GOOD, 5 REJECTED. -/
  st : Nat := 0
  reason : Nat := 0
  version : Nat := 0
  sec : Nat := 0
  dict : Nat := 0
  minSet : Nat := 0
  keyGen : Nat := 0
  len : Nat := 0
  silicon : Nat := 0
  digest : Nat := 0
  deriving DecidableEq, Repr

/-- Device firmware update (R503-R523); the slots, SEC_FLOOR and TRIAL_SINCE persist. -/
structure FwState where
  /-- R506: slots A and B; reset: both EMPTY. -/
  slots : List FwSlot := List.replicate 2 {}
  /-- R507 FW_SLOT: the slot that runs; reset none. -/
  running : Option Nat := none
  /-- R522 SEC_FLOOR, TRIAL_SINCE, WRITE_PROGRESS, LAST_RESULT, HOIST_COUNT; reset 0. -/
  floor : Nat := 0
  trialSince : Int := 0
  progress : Nat := 0
  last : Nat := 0
  hoists : Nat := 0
  /-- R582 FLASH_ID, FLASH_SIZE, XSPI_PROTO as read at the start; reset 0: the flash has not been read. -/
  flashId : Nat := 0
  flashSize : Nat := 0
  fastFlash : Bool := false
  /-- R509: the slot being written; reset none. -/
  writing : Option Nat := none
  /-- R511, R518: the activation under way: the slot it leads to, whether it is a revert, and H0; reset none. -/
  hoist : Option (Nat × Bool × Nat) := none
  /-- R517: when a refused confirmation commit is tried again; reset none. -/
  confirmAt : Option Nat := none
  deriving DecidableEq, Repr

/-- What leaves the device (MODEL'S OWN log of outputs, oldest first). -/
inductive Out where
  /-- A QDL response: session, SEQ, header STATUS, body. -/
  | qdl (session seq : Nat) (status : Status) (body : Body)
  /-- A NOTIFY of an entry (R53): session, SEQ, SUB_ID, and the READ item: key, TYPE, value. -/
  | notifyEntry (session seq sub key ty : Nat) (v : Val)
  /-- A NOTIFY of an event (R54): session, SEQ, SUB_ID, event, TIME, DATA. -/
  | notifyEvent (session seq sub ev : Nat) (time : Int) (data : Nat)
  /-- A PDU encrypted and authenticated under a session key (R37, log 4). -/
  | sealed (s : Seal) (o : Out)
  /-- A PDU sent over UDP: port, IPv4, address and port of the host (R38, R567). -/
  | udp (prt : Fin 2) (v4 : Bool) (addr port : Nat) (o : Out)
  /-- A CLOSE sent by the device (R42). -/
  | qdlClose (session : Nat)
  /-- R79, R80: a two-step Sync of the master (its Follow_Up carries its transmit stamp), by port: transport, domain, sequence. -/
  | ptpSync (port transport domain seq : Nat)
  | ptpFollowUp (port transport domain seq : Nat) (origin : Int)
  /-- R80: Announce of the master, by port: transport, domain, sequence, clockClass. -/
  | ptpAnnounce (port transport domain seq clockClass : Nat)
  /-- R79: Delay_Req of the slave: port, transport, domain, sequence. -/
  | ptpDelayReq (port transport domain seq : Nat)
  /-- R79: Delay_Resp of the master: port, transport, domain, sequence, requesting port identity (clock, port), receive time, and the
  correctionField of the Delay_Req. -/
  | ptpDelayResp (port transport domain seq source sourcePort : Nat) (receive corr : Int)
  /-- R368, R370: a message sent on a hierarchy link to the other device (0 the manager). -/
  | hl (peer : Nat) (m : HlMsg)
  /-- R123, R210: a frame on the air: band, SFD stamp, channel, spreading, power in dBm, the frame. -/
  | air (band : Band) (stamp : Int) (channel spread : Nat) (power : Int) (f : MacFrame)
  /-- R232, R233: a Halyard burst: band, channel, the unit of 72 symbols that repeats without gaps, duration in ms. -/
  | halyard (band : Band) (channel : Nat) (symbols : List Nat) (duration : Nat)
  /-- R82: PPS_OUT driven. -/
  | ppsOut (high : Bool)
  /-- R305, R564: an Ethernet frame that a port has sent in full. -/
  | eth (port : Nat) (f : EthFrame)
  /-- R570: what an MSPI transaction returns: LEN of the oldest outbound PDU, TXLEN and RXFREE. -/
  | mspiLen (len : Nat)
  | mspiStatus (txLen rxFree : Nat)
  /-- R574-R576: a register write on the two-wire link: TW_SPEED, address, register, value. -/
  | pmic (speed addr reg value : Nat)
  /-- R573: the boot flash switched to 8D-8D-8D mode at a clock, MHz. -/
  | flashMode (mhz : Nat)
  /-- R567: an answer to a Neighbor Solicitation or an ARP request, or a detection begun, for an own address. -/
  | neighborAdvert (port addr : Nat)
  | arpReply (port addr : Nat)
  | dadProbe (addr : Nat)
  /-- R577: the level driven at GPIO `n`. -/
  | gpio (n : Nat) (high : Bool)
  deriving DecidableEq, Repr

/-- The GPIO balls and PPS_IN as levels (R530, R577). -/
structure GpioState where
  /-- R577, R530: level at the ball of GPIO0-GPIO23 as the outside drives it, a bit each; reset: DESIGN CHOICE 0 (log 2). -/
  input : Nat := 0
  /-- R530: level at PPS_IN; reset: DESIGN CHOICE low (log 2). -/
  ppsIn : Bool := false
  /-- R577: levels written to GPIO_OUT while the pads are latched are in the dictionary; the level each pad holds latched. -/
  latched : Nat := 0
  deriving DecidableEq, Repr

/-- A PDU that waits for a serial transport: its length in octets, and what it is. -/
structure OutPdu where
  len : Nat
  pdu : Out
  deriving DecidableEq, Repr

/-- Backhaul, host and board interfaces, beside the ports (R567-R580). -/
structure IfState where
  /-- R566 RX_LATENCY, TX_LATENCY, ns: of E0, then of E1, one value for each PORT_MODE; measured in production; reset: DESIGN CHOICE 0
  (log 2). -/
  rxLatency : List Nat := List.replicate 6 0
  txLatency : List Nat := List.replicate 6 0
  /-- R567: the /64 prefix taken from a Router Advertisement, and its sender as default router; reset none. -/
  raPrefix : Option Nat := none
  router : Option Nat := none
  /-- R567: IPv6 addresses under Duplicate Address Detection, and those in use: link-local, global; reset none. -/
  tentative : List Nat := []
  linkLocal : Option Nat := none
  global_ : Option Nat := none
  /-- R567: the 0x9008 settings in force since the last reset (none: as set at the start). -/
  addr4 : Nat := 0
  addr6 : Nat := 0
  /-- R569: octets of a partial MUART frame, and when the last came; reset none. -/
  muartPart : Option (List Byte) := none
  muartAt : Nat := 0
  /-- R568: MUART_CTS_N is asserted; reset: DESIGN CHOICE true (log 2). The rate in force, and a rate that waits for its instant. -/
  cts : Bool := true
  baud : Nat := 115200
  baudDue : Option (Nat × Nat) := none
  /-- R568: PDUs that wait while MUART_CTS_N is released; reset none. -/
  muartOut : List OutPdu := []
  /-- R570, R571: PDUs in the outbound buffer of MSPI, and responses that wait for space; reset none. -/
  mspiOut : List OutPdu := []
  mspiWait : List OutPdu := []
  /-- R579: EXTEST, CLAMP or HIGHZ holds the pads; reset false. -/
  extest : Bool := false
  /-- R575: D0's copy of PMIC_ADDR, TW_SPEED, ON_SEQ and OFF_SEQ, made at step 11 of a start; reset none. -/
  pmicCopy : Option (Nat × Nat × List Byte × List Byte) := none
  deriving DecidableEq, Repr

/-- A subscription (R52, R53). -/
structure Sub where
  id : Nat
  /-- KIND 1: an event. -/
  event : Bool
  /-- The entry's key, or the event's number. -/
  key : Nat
  /-- MIN_INTERVAL, ms. -/
  minMs : Nat
  /-- R53: when the last NOTIFY went out; the value it carried. -/
  lastAt : Option Nat
  lastVal : Option Val
  deriving DecidableEq, Repr

/-- An open session (R39-R44). -/
structure Session where
  id : Nat
  level : Nat
  /-- R39, R41: opened with AUTH, and by which credential. -/
  auth : Bool
  cred : Nat
  transport : Transport
  /-- R39: the session key, of no meaning without AUTH. -/
  key : SessKey
  /-- R42: the last request that counts against IDLE_TIMEOUT. -/
  lastReq : Nat
  /-- R43: the responses to the last 16 SEQ values executed, oldest first, and the highest SEQ executed. -/
  kept : List (Nat × Status × Body)
  topSeq : Option Nat
  subs : List Sub
  /-- R49: latched upper bits by entry key. -/
  latches : List (Nat × Nat)
  /-- R54: the notification counter. -/
  notifySeq : Nat
  deriving DecidableEq, Repr

/-- A handshake after its CHALLENGE (R39, R40). -/
structure Handshake where
  id : Nat
  cred : Nat
  transport : Transport
  at_ : Nat
  /-- R39: HNONCE and HPUB of the HELLO, DNONCE and DPUB of the CHALLENGE. -/
  hnonce : Nat
  hpub : Nat
  dnonce : Nat
  dpub : Nat
  deriving DecidableEq, Repr

/-- Failures of one credential (R40). -/
structure CredFail where
  cred : Nat
  /-- Instants of its failures within the last 60 s. -/
  fails : List Nat
  /-- When the refusal began. -/
  refusedAt : Option Nat
  deriving DecidableEq, Repr

/-- A relayed request the manager awaits the answer of (R60): the host's session and SEQ (no session: the manager's own runtime, R418),
the target, its QSEQ (R394), when it was first sent. -/
structure RelayWait where
  session : Option Nat
  seq : Nat
  target : Nat
  qseq : Nat
  at_ : Nat
  /-- R38: where the host's request came from. -/
  via : Transport := .muart
  deriving DecidableEq, Repr

/-- QDL (R35-R61). -/
structure QdlState where
  /-- R42: open sessions, at most 8; reset none. -/
  sessions : List Session := []
  /-- R39: handshakes under way; reset none. -/
  handshakes : List Handshake := []
  /-- R40; reset none. -/
  credFails : List CredFail := []
  /-- R60; reset none. -/
  relays : List RelayWait := []
  /-- R55: staged octets of BULK writes by entry key: (offset, octet); reset none. -/
  staged : List (Nat × List (Nat × Byte)) := []
  /-- R51: keys of the commands accepted with MODE 1 that are still running; reset none. -/
  running : List Nat := []
  /-- R44: requests taken from Q5 or arrived that wait behind a RELAY of their session, oldest first; reset none. -/
  held : List (Req × Inner) := []
  /-- R64: the UDP port in force since the last reset; reset 5841. -/
  udpPort : Nat := 5841
  deriving DecidableEq, Repr

/-- Everything but the queue, what is fixed, and the store's bytes. -/
structure Dev where
  cnt : Counters := []
  rw : Dict := []
  clk : ClkState := {}
  ptp : PtpState := {}
  pps : PpsState := {}
  pwr : PwrState := {}
  start : StartState := {}
  nv : NvState := {}
  ev : EvState := {}
  err : ErrState := {}
  tel : TelemState := {}
  store : StoreState := {}
  queues : List Queue := List.replicate 56 {}
  timers : List Timer := List.replicate 24 {}
  /-- MODEL'S OWN: time since the last tick of the timers' sources 0 to 2 (R526), 1/64 ns; reset DESIGN CHOICE 0 (log 164). -/
  tmSrc : List Nat := [0, 0, 0]
  halted : Bool := false
  bandSf : BandState := {}
  bandG : BandState := {}
  lanes : List Lane := List.replicate 32 {}
  gov : GovState := {}
  sched : SchedState := {}
  nbr : NbrState := {}
  fwd : FwdState := {}
  shp : ShpState := {}
  bunting : BuntState := {}
  fw : FwState := {}
  can : CantonState := {}
  hier : HierState := {}
  qdl : QdlState := {}
  gpio : GpioState := {}
  ifs : IfState := {}
  free : Nat := 0
  out : List Out := []
  deriving DecidableEq, Repr

/-- The state of the block: the commands that wait, first in first out; what is fixed; the store's bytes; all else. -/
structure State where
  pending : List Instr
  perm : Perm
  mem : Memory
  d : Dev
  deriving DecidableEq, Repr

/-- The machine right after reset: VAON has come up on a device never started, and D0 has commanded VCORE on. -/
def State.reset : State := { pending := [], perm := {}, mem := [], d := {} }

end Sys2Proof.Machine
end

