-- ==== Sys2Proof/Machine/EntryForm.lean ====
section
/-!
DEFINITION. What a dictionary entry is (R27-R30): its type, access class, levels, default, range and modes.
-/
namespace Sys2Proof.Machine

/-- The entry types (R29). -/
inductive Ty where
  | u8 | u16 | u32 | u64 | i16 | i32 | i64 | bool | enum8 | bits32 | time64 | dur32 | ppm32 | addr64 | addr16
  | str (n : Nat)
  | blob (n : Nat)
  deriving DecidableEq, Repr

/-- The access classes (R30). -/
inductive Access where
  | ro | rw | rp | wo | cx
  deriving DecidableEq, Repr

/-- One row of an entry table (R27, R28). -/
structure Entry where
  idx : Nat
  cnt : Nat
  sub : Nat
  scnt : Nat
  ty : Ty
  acc : Access
  rl : Nat
  wl : Nat
  dflt : Val
  lo : Int
  hi : Int
  modes : Nat
  deriving DecidableEq, Repr

/-- An octet string of zeros: the default "all zero". -/
def zb (n : Nat) : Val := .bytes (List.replicate n 0)

/-- ASCII text as octets: the default of a STR entry. -/
def tx (s : String) : Val := .bytes (s.toList.map (fun c => BitVec.ofNat 8 c.toNat))

/-- Type code (R29). -/
def Ty.code : Ty → Nat
  | .u8 => 0x01 | .u16 => 0x02 | .u32 => 0x03 | .u64 => 0x04 | .i16 => 0x05 | .i32 => 0x06 | .i64 => 0x07
  | .bool => 0x08 | .enum8 => 0x09 | .bits32 => 0x0A | .time64 => 0x0B | .dur32 => 0x0C | .ppm32 => 0x0D
  | .addr64 => 0x0E | .addr16 => 0x0F | .str _ => 0x10 | .blob _ => 0x11

/-- Size in octets of a value of the type; 0 for STR, whose length varies (R29, R33). -/
def Ty.size : Ty → Nat
  | .u8 => 1 | .u16 => 2 | .u32 => 4 | .u64 => 8 | .i16 => 2 | .i32 => 4 | .i64 => 8
  | .bool => 1 | .enum8 => 1 | .bits32 => 4 | .time64 => 8 | .dur32 => 4 | .ppm32 => 4
  | .addr64 => 8 | .addr16 => 2 | .str _ => 0 | .blob n => n

/-- Whether the type is numeric, with a default, a minimum and a maximum in META: the types whose write check is a range (R27, R29, R33). -/
def Ty.numeric : Ty → Bool
  | .u8 => true | .u16 => true | .u32 => true | .u64 => true | .i16 => true | .i32 => true | .i64 => true
  | .time64 => true | .dur32 => true | .ppm32 => true
  | .bool => false | .enum8 => false | .bits32 => false | .addr64 => false | .addr16 => false | .str _ => false | .blob _ => false

/-- Whether values of the type are two's complement. -/
def Ty.signed : Ty → Bool
  | .i16 => true | .i32 => true | .i64 => true | .time64 => true | .ppm32 => true | _ => false

/-- Access code of META (R33). -/
def Access.code : Access → Nat
  | .ro => 0 | .rw => 1 | .rp => 2 | .wo => 3 | .cx => 4

end Sys2Proof.Machine
end

