-- ==== Sys2Proof/Machine/EntriesMesh.lean ====
section
/-!
DEFINITION. The dictionary entries of the radio, lanes, schedule, neighbours, store, queues, forwarding and shaping.
Written from the entry tables of spec/ (R28): index, how many instances, sub-index, how many sub-indices, type, access class, read
level, write level (255: none), default, minimum, maximum, and the modes of writing or execution (bit n for Mn).
-/
namespace Sys2Proof.Machine

/-- Entries 0x2000–0x20FF: band SF front end. -/
def entries20 : List Entry :=
  [
    ⟨0x2000, 1, 0x00, 1, .u8, .ro, 0, 255, .num 27, 0, 255, 0x0⟩,  -- HIGHEST_SUB (R27)
    ⟨0x2000, 1, 0x01, 1, .enum8, .rp, 0, 2, .num 0, 0, 1, 0x20⟩,  -- PLAN (R117)
    ⟨0x2000, 1, 0x02, 1, .enum8, .ro, 0, 255, .num 0, 0, 255, 0x0⟩,  -- RADIO_STATE (R117)
    ⟨0x2000, 1, 0x03, 1, .u32, .ro, 0, 255, .num 0, 0, 4294967295, 0x0⟩,  -- RX_LO_FREQ (R117)
    ⟨0x2000, 1, 0x04, 1, .u8, .ro, 0, 255, .num 255, 0, 255, 0x0⟩,  -- TX_CHANNEL (R117)
    ⟨0x2000, 1, 0x05, 1, .u32, .ro, 1, 255, .num 0, 0, 4294967295, 0x0⟩,  -- TX_SYN_WORD (R117)
    ⟨0x2000, 1, 0x06, 1, .ppm32, .ro, 1, 255, .num 0, (-2147483648), 2147483647, 0x0⟩,  -- TX_PREOFFSET (R117)
    ⟨0x2000, 1, 0x07, 1, .u8, .ro, 0, 255, .num 0, 0, 255, 0x0⟩,  -- GAIN_INDEX (R117)
    ⟨0x2000, 1, 0x08, 1, .u8, .rp, 0, 2, .num 6, 0, 20, 0xFE0⟩,  -- GAIN_HEADROOM (R117)
    ⟨0x2000, 1, 0x09, 1, .i16, .rp, 0, 2, .num (-700), (-1300), (-100), 0xFE0⟩,  -- DEFAULT_RX_LEVEL (R117)
    ⟨0x2000, 1, 0x0A, 1, .i16, .rp, 0, 2, .num 0, (-100), 300, 0xFE0⟩,  -- EXT_LNA_GAIN (R117)
    ⟨0x2000, 1, 0x0B, 1, .bool, .rp, 0, 2, .num 0, 0, 1, 0xFE0⟩,  -- EXT_PA_PRESENT (R117)
    ⟨0x2000, 1, 0x0C, 1, .i16, .rp, 0, 2, .num 44, (-40), 44, 0xFE0⟩,  -- MAX_TX_POWER (R117)
    ⟨0x2000, 1, 0x0D, 1, .dur32, .rp, 0, 2, .num 10000, 1000, 30000, 0xFE0⟩,  -- PA_LEAD (R117)
    ⟨0x2000, 1, 0x0E, 1, .dur32, .rp, 0, 2, .num 2000, 0, 10000, 0xFE0⟩,  -- PA_LAG (R117)
    ⟨0x2000, 1, 0x0F, 1, .dur32, .rp, 0, 2, .num 5000, 1000, 30000, 0xFE0⟩,  -- LNA_LEAD (R117)
    ⟨0x2000, 1, 0x10, 1, .u8, .rp, 0, 2, .num 8, 2, 30, 0xFE0⟩,  -- CAL_TEMP_DELTA (R117)
    ⟨0x2000, 1, 0x11, 1, .u8, .cx, 255, 1, .num 0, 0, 255, 0x5E0⟩,  -- CALIBRATE (R117)
    ⟨0x2000, 1, 0x12, 1, .bool, .ro, 0, 255, .num 0, 0, 1, 0x0⟩,  -- CAL_PENDING (R117)
    ⟨0x2000, 1, 0x13, 1, .i16, .ro, 0, 255, .num 0, (-32768), 32767, 0x0⟩,  -- LAST_CAL_TEMP (R117)
    ⟨0x2000, 1, 0x14, 1, .time64, .ro, 0, 255, .num 0, (-9223372036854775808), 9223372036854775807, 0x0⟩,  -- LAST_CAL_TIME (R117)
    ⟨0x2000, 1, 0x15, 1, .i16, .ro, 0, 255, .num 0, (-32768), 32767, 0x0⟩,  -- IMAGE_REJ (R117)
    ⟨0x2000, 1, 0x16, 1, .u32, .ro, 1, 255, .num 0, 0, 4294967295, 0x0⟩,  -- TX_LATE_COUNT (R117)
    ⟨0x2000, 1, 0x17, 1, .u32, .ro, 1, 255, .num 0, 0, 4294967295, 0x0⟩,  -- SYNTH_BUSY_COUNT (R117)
    ⟨0x2000, 1, 0x18, 1, .u32, .ro, 1, 255, .num 0, 0, 4294967295, 0x0⟩,  -- CAL_ABANDONED_COUNT (R117)
    ⟨0x2000, 1, 0x19, 1, .u32, .ro, 1, 255, .num 0, 0, 4294967295, 0x0⟩,  -- PREOFFSET_CLAMPED (R117)
    ⟨0x2000, 1, 0x1A, 1, .dur32, .rp, 0, 2, .num 2000000, 0, 50000000, 0xFE0⟩,  -- STANDBY_HOLD (R117)
    ⟨0x2000, 1, 0x1B, 1, .dur32, .rp, 0, 2, .num 20000000, 0, 1000000000, 0xFE0⟩,  -- SLEEP_HOLD (R117)
    ⟨0x2020, 1, 0x00, 1, .u8, .ro, 0, 255, .num 28, 0, 255, 0x0⟩,  -- HIGHEST_SUB (R27)
    ⟨0x2020, 1, 0x01, 28, .i16, .ro, 0, 255, .num 0, (-32768), 32767, 0x0⟩   -- GAIN_CEILING (R118)
  ]

/-- Entries 0x2100–0x21FF: band G front end. -/
def entries21 : List Entry :=
  [
    ⟨0x2100, 1, 0x00, 1, .u8, .ro, 0, 255, .num 27, 0, 255, 0x0⟩,  -- HIGHEST_SUB (R27)
    ⟨0x2100, 1, 0x01, 1, .enum8, .ro, 0, 255, .num 2, 0, 255, 0x0⟩,  -- PLAN (R117)
    ⟨0x2100, 1, 0x02, 1, .enum8, .ro, 0, 255, .num 0, 0, 255, 0x0⟩,  -- RADIO_STATE (R117)
    ⟨0x2100, 1, 0x03, 1, .u32, .ro, 0, 255, .num 0, 0, 4294967295, 0x0⟩,  -- RX_LO_FREQ (R117)
    ⟨0x2100, 1, 0x04, 1, .u8, .ro, 0, 255, .num 255, 0, 255, 0x0⟩,  -- TX_CHANNEL (R117)
    ⟨0x2100, 1, 0x05, 1, .u32, .ro, 1, 255, .num 0, 0, 4294967295, 0x0⟩,  -- TX_SYN_WORD (R117)
    ⟨0x2100, 1, 0x06, 1, .ppm32, .ro, 1, 255, .num 0, (-2147483648), 2147483647, 0x0⟩,  -- TX_PREOFFSET (R117)
    ⟨0x2100, 1, 0x07, 1, .u8, .ro, 0, 255, .num 0, 0, 255, 0x0⟩,  -- GAIN_INDEX (R117)
    ⟨0x2100, 1, 0x08, 1, .u8, .rp, 0, 2, .num 6, 0, 20, 0xFE0⟩,  -- GAIN_HEADROOM (R117)
    ⟨0x2100, 1, 0x09, 1, .i16, .rp, 0, 2, .num (-700), (-1300), (-100), 0xFE0⟩,  -- DEFAULT_RX_LEVEL (R117)
    ⟨0x2100, 1, 0x0A, 1, .i16, .rp, 0, 2, .num 0, (-100), 300, 0xFE0⟩,  -- EXT_LNA_GAIN (R117)
    ⟨0x2100, 1, 0x0B, 1, .bool, .rp, 0, 2, .num 0, 0, 1, 0xFE0⟩,  -- EXT_PA_PRESENT (R117)
    ⟨0x2100, 1, 0x0C, 1, .i16, .rp, 0, 2, .num 24, (-40), 24, 0xFE0⟩,  -- MAX_TX_POWER (R117)
    ⟨0x2100, 1, 0x0D, 1, .dur32, .rp, 0, 2, .num 10000, 1000, 30000, 0xFE0⟩,  -- PA_LEAD (R117)
    ⟨0x2100, 1, 0x0E, 1, .dur32, .rp, 0, 2, .num 2000, 0, 10000, 0xFE0⟩,  -- PA_LAG (R117)
    ⟨0x2100, 1, 0x0F, 1, .dur32, .rp, 0, 2, .num 5000, 1000, 30000, 0xFE0⟩,  -- LNA_LEAD (R117)
    ⟨0x2100, 1, 0x10, 1, .u8, .rp, 0, 2, .num 8, 2, 30, 0xFE0⟩,  -- CAL_TEMP_DELTA (R117)
    ⟨0x2100, 1, 0x11, 1, .u8, .cx, 255, 1, .num 0, 0, 255, 0x5E0⟩,  -- CALIBRATE (R117)
    ⟨0x2100, 1, 0x12, 1, .bool, .ro, 0, 255, .num 0, 0, 1, 0x0⟩,  -- CAL_PENDING (R117)
    ⟨0x2100, 1, 0x13, 1, .i16, .ro, 0, 255, .num 0, (-32768), 32767, 0x0⟩,  -- LAST_CAL_TEMP (R117)
    ⟨0x2100, 1, 0x14, 1, .time64, .ro, 0, 255, .num 0, (-9223372036854775808), 9223372036854775807, 0x0⟩,  -- LAST_CAL_TIME (R117)
    ⟨0x2100, 1, 0x15, 1, .i16, .ro, 0, 255, .num 0, (-32768), 32767, 0x0⟩,  -- IMAGE_REJ (R117)
    ⟨0x2100, 1, 0x16, 1, .u32, .ro, 1, 255, .num 0, 0, 4294967295, 0x0⟩,  -- TX_LATE_COUNT (R117)
    ⟨0x2100, 1, 0x17, 1, .u32, .ro, 1, 255, .num 0, 0, 4294967295, 0x0⟩,  -- SYNTH_BUSY_COUNT (R117)
    ⟨0x2100, 1, 0x18, 1, .u32, .ro, 1, 255, .num 0, 0, 4294967295, 0x0⟩,  -- CAL_ABANDONED_COUNT (R117)
    ⟨0x2100, 1, 0x19, 1, .u32, .ro, 1, 255, .num 0, 0, 4294967295, 0x0⟩,  -- PREOFFSET_CLAMPED (R117)
    ⟨0x2100, 1, 0x1A, 1, .dur32, .rp, 0, 2, .num 2000000, 0, 50000000, 0xFE0⟩,  -- STANDBY_HOLD (R117)
    ⟨0x2100, 1, 0x1B, 1, .dur32, .rp, 0, 2, .num 20000000, 0, 1000000000, 0xFE0⟩,  -- SLEEP_HOLD (R117)
    ⟨0x2120, 1, 0x00, 1, .u8, .ro, 0, 255, .num 21, 0, 255, 0x0⟩,  -- HIGHEST_SUB (R27)
    ⟨0x2120, 1, 0x01, 21, .i16, .ro, 0, 255, .num 0, (-32768), 32767, 0x0⟩   -- GAIN_CEILING (R118)
  ]

/-- Entries 0x2200–0x22FF: lanes. -/
def entries22a : List Entry :=
  [
    ⟨0x2200, 1, 0x00, 1, .u8, .ro, 0, 255, .num 14, 0, 255, 0x0⟩,  -- HIGHEST_SUB (R27)
    ⟨0x2200, 1, 0x01, 1, .u8, .rp, 0, 2, .num 60, 30, 200, 0xFE0⟩,  -- CAPTURE_THRESHOLD (R155)
    ⟨0x2200, 1, 0x02, 1, .u8, .rp, 0, 2, .num 30, 10, 200, 0xFE0⟩,  -- REHOME_THRESHOLD (R155)
    ⟨0x2200, 1, 0x03, 1, .u8, .rp, 0, 2, .num 12, 10, 32, 0xFE0⟩,  -- PREAMBLE_TIMEOUT (R155)
    ⟨0x2200, 1, 0x04, 1, .ppm32, .rp, 0, 2, .num 400, 100, 6200, 0xFE0⟩,  -- PRETUNE_WINDOW (R155)
    ⟨0x2200, 1, 0x05, 1, .bool, .rp, 0, 2, .num 1, 0, 1, 0xFE0⟩,  -- LONG_RX_EN (R155)
    ⟨0x2200, 1, 0x06, 1, .bool, .rp, 0, 2, .num 1, 0, 1, 0xFE0⟩,  -- LANE_ECONOMY (R155)
    ⟨0x2200, 1, 0x07, 1, .bool, .rw, 0, 1, .num 0, 0, 1, 0xFE0⟩,  -- KEEP_FAILED (R155)
    ⟨0x2200, 1, 0x08, 1, .bits32, .ro, 0, 255, .num 0, 0, 4294967295, 0x0⟩,  -- LANES_POWERED (R155)
    ⟨0x2200, 1, 0x09, 1, .bits32, .ro, 0, 255, .num 0, 0, 4294967295, 0x0⟩,  -- LANES_QUARANTINED (R155)
    ⟨0x2200, 1, 0x0A, 1, .u8, .cx, 255, 2, .num 0, 0, 255, 0xFE0⟩,  -- LANE_RESTORE (R155)
    ⟨0x2200, 1, 0x0B, 1, .u32, .ro, 1, 255, .num 0, 0, 4294967295, 0x0⟩,  -- UNCOVERED (R155)
    ⟨0x2200, 1, 0x0C, 1, .u32, .ro, 1, 255, .num 0, 0, 4294967295, 0x0⟩,  -- NO_BUFFER (R155)
    ⟨0x2200, 1, 0x0D, 1, .u32, .ro, 1, 255, .num 0, 0, 4294967295, 0x0⟩,  -- CLIPPED (R155)
    ⟨0x2200, 1, 0x0E, 1, .u16, .rp, 0, 2, .num 200, 10, 10000, 0xFE0⟩,  -- STORM_LIMIT (R155)
    ⟨0x2210, 1, 0x00, 1, .u8, .ro, 0, 255, .num 14, 0, 255, 0x0⟩,  -- HIGHEST_SUB (R27)
    ⟨0x2210, 1, 0x01, 1, .u8, .rp, 0, 2, .num 60, 30, 200, 0xFE0⟩,  -- CAPTURE_THRESHOLD (R155)
    ⟨0x2210, 1, 0x02, 1, .u8, .rp, 0, 2, .num 30, 10, 200, 0xFE0⟩,  -- REHOME_THRESHOLD (R155)
    ⟨0x2210, 1, 0x03, 1, .u8, .rp, 0, 2, .num 12, 10, 32, 0xFE0⟩,  -- PREAMBLE_TIMEOUT (R155)
    ⟨0x2210, 1, 0x04, 1, .ppm32, .rp, 0, 2, .num 400, 100, 6200, 0xFE0⟩,  -- PRETUNE_WINDOW (R155)
    ⟨0x2210, 1, 0x05, 1, .bool, .rp, 0, 2, .num 1, 0, 1, 0xFE0⟩,  -- LONG_RX_EN (R155)
    ⟨0x2210, 1, 0x06, 1, .bool, .rp, 0, 2, .num 1, 0, 1, 0xFE0⟩,  -- LANE_ECONOMY (R155)
    ⟨0x2210, 1, 0x07, 1, .bool, .rw, 0, 1, .num 0, 0, 1, 0xFE0⟩,  -- KEEP_FAILED (R155)
    ⟨0x2210, 1, 0x08, 1, .bits32, .ro, 0, 255, .num 0, 0, 4294967295, 0x0⟩,  -- LANES_POWERED (R155)
    ⟨0x2210, 1, 0x09, 1, .bits32, .ro, 0, 255, .num 0, 0, 4294967295, 0x0⟩,  -- LANES_QUARANTINED (R155)
    ⟨0x2210, 1, 0x0A, 1, .u8, .cx, 255, 2, .num 0, 0, 255, 0xFE0⟩,  -- LANE_RESTORE (R155)
    ⟨0x2210, 1, 0x0B, 1, .u32, .ro, 1, 255, .num 0, 0, 4294967295, 0x0⟩,  -- UNCOVERED (R155)
    ⟨0x2210, 1, 0x0C, 1, .u32, .ro, 1, 255, .num 0, 0, 4294967295, 0x0⟩,  -- NO_BUFFER (R155)
    ⟨0x2210, 1, 0x0D, 1, .u32, .ro, 1, 255, .num 0, 0, 4294967295, 0x0⟩,  -- CLIPPED (R155)
    ⟨0x2210, 1, 0x0E, 1, .u16, .rp, 0, 2, .num 200, 10, 10000, 0xFE0⟩,  -- STORM_LIMIT (R155)
    ⟨0x2220, 16, 0x00, 1, .u8, .ro, 0, 255, .num 3, 0, 255, 0x0⟩,  -- HIGHEST_SUB (R27)
    ⟨0x2220, 16, 0x01, 1, .enum8, .ro, 0, 255, .num 0, 0, 255, 0x0⟩,  -- CORR_STATE (R157)
    ⟨0x2220, 16, 0x02, 1, .u32, .ro, 1, 255, .num 0, 0, 4294967295, 0x0⟩,  -- HANDOVERS (R157)
    ⟨0x2220, 16, 0x03, 1, .u32, .ro, 1, 255, .num 0, 0, 4294967295, 0x0⟩,  -- SFD_REPORTS (R157)
    ⟨0x2240, 32, 0x00, 1, .u8, .ro, 0, 255, .num 16, 0, 255, 0x0⟩,  -- HIGHEST_SUB (R27)
    ⟨0x2240, 32, 0x01, 1, .enum8, .ro, 0, 255, .num 0, 0, 255, 0x0⟩,  -- LANE_STATE (R156)
    ⟨0x2240, 32, 0x02, 1, .u8, .ro, 0, 255, .num 255, 0, 255, 0x0⟩,  -- BOUND_CHANNEL (R156)
    ⟨0x2240, 32, 0x03, 1, .enum8, .ro, 0, 255, .num 255, 0, 255, 0x0⟩,  -- BOUND_SPREAD (R156)
    ⟨0x2240, 32, 0x04, 1, .ppm32, .ro, 1, 255, .num 0, (-2147483648), 2147483647, 0x0⟩,  -- PRETUNE (R156)
    ⟨0x2240, 32, 0x05, 1, .u32, .ro, 1, 255, .num 0, 0, 4294967295, 0x0⟩   -- FRAMES_OK (R156)
  ]

/-- Entries 0x2200–0x22FF: lanes. -/
def entries22b : List Entry :=
  [
    ⟨0x2240, 32, 0x06, 1, .u32, .ro, 1, 255, .num 0, 0, 4294967295, 0x0⟩,  -- FCS_BAD (R156)
    ⟨0x2240, 32, 0x07, 1, .u32, .ro, 1, 255, .num 0, 0, 4294967295, 0x0⟩,  -- PHR_BAD (R156)
    ⟨0x2240, 32, 0x08, 1, .u32, .ro, 1, 255, .num 0, 0, 4294967295, 0x0⟩,  -- ABORTS (R156)
    ⟨0x2240, 32, 0x09, 1, .u32, .ro, 1, 255, .num 0, 0, 4294967295, 0x0⟩,  -- CAPTURED (R156)
    ⟨0x2240, 32, 0x0A, 1, .u32, .ro, 1, 255, .num 0, 0, 4294967295, 0x0⟩,  -- CAPTURE_REFUSED (R156)
    ⟨0x2240, 32, 0x0B, 1, .u32, .ro, 1, 255, .num 0, 0, 4294967295, 0x0⟩,  -- FALSE_PREAMBLES (R156)
    ⟨0x2240, 32, 0x0C, 1, .u32, .ro, 1, 255, .num 0, 0, 4294967295, 0x0⟩,  -- REHOMES (R156)
    ⟨0x2240, 32, 0x0D, 1, .u32, .ro, 1, 255, .num 0, 0, 4294967295, 0x0⟩,  -- FAULTS (R156)
    ⟨0x2240, 32, 0x0E, 1, .i16, .ro, 0, 255, .num 0, (-32768), 32767, 0x0⟩,  -- LAST_RSSI (R156)
    ⟨0x2240, 32, 0x0F, 1, .u8, .ro, 0, 255, .num 0, 0, 255, 0x0⟩,  -- LAST_LQI (R156)
    ⟨0x2240, 32, 0x10, 1, .ppm32, .ro, 0, 255, .num 0, (-2147483648), 2147483647, 0x0⟩   -- LAST_CFO (R156)
  ]

/-- Entries 0x2200–0x22FF: lanes. -/
def entries22 : List Entry := entries22a ++ entries22b

/-- Entries 0x2300–0x23FF: transmit shaping. -/
def entries23 : List Entry :=
  [
    ⟨0x2300, 1, 0x00, 1, .u8, .ro, 0, 255, .num 9, 0, 255, 0x0⟩,  -- HIGHEST_SUB (R27)
    ⟨0x2300, 1, 0x01, 1, .blob 64, .rp, 0, 2, .bytes ([0x46, 0x06, 0x94, 0x12, 0x2B, 0x1E, 0x9A, 0x28, 0x79, 0x31, 0x71, 0x38, 0x3F, 0x3D, 0xB1, 0x3F, 0xB1, 0x3F, 0x3F, 0x3D, 0x71, 0x38, 0x79, 0x31, 0x9A, 0x28, 0x2B, 0x1E, 0x94, 0x12, 0x46, 0x06, 0x00, 0x00, 0x00, 0x00, 0x00, 0x00, 0x00, 0x00, 0x00, 0x00, 0x00, 0x00, 0x00, 0x00, 0x00, 0x00, 0x00, 0x00, 0x00, 0x00, 0x00, 0x00, 0x00, 0x00, 0x00, 0x00, 0x00, 0x00, 0x00, 0x00, 0x00, 0x00]), 0, 0, 0xFE0⟩,  -- FIR_COEF (R119)
    ⟨0x2300, 1, 0x02, 1, .u32, .rp, 0, 2, .num 1750000, 500000, 10000000, 0xFE0⟩,  -- MASK_OFFSET (R119)
    ⟨0x2300, 1, 0x03, 1, .i16, .rp, 0, 2, .num (-200), (-500), (-100), 0xFE0⟩,  -- MASK_REL_LIMIT (R119)
    ⟨0x2300, 1, 0x04, 1, .i16, .rp, 0, 2, .num (-360), (-600), 0, 0xFE0⟩,  -- MASK_ABS_LIMIT (R119)
    ⟨0x2300, 1, 0x05, 1, .bool, .rp, 0, 2, .num 1, 0, 1, 0xFE0⟩,  -- MASK_AUTO_RECOVER (R119)
    ⟨0x2300, 1, 0x06, 1, .bool, .ro, 0, 255, .num 0, 0, 1, 0x0⟩,  -- TX_INHIBIT (R119)
    ⟨0x2300, 1, 0x07, 1, .u8, .cx, 255, 2, .num 0, 0, 255, 0xFE0⟩,  -- CLEAR_INHIBIT (R119)
    ⟨0x2300, 1, 0x08, 1, .u32, .ro, 1, 255, .num 0, 0, 4294967295, 0x0⟩,  -- MASK_VIOLATIONS (R119)
    ⟨0x2300, 1, 0x09, 1, .i16, .ro, 1, 255, .num 0, (-32768), 32767, 0x0⟩,  -- MASK_MARGIN (R119)
    ⟨0x2310, 1, 0x00, 1, .u8, .ro, 0, 255, .num 9, 0, 255, 0x0⟩,  -- HIGHEST_SUB (R27)
    ⟨0x2310, 1, 0x01, 1, .blob 64, .rp, 0, 2, .bytes ([0x46, 0x06, 0x94, 0x12, 0x2B, 0x1E, 0x9A, 0x28, 0x79, 0x31, 0x71, 0x38, 0x3F, 0x3D, 0xB1, 0x3F, 0xB1, 0x3F, 0x3F, 0x3D, 0x71, 0x38, 0x79, 0x31, 0x9A, 0x28, 0x2B, 0x1E, 0x94, 0x12, 0x46, 0x06, 0x00, 0x00, 0x00, 0x00, 0x00, 0x00, 0x00, 0x00, 0x00, 0x00, 0x00, 0x00, 0x00, 0x00, 0x00, 0x00, 0x00, 0x00, 0x00, 0x00, 0x00, 0x00, 0x00, 0x00, 0x00, 0x00, 0x00, 0x00, 0x00, 0x00, 0x00, 0x00]), 0, 0, 0xFE0⟩,  -- FIR_COEF (R119)
    ⟨0x2310, 1, 0x02, 1, .u32, .rp, 0, 2, .num 3500000, 500000, 10000000, 0xFE0⟩,  -- MASK_OFFSET (R119)
    ⟨0x2310, 1, 0x03, 1, .i16, .rp, 0, 2, .num (-200), (-500), (-100), 0xFE0⟩,  -- MASK_REL_LIMIT (R119)
    ⟨0x2310, 1, 0x04, 1, .i16, .rp, 0, 2, .num (-300), (-600), 0, 0xFE0⟩,  -- MASK_ABS_LIMIT (R119)
    ⟨0x2310, 1, 0x05, 1, .bool, .rp, 0, 2, .num 1, 0, 1, 0xFE0⟩,  -- MASK_AUTO_RECOVER (R119)
    ⟨0x2310, 1, 0x06, 1, .bool, .ro, 0, 255, .num 0, 0, 1, 0x0⟩,  -- TX_INHIBIT (R119)
    ⟨0x2310, 1, 0x07, 1, .u8, .cx, 255, 2, .num 0, 0, 255, 0xFE0⟩,  -- CLEAR_INHIBIT (R119)
    ⟨0x2310, 1, 0x08, 1, .u32, .ro, 1, 255, .num 0, 0, 4294967295, 0x0⟩,  -- MASK_VIOLATIONS (R119)
    ⟨0x2310, 1, 0x09, 1, .i16, .ro, 1, 255, .num 0, (-32768), 32767, 0x0⟩   -- MASK_MARGIN (R119)
  ]

/-- Entries 0x3000–0x30FF: schedule. -/
def entries30a : List Entry :=
  [
    ⟨0x3000, 1, 0x00, 1, .u8, .ro, 0, 255, .num 14, 0, 255, 0x0⟩,  -- HIGHEST_SUB (R27)
    ⟨0x3000, 1, 0x01, 1, .u64, .ro, 0, 255, .num 0, 0, 18446744073709551615, 0x0⟩,  -- ASN (R197)
    ⟨0x3000, 1, 0x02, 1, .u32, .ro, 0, 255, .num 0, 0, 4294967295, 0x0⟩,  -- EPOCH (R197)
    ⟨0x3000, 1, 0x03, 1, .enum8, .ro, 0, 255, .num 0, 0, 255, 0x0⟩,  -- SCHED_STATE (R197)
    ⟨0x3000, 1, 0x04, 1, .u32, .ro, 0, 255, .num 0, 0, 4294967295, 0x0⟩,  -- DELTA_SEQ (R197)
    ⟨0x3000, 1, 0x05, 1, .u8, .ro, 0, 255, .num 0, 0, 255, 0x0⟩,  -- PENDING_DELTAS (R197)
    ⟨0x3000, 1, 0x06, 1, .u8, .ro, 0, 255, .num 0, 0, 255, 0x0⟩,  -- SLOTFRAMES (R197)
    ⟨0x3000, 1, 0x07, 1, .u32, .ro, 0, 255, .num 0, 0, 4294967295, 0x0⟩,  -- CELLS (R197)
    ⟨0x3000, 1, 0x08, 1, .u32, .ro, 1, 255, .num 0, 0, 4294967295, 0x0⟩,  -- LATE_SWITCHES (R197)
    ⟨0x3000, 1, 0x09, 1, .u32, .ro, 1, 255, .num 0, 0, 4294967295, 0x0⟩,  -- NEARFAR_EXCEEDED (R197)
    ⟨0x3000, 1, 0x0A, 1, .u32, .ro, 1, 255, .num 0, 0, 4294967295, 0x0⟩,  -- ACK_OVERRUNS (R197)
    ⟨0x3000, 1, 0x0B, 1, .u32, .ro, 1, 255, .num 0, 0, 4294967295, 0x0⟩,  -- RX_PREEMPTED (R197)
    ⟨0x3000, 1, 0x0C, 1, .enum8, .ro, 0, 255, .num 0, 0, 255, 0x0⟩,  -- STOP_CAUSE (R197)
    ⟨0x3000, 1, 0x0D, 1, .u64, .ro, 1, 255, .num 0, 0, 18446744073709551615, 0x0⟩,  -- ASN_REF (R197)
    ⟨0x3000, 1, 0x0E, 1, .time64, .ro, 1, 255, .num 0, (-9223372036854775808), 9223372036854775807, 0x0⟩,  -- ASN_REF_TIME (R197)
    ⟨0x3004, 1, 0x00, 1, .u8, .ro, 0, 255, .num 12, 0, 255, 0x0⟩,  -- HIGHEST_SUB (R27)
    ⟨0x3004, 1, 0x01, 1, .u64, .ro, 1, 255, .num 0, 0, 18446744073709551615, 0x0⟩,  -- TIMING_ASN (R198)
    ⟨0x3004, 1, 0x02, 1, .dur32, .ro, 0, 255, .num 10000000, 0, 4294967295, 0x0⟩,  -- SLOT_LEN (R198)
    ⟨0x3004, 1, 0x03, 1, .dur32, .ro, 0, 255, .num 4100000, 0, 4294967295, 0x0⟩,  -- TX_OFFSET (R198)
    ⟨0x3004, 1, 0x04, 1, .dur32, .ro, 0, 255, .num 800000, 0, 4294967295, 0x0⟩,  -- ACK_DELAY (R198)
    ⟨0x3004, 1, 0x05, 1, .dur32, .ro, 0, 255, .num 200000, 0, 4294967295, 0x0⟩,  -- ACK_GUARD (R198)
    ⟨0x3004, 1, 0x06, 1, .dur32, .ro, 0, 255, .num 1000000, 0, 4294967295, 0x0⟩,  -- SHARED_GUARD (R198)
    ⟨0x3004, 1, 0x07, 1, .dur32, .ro, 0, 255, .num 500000, 0, 4294967295, 0x0⟩,  -- GUARD_BUDGET (R198)
    ⟨0x3004, 1, 0x08, 1, .dur32, .ro, 0, 255, .num 200000, 0, 4294967295, 0x0⟩,  -- SLOT_TAIL (R198)
    ⟨0x3004, 1, 0x09, 1, .u16, .ro, 0, 255, .num 24, 0, 65535, 0x0⟩,  -- ACK_PSDU (R198)
    ⟨0x3004, 1, 0x0A, 1, .dur32, .ro, 0, 255, .num 500000, 0, 4294967295, 0x0⟩,  -- RESCUE_LEAD (R198)
    ⟨0x3004, 1, 0x0B, 1, .u8, .ro, 0, 255, .num 1, 0, 255, 0x0⟩,  -- MIN_BE (R198)
    ⟨0x3004, 1, 0x0C, 1, .u8, .ro, 0, 255, .num 5, 0, 255, 0x0⟩,  -- MAX_BE (R198)
    ⟨0x3008, 2, 0x00, 1, .u8, .ro, 0, 255, .num 2, 0, 255, 0x0⟩,  -- HIGHEST_SUB (R27)
    ⟨0x3008, 2, 0x01, 1, .u8, .ro, 0, 255, .num 0, 0, 255, 0x0⟩,  -- HOP_LEN (R199)
    ⟨0x3008, 2, 0x02, 1, .blob 64, .ro, 0, 255, (zb 64), 0, 0, 0x0⟩,  -- HOP_SEQ (R199)
    ⟨0x3010, 1, 0x00, 1, .u8, .ro, 0, 255, .num 6, 0, 255, 0x0⟩,  -- HIGHEST_SUB (R27)
    ⟨0x3010, 1, 0x01, 1, .blob 65536, .wo, 255, 2, .bytes [], 0, 0, 0xFE0⟩,  -- DELTA_STAGE (R200)
    ⟨0x3010, 1, 0x02, 1, .u8, .cx, 255, 2, .num 0, 0, 255, 0x1C0⟩,  -- DELTA_SUBMIT (R200)
    ⟨0x3010, 1, 0x03, 1, .u8, .cx, 255, 2, .num 0, 0, 255, 0xFE0⟩,  -- DELTA_DISCARD (R200)
    ⟨0x3010, 1, 0x04, 1, .u16, .ro, 1, 255, .num 0, 0, 65535, 0x0⟩,  -- LAST_DELTA_STATUS (R200)
    ⟨0x3010, 1, 0x05, 1, .enum8, .ro, 1, 255, .num 0, 0, 255, 0x0⟩,  -- LAST_DELTA_REASON (R200)
    ⟨0x3010, 1, 0x06, 1, .u64, .ro, 1, 255, .num 0, 0, 18446744073709551615, 0x0⟩,  -- LAST_SWITCH_ASN (R200)
    ⟨0x3040, 64, 0x00, 1, .u8, .ro, 0, 255, .num 4, 0, 255, 0x0⟩,  -- HIGHEST_SUB (R27)
    ⟨0x3040, 64, 0x01, 1, .u16, .ro, 0, 255, .num 0, 0, 65535, 0x0⟩   -- SF_SIZE (R200)
  ]

/-- Entries 0x3000–0x30FF: schedule. -/
def entries30b : List Entry :=
  [
    ⟨0x3040, 64, 0x02, 1, .enum8, .ro, 0, 255, .num 255, 0, 255, 0x0⟩,  -- SF_BAND (R200)
    ⟨0x3040, 64, 0x03, 1, .u32, .ro, 0, 255, .num 0, 0, 4294967295, 0x0⟩,  -- SF_CELLS (R200)
    ⟨0x3040, 64, 0x04, 1, .bool, .rw, 0, 2, .num 0, 0, 1, 0xFE0⟩,  -- SF_SUSPEND (R200)
    ⟨0x3080, 1, 0x00, 1, .u8, .ro, 0, 255, .num 2, 0, 255, 0x0⟩,  -- HIGHEST_SUB (R27)
    ⟨0x3080, 1, 0x01, 1, .u8, .cx, 255, 1, .num 0, 0, 255, 0xFE0⟩,  -- CELL_QUERY (R200)
    ⟨0x3080, 1, 0x02, 1, .blob 33554432, .ro, 1, 255, .bytes [], 0, 0, 0x0⟩   -- SCHED_IMAGE (R200)
  ]

/-- Entries 0x3000–0x30FF: schedule. -/
def entries30 : List Entry := entries30a ++ entries30b

/-- Entries 0x3100–0x31FF: neighbours. -/
def entries31 : List Entry :=
  [
    ⟨0x3100, 1, 0x00, 1, .u8, .ro, 0, 255, .num 34, 0, 255, 0x0⟩,  -- HIGHEST_SUB (R27)
    ⟨0x3100, 1, 0x01, 1, .u32, .ro, 0, 255, .num 0, 0, 4294967295, 0x0⟩,  -- NEIGHBOURS (R234)
    ⟨0x3100, 1, 0x02, 1, .u16, .ro, 0, 255, .num 0, 0, 65535, 0x0⟩,  -- ON_DIE (R234)
    ⟨0x3100, 1, 0x03, 1, .u16, .ro, 0, 255, .num 0, 0, 65535, 0x0⟩,  -- ADRIFT_COUNT (R234)
    ⟨0x3100, 1, 0x04, 1, .bits32, .ro, 0, 255, .num 0, 0, 4294967295, 0x0⟩,  -- RESCUE_ACTIVE (R234)
    ⟨0x3100, 1, 0x05, 1, .u8, .rp, 0, 2, .num 3, 1, 6, 0xFE0⟩,  -- CFO_WEIGHT (R234)
    ⟨0x3100, 1, 0x06, 1, .u8, .rp, 0, 2, .num 2, 0, 5, 0xFE0⟩,  -- DRIFT_WEIGHT (R234)
    ⟨0x3100, 1, 0x07, 1, .dur32, .rp, 0, 2, .num 150000, 50000, 1000000, 0xFE0⟩,  -- GUARD_BASE (R234)
    ⟨0x3100, 1, 0x08, 1, .ppm32, .rp, 0, 2, .num 500, 100, 5000, 0xFE0⟩,  -- DRIFT_MARGIN (R234)
    ⟨0x3100, 1, 0x09, 1, .ppm32, .rp, 0, 2, .num 5000, 500, 10000, 0xFE0⟩,  -- DRIFT_ASSUMED (R234)
    ⟨0x3100, 1, 0x0A, 1, .u16, .rp, 0, 2, .num 5, 1, 600, 0xFE0⟩,  -- DRIFT_MIN_INT (R234)
    ⟨0x3100, 1, 0x0B, 1, .dur32, .rp, 0, 2, .num 2000000, 500000, 3900000, 0xFE0⟩,  -- KEEPALIVE_GUARD (R234)
    ⟨0x3100, 1, 0x0C, 1, .dur32, .rp, 0, 2, .num 1000000, 100000, 2047000, 0xFE0⟩,  -- RESYNC_ERR (R234)
    ⟨0x3100, 1, 0x0D, 1, .u8, .rp, 0, 2, .num 3, 0, 7, 0xFE0⟩,  -- MAX_RETRIES (R234)
    ⟨0x3100, 1, 0x0E, 1, .u16, .rp, 0, 2, .num 60, 1, 3600, 0xFE0⟩,  -- TX_HOLD_MAX (R234)
    ⟨0x3100, 1, 0x0F, 1, .u16, .rp, 0, 2, .num 30, 1, 600, 0xFE0⟩,  -- DUP_WINDOW (R234)
    ⟨0x3100, 1, 0x10, 1, .bool, .rp, 0, 2, .num 1, 0, 1, 0xFE0⟩,  -- JOIN_OPEN (R234)
    ⟨0x3100, 1, 0x11, 1, .bool, .ro, 0, 255, .num 0, 0, 1, 0x0⟩,  -- JOIN_EFFECTIVE (R234)
    ⟨0x3100, 1, 0x12, 1, .u16, .rp, 0, 2, .num 60, 10, 600, 0xFE0⟩,  -- JOIN_TIMEOUT (R234)
    ⟨0x3100, 1, 0x13, 1, .u32, .ro, 1, 255, .num 0, 0, 4294967295, 0x0⟩,  -- ACCEPTED (R234)
    ⟨0x3100, 1, 0x14, 1, .u32, .ro, 1, 255, .num 0, 0, 4294967295, 0x0⟩,  -- DUPLICATES (R234)
    ⟨0x3100, 1, 0x15, 1, .u32, .ro, 1, 255, .num 0, 0, 4294967295, 0x0⟩,  -- REPLAYS (R234)
    ⟨0x3100, 1, 0x16, 1, .u32, .ro, 1, 255, .num 0, 0, 4294967295, 0x0⟩,  -- NOT_AUTHENTIC (R234)
    ⟨0x3100, 1, 0x17, 1, .u32, .ro, 1, 255, .num 0, 0, 4294967295, 0x0⟩,  -- REJOIN_DROPS (R234)
    ⟨0x3100, 1, 0x18, 1, .u32, .ro, 1, 255, .num 0, 0, 4294967295, 0x0⟩,  -- TX_UNACKED (R234)
    ⟨0x3100, 1, 0x19, 1, .u32, .ro, 1, 255, .num 0, 0, 4294967295, 0x0⟩,  -- TX_ABANDONED (R234)
    ⟨0x3100, 1, 0x1A, 1, .u32, .ro, 1, 255, .num 0, 0, 4294967295, 0x0⟩,  -- KEEPALIVES_SENT (R234)
    ⟨0x3100, 1, 0x1B, 1, .u32, .ro, 1, 255, .num 0, 0, 4294967295, 0x0⟩,  -- CFO_OUTLIERS (R234)
    ⟨0x3100, 1, 0x1C, 1, .u32, .ro, 1, 255, .num 0, 0, 4294967295, 0x0⟩,  -- DRIFT_OUTLIERS (R234)
    ⟨0x3100, 1, 0x1D, 1, .u32, .ro, 1, 255, .num 0, 0, 4294967295, 0x0⟩,  -- SLEW_ACTIVE (R234)
    ⟨0x3100, 1, 0x1E, 1, .u8, .cx, 255, 1, .num 0, 0, 255, 0xFE0⟩,  -- PENNANT_QUERY (R234)
    ⟨0x3100, 1, 0x1F, 1, .blob 4194304, .ro, 1, 255, .bytes [], 0, 0, 0x0⟩,  -- PENNANT_IMAGE (R234)
    ⟨0x3100, 1, 0x20, 1, .u8, .cx, 255, 2, .num 0, 0, 255, 0xFE0⟩,  -- PENNANT_RESET (R234)
    ⟨0x3100, 1, 0x21, 1, .u8, .cx, 255, 2, .num 0, 0, 255, 0x5C0⟩,  -- HALYARD_SEND (R234)
    ⟨0x3100, 1, 0x22, 1, .blob 3, .ro, 0, 255, (zb 3), 0, 0, 0x0⟩   -- VENDOR_OUI (R234)
  ]

/-- Entries 0x4000–0x40FF: store map. -/
def entries40 : List Entry :=
  [
    ⟨0x4000, 1, 0x00, 1, .u8, .ro, 0, 255, .num 12, 0, 255, 0x0⟩,  -- HIGHEST_SUB (R27)
    ⟨0x4000, 1, 0x01, 1, .u64, .ro, 0, 255, .num 4294967296, 0, 18446744073709551615, 0x0⟩,  -- STORE_SIZE (R264)
    ⟨0x4000, 1, 0x02, 1, .u8, .rp, 0, 2, .num 16, 4, 24, 0xFE0⟩,  -- FB_SIZE (R264)
    ⟨0x4000, 1, 0x03, 1, .u8, .rp, 0, 2, .num 8, 1, 8, 0xFE0⟩,  -- REPO_SIZE (R264)
    ⟨0x4000, 1, 0x04, 1, .u8, .rp, 0, 2, .num 8, 1, 16, 0xFE0⟩,  -- TELEM_SIZE (R264)
    ⟨0x4000, 1, 0x05, 1, .u32, .rp, 0, 2, .num 16384, 0, 65536, 0xFE0⟩,  -- RADIO_RESERVE (R264)
    ⟨0x4000, 1, 0x06, 1, .u32, .ro, 0, 255, .num 0, 0, 4294967295, 0x0⟩,  -- FREE_GRANULES (R264)
    ⟨0x4000, 1, 0x07, 1, .u32, .ro, 1, 255, .num 0, 0, 4294967295, 0x0⟩,  -- FREE_MIN (R264)
    ⟨0x4000, 1, 0x08, 1, .u32, .ro, 1, 255, .num 0, 0, 4294967295, 0x0⟩,  -- RETIRED_GRANULES (R264)
    ⟨0x4000, 1, 0x09, 1, .u32, .ro, 1, 255, .num 0, 0, 4294967295, 0x0⟩,  -- ORPHANED_GRANULES (R264)
    ⟨0x4000, 1, 0x0A, 1, .u32, .ro, 1, 255, .num 0, 0, 4294967295, 0x0⟩,  -- ALLOC_FAILS (R264)
    ⟨0x4000, 1, 0x0B, 1, .u32, .ro, 1, 255, .num 0, 0, 4294967295, 0x0⟩,  -- ECC_CE (R264)
    ⟨0x4000, 1, 0x0C, 1, .u32, .ro, 1, 255, .num 0, 0, 4294967295, 0x0⟩,  -- ECC_UE (R264)
    ⟨0x4010, 9, 0x00, 1, .u8, .ro, 0, 255, .num 3, 0, 255, 0x0⟩,  -- HIGHEST_SUB (R27)
    ⟨0x4010, 9, 0x01, 1, .u32, .ro, 0, 255, .num 0, 0, 4294967295, 0x0⟩,  -- BASE (R264)
    ⟨0x4010, 9, 0x02, 1, .u32, .ro, 0, 255, .num 0, 0, 4294967295, 0x0⟩,  -- SIZE (R264)
    ⟨0x4010, 9, 0x03, 1, .u32, .ro, 0, 255, .num 0, 0, 4294967295, 0x0⟩,  -- NEXT_SIZE (R264)
    ⟨0x4020, 1, 0x00, 1, .u8, .ro, 0, 255, .num 6, 0, 255, 0x0⟩,  -- HIGHEST_SUB (R27)
    ⟨0x4020, 1, 0x01, 1, .u32, .rp, 0, 2, .num 86400, 3600, 604800, 0xFE0⟩,  -- SCRUB_PERIOD (R265)
    ⟨0x4020, 1, 0x02, 1, .u32, .ro, 1, 255, .num 0, 0, 4294967295, 0x0⟩,  -- SCRUB_POS (R265)
    ⟨0x4020, 1, 0x03, 1, .u32, .ro, 1, 255, .num 0, 0, 4294967295, 0x0⟩,  -- SCRUB_PASSES (R265)
    ⟨0x4020, 1, 0x04, 1, .u32, .ro, 1, 255, .num 0, 0, 4294967295, 0x0⟩,  -- LAST_PASS_TIME (R265)
    ⟨0x4020, 1, 0x05, 1, .u8, .cx, 255, 1, .num 0, 0, 255, 0x400⟩,  -- SCRUB_NOW (R265)
    ⟨0x4020, 1, 0x06, 1, .bool, .ro, 0, 255, .num 0, 0, 1, 0x0⟩   -- SCRUB_BEHIND (R265)
  ]

/-- Entries 0x4100–0x41FF: queues. -/
def entries41 : List Entry :=
  [
    ⟨0x4100, 1, 0x00, 1, .u8, .ro, 0, 255, .num 2, 0, 255, 0x0⟩,  -- HIGHEST_SUB (R27)
    ⟨0x4100, 1, 0x01, 1, .u8, .cx, 255, 2, .num 0, 0, 255, 0xFE0⟩,  -- QUEUE_RESTORE (R266)
    ⟨0x4100, 1, 0x02, 1, .blob 112, .ro, 0, 255, (zb 112), 0, 0, 0x0⟩,  -- COUNTS_ALL (R266)
    ⟨0x4110, 56, 0x00, 1, .u8, .ro, 0, 255, .num 9, 0, 255, 0x0⟩,  -- HIGHEST_SUB (R27)
    ⟨0x4110, 56, 0x01, 1, .enum8, .ro, 0, 255, .num 0, 0, 255, 0x0⟩,  -- KIND (R266)
    ⟨0x4110, 56, 0x02, 1, .u16, .ro, 0, 255, .num 0, 0, 65535, 0x0⟩,  -- CAPACITY (R266)
    ⟨0x4110, 56, 0x03, 1, .u8, .ro, 0, 255, .num 0, 0, 255, 0x0⟩,  -- PACKET_SIZE (R266)
    ⟨0x4110, 56, 0x04, 1, .u16, .ro, 0, 255, .num 0, 0, 65535, 0x0⟩,  -- COUNT (R266)
    ⟨0x4110, 56, 0x05, 1, .u32, .ro, 1, 255, .num 0, 0, 4294967295, 0x0⟩,  -- PUSH_REFUSED (R266)
    ⟨0x4110, 56, 0x06, 1, .u32, .ro, 1, 255, .num 0, 0, 4294967295, 0x0⟩,  -- RESETS (R266)
    ⟨0x4110, 56, 0x07, 1, .u32, .ro, 1, 255, .num 0, 0, 4294967295, 0x0⟩,  -- REWINDS (R266)
    ⟨0x4110, 56, 0x08, 1, .u32, .ro, 1, 255, .num 0, 0, 4294967295, 0x0⟩,  -- DROP_RESTS (R266)
    ⟨0x4110, 56, 0x09, 1, .enum8, .ro, 0, 255, .num 0, 0, 255, 0x0⟩   -- QSTATE (R266)
  ]

/-- Entries 0x4400–0x44FF: forwarding. -/
def entries44a : List Entry :=
  [
    ⟨0x4400, 1, 0x00, 1, .u8, .ro, 0, 255, .num 33, 0, 255, 0x0⟩,  -- HIGHEST_SUB (R27)
    ⟨0x4400, 1, 0x01, 1, .u32, .ro, 0, 255, .num 0, 0, 4294967295, 0x0⟩,  -- ENTRIES (R297)
    ⟨0x4400, 1, 0x02, 1, .u32, .ro, 0, 255, .num 0, 0, 4294967295, 0x0⟩,  -- ENTRY_MAX (R297)
    ⟨0x4400, 1, 0x03, 1, .u32, .rp, 0, 2, .num 0, 1, 1114112, 0xFE0⟩,  -- ENTRY_LIMIT (R297)
    ⟨0x4400, 1, 0x04, 1, .u32, .ro, 0, 255, .num 0, 0, 4294967295, 0x0⟩,  -- OVERFLOW_USED (R297)
    ⟨0x4400, 1, 0x05, 1, .u32, .ro, 1, 255, .num 0, 0, 4294967295, 0x0⟩,  -- LOOKUPS (R297)
    ⟨0x4400, 1, 0x06, 1, .u32, .ro, 1, 255, .num 0, 0, 4294967295, 0x0⟩,  -- CACHE_HITS (R297)
    ⟨0x4400, 1, 0x07, 1, .u32, .ro, 1, 255, .num 0, 0, 4294967295, 0x0⟩,  -- MISSES (R297)
    ⟨0x4400, 1, 0x08, 1, .u32, .ro, 1, 255, .num 0, 0, 4294967295, 0x0⟩,  -- TABLE_FULL_COUNT (R297)
    ⟨0x4400, 1, 0x09, 1, .blob 8, .ro, 2, 255, (zb 8), 0, 0, 0x0⟩,  -- HASH_SEED (R297)
    ⟨0x4400, 1, 0x0A, 1, .bool, .rp, 0, 2, .num 0, 0, 1, 0xFE0⟩,  -- LEARN_FORWARD (R297)
    ⟨0x4400, 1, 0x0B, 1, .u16, .rp, 0, 2, .num 10, 2, 600, 0xFE0⟩,  -- LEARN_TIMEOUT (R297)
    ⟨0x4400, 1, 0x0C, 1, .u16, .ro, 0, 255, .num 0, 0, 65535, 0x0⟩,  -- LPS_USED (R297)
    ⟨0x4400, 1, 0x0D, 1, .u32, .ro, 1, 255, .num 0, 0, 4294967295, 0x0⟩,  -- LEARN_OVERFLOW (R297)
    ⟨0x4400, 1, 0x0E, 1, .u32, .ro, 1, 255, .num 0, 0, 4294967295, 0x0⟩,  -- LEARN_EXPIRED (R297)
    ⟨0x4400, 1, 0x0F, 1, .u32, .ro, 1, 255, .num 0, 0, 4294967295, 0x0⟩,  -- UNKNOWN_SRC_DROPS (R297)
    ⟨0x4400, 1, 0x10, 1, .blob 8192, .ro, 1, 255, .bytes [], 0, 0, 0x0⟩,  -- LPS_IMAGE (R297)
    ⟨0x4400, 1, 0x11, 1, .u32, .rp, 0, 2, .num 21600, 1, 86400, 0xFE0⟩,  -- AGE_PERIOD (R297)
    ⟨0x4400, 1, 0x12, 1, .u32, .ro, 1, 255, .num 0, 0, 4294967295, 0x0⟩,  -- AGE_PASSES (R297)
    ⟨0x4400, 1, 0x13, 1, .u32, .ro, 1, 255, .num 0, 0, 4294967295, 0x0⟩,  -- AGED_OUT (R297)
    ⟨0x4400, 1, 0x14, 1, .bool, .ro, 0, 255, .num 0, 0, 1, 0x0⟩,  -- AGE_BEHIND (R297)
    ⟨0x4400, 1, 0x15, 1, .u8, .cx, 255, 1, .num 0, 0, 255, 0xFE0⟩,  -- NODE_QUERY (R297)
    ⟨0x4400, 1, 0x16, 1, .u8, .cx, 255, 2, .num 0, 0, 255, 0xFE0⟩,  -- NODE_REMOVE (R297)
    ⟨0x4400, 1, 0x17, 1, .u8, .cx, 255, 2, .num 0, 0, 255, 0xFE0⟩,  -- NODE_STATIC (R297)
    ⟨0x4400, 1, 0x18, 1, .blob 35651584, .ro, 1, 255, .bytes [], 0, 0, 0x0⟩,  -- TABLE_IMAGE (R297)
    ⟨0x4400, 1, 0x19, 1, .u8, .rp, 0, 2, .num 16, 1, 16, 0xFE0⟩,  -- DEPTH_MAX (R297)
    ⟨0x4400, 1, 0x1A, 1, .u8, .rp, 0, 2, .num 24, 10, 60, 0xFE0⟩,  -- MAC_OVERHEAD (R297)
    ⟨0x4400, 1, 0x1B, 1, .blob 64, .rp, 0, 2, .bytes ([0, 0, 0, 0, 0, 0, 0, 0, 1, 1, 1, 1, 1, 1, 1, 1, 2, 2, 2, 2, 2, 2, 2, 2, 3, 3, 3, 3, 3, 3, 3, 3, 4, 4, 4, 4, 4, 4, 4, 4, 5, 5, 5, 5, 5, 5, 5, 5, 6, 6, 6, 6, 6, 6, 6, 6, 7, 7, 7, 7, 7, 7, 7, 7]), 0, 0, 0xFE0⟩,  -- DSCP_MAP (R297)
    ⟨0x4400, 1, 0x1C, 1, .u16, .rp, 0, 2, .num 10, 0, 1000, 0xFE0⟩,  -- ICMP_RATE (R297)
    ⟨0x4400, 1, 0x1D, 1, .u8, .rp, 0, 2, .num 20, 1, 60, 0xFE0⟩,  -- REASM_TIMEOUT (R297)
    ⟨0x4400, 1, 0x1E, 1, .u16, .ro, 1, 255, .num 0, 0, 65535, 0x0⟩,  -- REASM_ACTIVE (R297)
    ⟨0x4400, 1, 0x1F, 1, .enum8, .rp, 0, 2, .num 2, 0, 2, 0xFE0⟩,  -- UPLINK_PORT (R297)
    ⟨0x4400, 1, 0x20, 1, .blob 16, .rp, 0, 2, (zb 16), 0, 0, 0xFE0⟩,  -- GATEWAY_ADDR (R297)
    ⟨0x4400, 1, 0x21, 1, .u32, .ro, 1, 255, .num 0, 0, 4294967295, 0x0⟩,  -- FWD_DISCARDS (R297)
    ⟨0x4410, 1, 0x00, 1, .u8, .ro, 0, 255, .num 10, 0, 255, 0x0⟩,  -- HIGHEST_SUB (R27)
    ⟨0x4410, 1, 0x01, 1, .blob 16, .rp, 0, 2, (zb 16), 0, 0, 0xFE0⟩,  -- DISTRICT_PREFIX (R298)
    ⟨0x4410, 1, 0x02, 1, .u8, .rp, 0, 2, .num 0, 0, 127, 0xFE0⟩,  -- RPL_INSTANCE (R298)
    ⟨0x4410, 1, 0x03, 1, .enum8, .rp, 0, 2, .num 1, 0, 1, 0xFE0⟩,  -- OCP (R298)
    ⟨0x4410, 1, 0x04, 1, .u8, .rp, 0, 2, .num 12, 6, 16, 0xFE0⟩,  -- DIO_IMIN (R298)
    ⟨0x4410, 1, 0x05, 1, .u8, .rp, 0, 2, .num 8, 0, 20, 0xFE0⟩   -- DIO_DOUBLINGS (R298)
  ]

/-- Entries 0x4400–0x44FF: forwarding. -/
def entries44b : List Entry :=
  [
    ⟨0x4410, 1, 0x06, 1, .u8, .rp, 0, 2, .num 10, 0, 255, 0xFE0⟩,  -- DIO_K (R298)
    ⟨0x4410, 1, 0x07, 1, .bool, .rp, 0, 2, .num 1, 0, 1, 0xFE0⟩,  -- DAO_ACK (R298)
    ⟨0x4410, 1, 0x08, 1, .u16, .rp, 0, 2, .num 60, 1, 3600, 0xFE0⟩,  -- LIFETIME_UNIT (R298)
    ⟨0x4410, 1, 0x09, 1, .u8, .rp, 0, 2, .num 240, 1, 255, 0xFE0⟩,  -- DEFAULT_LIFETIME (R298)
    ⟨0x4410, 1, 0x0A, 1, .u32, .ro, 0, 255, .num 0, 0, 4294967295, 0x0⟩,  -- ROUTES_VALID (R298)
    ⟨0x4421, 15, 0x00, 1, .u8, .ro, 0, 255, .num 3, 0, 255, 0x0⟩,  -- HIGHEST_SUB (R27)
    ⟨0x4421, 15, 0x01, 1, .blob 16, .rp, 0, 2, (zb 16), 0, 0, 0xFE0⟩,  -- CTX_PREFIX (R298)
    ⟨0x4421, 15, 0x02, 1, .u8, .rp, 0, 2, .num 64, 1, 128, 0xFE0⟩,  -- CTX_LEN (R298)
    ⟨0x4421, 15, 0x03, 1, .bool, .rp, 0, 2, .num 0, 0, 1, 0xFE0⟩   -- CTX_VALID (R298)
  ]

/-- Entries 0x4400–0x44FF: forwarding. -/
def entries44 : List Entry := entries44a ++ entries44b

/-- Entries 0x4800–0x48FF: shapers and gates. -/
def entries48a : List Entry :=
  [
    ⟨0x4800, 1, 0x00, 1, .u8, .ro, 0, 255, .num 7, 0, 255, 0x0⟩,  -- HIGHEST_SUB (R27)
    ⟨0x4800, 1, 0x01, 1, .u8, .ro, 0, 255, .num 32, 0, 255, 0x0⟩,  -- SHAPERS (R320)
    ⟨0x4800, 1, 0x02, 1, .u16, .ro, 0, 255, .num 0, 0, 65535, 0x0⟩,  -- HOLD_USED (R320)
    ⟨0x4800, 1, 0x03, 1, .u32, .ro, 1, 255, .num 0, 0, 4294967295, 0x0⟩,  -- HOLD_DISCARDS (R320)
    ⟨0x4800, 1, 0x04, 1, .u32, .rp, 0, 2, .num 100000, 1000, 1000000, 0xFE0⟩,  -- NB_SLOPE (R320)
    ⟨0x4800, 1, 0x05, 1, .i32, .rp, 0, 2, .num 40000000, 0, 2000000000, 0xFE0⟩,  -- NB_HI_CREDIT (R320)
    ⟨0x4800, 1, 0x06, 1, .u8, .rp, 0, 2, .num 6, 0, 32, 0xFE0⟩,  -- MESH_OVERHEAD (R320)
    ⟨0x4800, 1, 0x07, 1, .u8, .cx, 255, 1, .num 0, 0, 255, 0xFE0⟩,  -- NB_QUERY (R320)
    ⟨0x4810, 32, 0x00, 1, .u8, .ro, 0, 255, .num 8, 0, 255, 0x0⟩,  -- HIGHEST_SUB (R27)
    ⟨0x4810, 8, 0x01, 1, .enum8, .rp, 0, 2, .num 0, 0, 3, 0xFE0⟩,  -- OUTPUT (R321)
    ⟨0x4818, 8, 0x01, 1, .enum8, .rp, 0, 2, .num 1, 0, 3, 0xFE0⟩,  -- OUTPUT (R321)
    ⟨0x4820, 8, 0x01, 1, .enum8, .rp, 0, 2, .num 2, 0, 3, 0xFE0⟩,  -- OUTPUT (R321)
    ⟨0x4828, 8, 0x01, 1, .enum8, .rp, 0, 2, .num 3, 0, 3, 0xFE0⟩,  -- OUTPUT (R321)
    ⟨0x4810, 24, 0x02, 1, .enum8, .rp, 0, 2, .num 0, 0, 1, 0xFE0⟩,  -- KIND (R321)
    ⟨0x4828, 8, 0x02, 1, .enum8, .rp, 0, 2, .num 1, 0, 1, 0xFE0⟩,  -- KIND (R321)
    ⟨0x4810, 1, 0x03, 1, .u8, .rp, 0, 2, .num 1, 0, 255, 0xFE0⟩,  -- CLASS_MASK (R321)
    ⟨0x4811, 1, 0x03, 1, .u8, .rp, 0, 2, .num 2, 0, 255, 0xFE0⟩,  -- CLASS_MASK (R321)
    ⟨0x4812, 1, 0x03, 1, .u8, .rp, 0, 2, .num 4, 0, 255, 0xFE0⟩,  -- CLASS_MASK (R321)
    ⟨0x4813, 1, 0x03, 1, .u8, .rp, 0, 2, .num 8, 0, 255, 0xFE0⟩,  -- CLASS_MASK (R321)
    ⟨0x4814, 1, 0x03, 1, .u8, .rp, 0, 2, .num 16, 0, 255, 0xFE0⟩,  -- CLASS_MASK (R321)
    ⟨0x4815, 1, 0x03, 1, .u8, .rp, 0, 2, .num 32, 0, 255, 0xFE0⟩,  -- CLASS_MASK (R321)
    ⟨0x4816, 1, 0x03, 1, .u8, .rp, 0, 2, .num 64, 0, 255, 0xFE0⟩,  -- CLASS_MASK (R321)
    ⟨0x4817, 1, 0x03, 1, .u8, .rp, 0, 2, .num 128, 0, 255, 0xFE0⟩,  -- CLASS_MASK (R321)
    ⟨0x4818, 1, 0x03, 1, .u8, .rp, 0, 2, .num 1, 0, 255, 0xFE0⟩,  -- CLASS_MASK (R321)
    ⟨0x4819, 1, 0x03, 1, .u8, .rp, 0, 2, .num 2, 0, 255, 0xFE0⟩,  -- CLASS_MASK (R321)
    ⟨0x481A, 1, 0x03, 1, .u8, .rp, 0, 2, .num 4, 0, 255, 0xFE0⟩,  -- CLASS_MASK (R321)
    ⟨0x481B, 1, 0x03, 1, .u8, .rp, 0, 2, .num 8, 0, 255, 0xFE0⟩,  -- CLASS_MASK (R321)
    ⟨0x481C, 1, 0x03, 1, .u8, .rp, 0, 2, .num 16, 0, 255, 0xFE0⟩,  -- CLASS_MASK (R321)
    ⟨0x481D, 1, 0x03, 1, .u8, .rp, 0, 2, .num 32, 0, 255, 0xFE0⟩,  -- CLASS_MASK (R321)
    ⟨0x481E, 1, 0x03, 1, .u8, .rp, 0, 2, .num 64, 0, 255, 0xFE0⟩,  -- CLASS_MASK (R321)
    ⟨0x481F, 1, 0x03, 1, .u8, .rp, 0, 2, .num 128, 0, 255, 0xFE0⟩,  -- CLASS_MASK (R321)
    ⟨0x4820, 1, 0x03, 1, .u8, .rp, 0, 2, .num 1, 0, 255, 0xFE0⟩,  -- CLASS_MASK (R321)
    ⟨0x4821, 1, 0x03, 1, .u8, .rp, 0, 2, .num 2, 0, 255, 0xFE0⟩,  -- CLASS_MASK (R321)
    ⟨0x4822, 1, 0x03, 1, .u8, .rp, 0, 2, .num 4, 0, 255, 0xFE0⟩,  -- CLASS_MASK (R321)
    ⟨0x4823, 1, 0x03, 1, .u8, .rp, 0, 2, .num 8, 0, 255, 0xFE0⟩,  -- CLASS_MASK (R321)
    ⟨0x4824, 1, 0x03, 1, .u8, .rp, 0, 2, .num 16, 0, 255, 0xFE0⟩,  -- CLASS_MASK (R321)
    ⟨0x4825, 1, 0x03, 1, .u8, .rp, 0, 2, .num 32, 0, 255, 0xFE0⟩,  -- CLASS_MASK (R321)
    ⟨0x4826, 1, 0x03, 1, .u8, .rp, 0, 2, .num 64, 0, 255, 0xFE0⟩,  -- CLASS_MASK (R321)
    ⟨0x4827, 1, 0x03, 1, .u8, .rp, 0, 2, .num 128, 0, 255, 0xFE0⟩,  -- CLASS_MASK (R321)
    ⟨0x4828, 8, 0x03, 1, .u8, .rp, 0, 2, .num 0, 0, 255, 0xFE0⟩   -- CLASS_MASK (R321)
  ]

/-- Entries 0x4800–0x48FF: shapers and gates. -/
def entries48b : List Entry :=
  [
    ⟨0x4810, 32, 0x04, 1, .bool, .rp, 0, 2, .num 0, 0, 1, 0xFE0⟩,  -- ENABLE (R321)
    ⟨0x4810, 32, 0x05, 1, .u32, .rp, 0, 2, .num 100000, 1000, 2500000, 0xFE0⟩,  -- SLOPE (R321)
    ⟨0x4810, 16, 0x06, 1, .i32, .rp, 0, 2, .num 16384, 0, 2147483647, 0xFE0⟩,  -- HI_CREDIT (R321)
    ⟨0x4820, 16, 0x06, 1, .i32, .rp, 0, 2, .num 40000000, 0, 2147483647, 0xFE0⟩,  -- HI_CREDIT (R321)
    ⟨0x4810, 32, 0x07, 1, .i32, .ro, 1, 255, .num 0, (-2147483648), 2147483647, 0x0⟩,  -- CREDIT (R321)
    ⟨0x4810, 32, 0x08, 1, .u32, .ro, 1, 255, .num 0, 0, 4294967295, 0x0⟩,  -- FRAMES (R321)
    ⟨0x4840, 2, 0x00, 1, .u8, .ro, 0, 255, .num 18, 0, 255, 0x0⟩,  -- HIGHEST_SUB (R27)
    ⟨0x4840, 2, 0x01, 1, .u8, .rp, 0, 2, .num 20, 0, 64, 0xFE0⟩,  -- LEN_OVERHEAD (R322)
    ⟨0x4840, 2, 0x02, 1, .bool, .rp, 0, 2, .num 0, 0, 1, 0xFE0⟩,  -- GATE_EN (R322)
    ⟨0x4840, 2, 0x03, 1, .time64, .ro, 0, 255, .num 0, (-9223372036854775808), 9223372036854775807, 0x0⟩,  -- ACTIVE_BASE (R322)
    ⟨0x4840, 2, 0x04, 1, .dur32, .ro, 0, 255, .num 0, 0, 4294967295, 0x0⟩,  -- ACTIVE_CYCLE (R322)
    ⟨0x4840, 2, 0x05, 1, .u16, .ro, 0, 255, .num 0, 0, 65535, 0x0⟩,  -- ACTIVE_LEN (R322)
    ⟨0x4840, 2, 0x06, 1, .blob 8192, .ro, 1, 255, .bytes [], 0, 0, 0x0⟩,  -- ACTIVE_LIST (R322)
    ⟨0x4840, 2, 0x07, 1, .time64, .rw, 0, 2, .num 0, (-9223372036854775808), 9223372036854775807, 0xFE0⟩,  -- PEND_BASE (R322)
    ⟨0x4840, 2, 0x08, 1, .dur32, .rw, 0, 2, .num 1000000, 10000, 1000000000, 0xFE0⟩,  -- PEND_CYCLE (R322)
    ⟨0x4840, 2, 0x09, 1, .blob 8192, .rw, 1, 2, .bytes [], 0, 0, 0xFE0⟩,  -- PEND_LIST (R322)
    ⟨0x4840, 2, 0x0A, 1, .u16, .rw, 0, 2, .num 1, 1, 1024, 0xFE0⟩,  -- PEND_LEN (R322)
    ⟨0x4840, 2, 0x0B, 1, .u8, .cx, 255, 2, .num 0, 0, 255, 0xFE0⟩,  -- GATE_COMMIT (R322)
    ⟨0x4840, 2, 0x0C, 1, .enum8, .ro, 0, 255, .num 0, 0, 255, 0x0⟩,  -- GATE_STATE (R322)
    ⟨0x4840, 2, 0x0D, 1, .time64, .ro, 0, 255, .num 0, (-9223372036854775808), 9223372036854775807, 0x0⟩,  -- SWITCH_TIME (R322)
    ⟨0x4840, 2, 0x0E, 1, .u32, .ro, 1, 255, .num 0, 0, 4294967295, 0x0⟩,  -- OVERSIZE_DROPS (R322)
    ⟨0x4840, 2, 0x0F, 1, .u32, .ro, 1, 255, .num 0, 0, 4294967295, 0x0⟩,  -- LINK_DOWN_DROPS (R322)
    ⟨0x4840, 2, 0x10, 1, .u8, .ro, 0, 255, .num 255, 0, 255, 0x0⟩,  -- GATES_NOW (R322)
    ⟨0x4840, 2, 0x11, 1, .blob 32, .ro, 1, 255, (zb 32), 0, 0, 0x0⟩,  -- MAX_WINDOW (R322)
    ⟨0x4840, 2, 0x12, 1, .u8, .cx, 255, 2, .num 0, 0, 255, 0xFE0⟩   -- GATE_CANCEL (R322)
  ]

/-- Entries 0x4800–0x48FF: shapers and gates. -/
def entries48 : List Entry := entries48a ++ entries48b

end Sys2Proof.Machine
end

