-- ==== Sys2Proof/Machine/EntriesService.lean ====
section
/-!
DEFINITION. The dictionary entries of keys, firmware, Bunting, hierarchy, events, errors, telemetry and interfaces.
Written from the entry tables of spec/ (R28): index, how many instances, sub-index, how many sub-indices, type, access class, read
level, write level (255: none), default, minimum, maximum, and the modes of writing or execution (bit n for Mn).
-/
namespace Sys2Proof.Machine

/-- Entries 0x5000–0x50FF: Canton. -/
def entries50 : List Entry :=
  [
    ⟨0x5000, 1, 0x00, 1, .u8, .ro, 0, 255, .num 24, 0, 255, 0x0⟩,  -- HIGHEST_SUB (R27)
    ⟨0x5000, 1, 0x01, 1, .enum8, .ro, 0, 255, .num 0, 0, 255, 0x0⟩,  -- ROOT_STATE (R363)
    ⟨0x5000, 1, 0x02, 1, .enum8, .ro, 0, 255, .num 0, 0, 255, 0x0⟩,  -- CANTON_STATE (R363)
    ⟨0x5000, 1, 0x03, 1, .u16, .ro, 1, 255, .num 0, 0, 65535, 0x0⟩,  -- HOT_USED (R363)
    ⟨0x5000, 1, 0x04, 1, .u16, .ro, 1, 255, .num 0, 0, 65535, 0x0⟩,  -- HOT_PINNED (R363)
    ⟨0x5000, 1, 0x05, 1, .blob 240, .wo, 255, 2, (zb 240), 0, 0, 0xFE0⟩,  -- KEY_UPDATE_STAGE (R363)
    ⟨0x5000, 1, 0x06, 1, .u8, .cx, 255, 2, .num 0, 0, 255, 0xFE0⟩,  -- KEY_UPDATE_APPLY (R363)
    ⟨0x5000, 1, 0x07, 1, .u64, .ro, 0, 255, .num 0, 0, 18446744073709551615, 0x0⟩,  -- CTR_OPERATOR (R363)
    ⟨0x5000, 1, 0x08, 1, .u64, .ro, 0, 255, .num 0, 0, 18446744073709551615, 0x0⟩,  -- CTR_MANAGER (R363)
    ⟨0x5000, 1, 0x09, 1, .u64, .ro, 0, 255, .num 0, 0, 18446744073709551615, 0x0⟩,  -- EXPORT_CTR (R363)
    ⟨0x5000, 1, 0x0A, 1, .u8, .cx, 255, 2, .num 0, 0, 255, 0xFE0⟩,  -- KEY_EXPORT (R363)
    ⟨0x5000, 1, 0x0B, 1, .bool, .rp, 0, 2, .num 0, 0, 1, 0xFE0⟩,  -- COMPAT_REPLACE_EN (R363)
    ⟨0x5000, 1, 0x0C, 1, .u8, .cx, 255, 2, .num 0, 0, 255, 0xFE0⟩,  -- KEY_REPLACE_COMPAT (R363)
    ⟨0x5000, 1, 0x0D, 1, .enum8, .rp, 0, 2, .num 0, 0, 1, 0xFE0⟩,  -- SK_POLICY (R363)
    ⟨0x5000, 1, 0x0E, 1, .u32, .rp, 0, 2, .num 4294901760, 1000, 4294901760, 0xFE0⟩,  -- USE_LIMIT (R363)
    ⟨0x5000, 1, 0x0F, 1, .u32, .rp, 0, 2, .num 16777216, 0, 4294901760, 0xFE0⟩,  -- USES_LOW (R363)
    ⟨0x5000, 1, 0x10, 1, .u32, .rp, 0, 2, .num 16384, 256, 1048576, 0xFE0⟩,  -- FC_RESTORE_JUMP (R363)
    ⟨0x5000, 1, 0x11, 1, .bits32, .rp, 0, 2, .num 3, 0, 3, 0xFE0⟩,  -- TAMPER_EN (R363)
    ⟨0x5000, 1, 0x12, 1, .u32, .ro, 1, 255, .num 0, 0, 4294967295, 0x0⟩,  -- TAMPER_CAUSE (R363)
    ⟨0x5000, 1, 0x13, 1, .time64, .ro, 1, 255, .num 0, (-9223372036854775808), 9223372036854775807, 0x0⟩,  -- TAMPER_TIME (R363)
    ⟨0x5000, 1, 0x14, 1, .blob 64, .rp, 0, 2, (zb 64), 0, 0, 0x20⟩,  -- AUTHORITY_PUB (R363)
    ⟨0x5000, 1, 0x15, 1, .blob 6144, .ro, 1, 255, .bytes [], 0, 0, 0x0⟩,  -- KEY_LIST (R363)
    ⟨0x5000, 1, 0x16, 1, .u32, .ro, 1, 255, .num 0, 0, 4294967295, 0x0⟩,  -- INVALIDATIONS (R363)
    ⟨0x5000, 1, 0x17, 1, .u32, .ro, 1, 255, .num 0, 0, 4294967295, 0x0⟩,  -- UPDATE_REJECTS (R363)
    ⟨0x5000, 1, 0x18, 1, .u8, .cx, 255, 2, .num 0, 0, 255, 0xFE0⟩   -- FORCE_REJOIN (R363)
  ]

/-- Entries 0x5100–0x51FF: frame security. -/
def entries51 : List Entry :=
  [
    ⟨0x5100, 1, 0x00, 1, .u8, .ro, 0, 255, .num 15, 0, 255, 0x0⟩,  -- HIGHEST_SUB (R27)
    ⟨0x5100, 1, 0x01, 1, .enum8, .rp, 0, 2, .num 6, 5, 7, 0xFE0⟩,  -- DATA_LEVEL (R364)
    ⟨0x5100, 1, 0x02, 1, .enum8, .rp, 0, 2, .num 2, 1, 7, 0xFE0⟩,  -- BEACON_LEVEL (R364)
    ⟨0x5100, 1, 0x03, 1, .enum8, .rp, 0, 2, .num 5, 1, 7, 0xFE0⟩,  -- MIN_RX_LEVEL (R364)
    ⟨0x5100, 1, 0x04, 1, .enum8, .rp, 0, 2, .num 1, 1, 7, 0xFE0⟩,  -- MIN_ACK_LEVEL (R364)
    ⟨0x5100, 1, 0x05, 1, .u32, .ro, 1, 255, .num 0, 0, 4294967295, 0x0⟩,  -- SEC_OPS (R364)
    ⟨0x5100, 1, 0x06, 1, .u32, .ro, 1, 255, .num 0, 0, 4294967295, 0x0⟩,  -- MIC_FAILS (R364)
    ⟨0x5100, 1, 0x07, 1, .u32, .ro, 1, 255, .num 0, 0, 4294967295, 0x0⟩,  -- KEY_FETCHES (R364)
    ⟨0x5100, 1, 0x08, 1, .u32, .ro, 1, 255, .num 0, 0, 4294967295, 0x0⟩,  -- KEY_FAILS (R364)
    ⟨0x5100, 1, 0x09, 1, .u8, .cx, 255, 1, .num 0, 0, 255, 0xFE0⟩,  -- SEC_QUERY (R364)
    ⟨0x5100, 1, 0x0B, 1, .u8, .ro, 0, 255, .num 0, 0, 255, 0x0⟩,  -- GROUP_GEN (R364)
    ⟨0x5100, 1, 0x0C, 1, .u32, .ro, 1, 255, .num 0, 0, 4294967295, 0x0⟩,  -- GROUP_FC (R364)
    ⟨0x5100, 1, 0x0D, 1, .u32, .ro, 1, 255, .num 0, 0, 4294967295, 0x0⟩,  -- GROUP_FC_MARK (R364)
    ⟨0x5100, 1, 0x0E, 1, .u32, .rp, 0, 2, .num 3600, 60, 604800, 0xFE0⟩,  -- GROUP_OVERLAP (R364)
    ⟨0x5100, 1, 0x0F, 1, .u32, .ro, 1, 255, .num 0, 0, 4294967295, 0x0⟩   -- BEACON_REPLAYS (R364)
  ]

/-- Entries 0x6000–0x60FF: firmware update. -/
def entries60 : List Entry :=
  [
    ⟨0x6000, 1, 0x00, 1, .u8, .ro, 0, 255, .num 13, 0, 255, 0x0⟩,  -- HIGHEST_SUB (R27)
    ⟨0x6000, 1, 0x01, 1, .blob 25362688, .wo, 255, 2, .bytes [], 0, 0, 0xFE0⟩,  -- FW_STAGE (R522)
    ⟨0x6000, 1, 0x02, 1, .u8, .cx, 255, 2, .num 0, 0, 255, 0xDE0⟩,  -- FW_WRITE (R522)
    ⟨0x6000, 1, 0x03, 1, .u8, .cx, 255, 2, .num 0, 0, 255, 0xFE0⟩,  -- FW_DISCARD (R522)
    ⟨0x6000, 1, 0x04, 1, .u8, .cx, 255, 2, .num 0, 0, 255, 0x9E0⟩,  -- FW_HOIST (R522)
    ⟨0x6000, 1, 0x05, 1, .u8, .cx, 255, 2, .num 0, 0, 255, 0x1C0⟩,  -- FW_CONFIRM (R522)
    ⟨0x6000, 1, 0x06, 1, .u8, .cx, 255, 2, .num 0, 0, 255, 0x9E0⟩,  -- FW_REVERT (R522)
    ⟨0x6000, 1, 0x07, 1, .u32, .rp, 0, 2, .num 900, 0, 604800, 0xFE0⟩,  -- AUTO_CONFIRM (R522)
    ⟨0x6000, 1, 0x08, 1, .u16, .ro, 0, 255, .num 0, 0, 65535, 0x0⟩,  -- SEC_FLOOR (R522)
    ⟨0x6000, 1, 0x09, 1, .u32, .ro, 0, 255, .num 0, 0, 4294967295, 0x0⟩,  -- WRITE_PROGRESS (R522)
    ⟨0x6000, 1, 0x0A, 1, .enum8, .ro, 0, 255, .num 0, 0, 255, 0x0⟩,  -- LAST_RESULT (R522)
    ⟨0x6000, 1, 0x0B, 1, .u32, .ro, 1, 255, .num 0, 0, 4294967295, 0x0⟩,  -- HOIST_COUNT (R522)
    ⟨0x6000, 1, 0x0C, 1, .time64, .ro, 0, 255, .num 0, (-9223372036854775808), 9223372036854775807, 0x0⟩,  -- TRIAL_SINCE (R522)
    ⟨0x6000, 1, 0x0D, 1, .blob 32, .ro, 0, 255, (zb 32), 0, 0, 0x0⟩,  -- RELEASE_KEY_HASH (R522)
    ⟨0x6010, 2, 0x00, 1, .u8, .ro, 0, 255, .num 8, 0, 255, 0x0⟩,  -- HIGHEST_SUB (R27)
    ⟨0x6010, 2, 0x01, 1, .enum8, .ro, 0, 255, .num 0, 0, 255, 0x0⟩,  -- SLOT_STATE (R523)
    ⟨0x6010, 2, 0x02, 1, .enum8, .ro, 0, 255, .num 0, 0, 255, 0x0⟩,  -- SLOT_REASON (R523)
    ⟨0x6010, 2, 0x03, 1, .u32, .ro, 0, 255, .num 0, 0, 4294967295, 0x0⟩,  -- SLOT_FW_VERSION (R523)
    ⟨0x6010, 2, 0x04, 1, .u16, .ro, 0, 255, .num 0, 0, 65535, 0x0⟩,  -- SLOT_SEC_VERSION (R523)
    ⟨0x6010, 2, 0x05, 1, .u16, .ro, 0, 255, .num 0, 0, 65535, 0x0⟩,  -- SLOT_DICT_VERSION (R523)
    ⟨0x6010, 2, 0x06, 1, .u32, .ro, 0, 255, .num 0, 0, 4294967295, 0x0⟩,  -- SLOT_KEY_GEN (R523)
    ⟨0x6010, 2, 0x07, 1, .u32, .ro, 0, 255, .num 0, 0, 4294967295, 0x0⟩,  -- SLOT_IMAGE_LEN (R523)
    ⟨0x6010, 2, 0x08, 1, .blob 32, .ro, 0, 255, (zb 32), 0, 0, 0x0⟩   -- SLOT_DIGEST (R523)
  ]

/-- Entries 0x6100–0x61FF: Bunting. -/
def entries61a : List Entry :=
  [
    ⟨0x6100, 1, 0x00, 1, .u8, .ro, 0, 255, .num 16, 0, 255, 0x0⟩,  -- HIGHEST_SUB (R27)
    ⟨0x6100, 1, 0x01, 1, .u16, .ro, 0, 255, .num 512, 0, 65535, 0x0⟩,  -- REPO_SLOTS (R422)
    ⟨0x6100, 1, 0x02, 1, .u16, .ro, 0, 255, .num 0, 0, 65535, 0x0⟩,  -- IMAGES (R422)
    ⟨0x6100, 1, 0x03, 1, .blob 1048576, .wo, 255, 2, .bytes [], 0, 0, 0xFE0⟩,  -- IMAGE_STAGE (R422)
    ⟨0x6100, 1, 0x04, 1, .u8, .cx, 255, 2, .num 0, 0, 255, 0xFE0⟩,  -- IMAGE_COMMIT (R422)
    ⟨0x6100, 1, 0x05, 1, .u8, .cx, 255, 2, .num 0, 0, 255, 0xFE0⟩,  -- IMAGE_DELETE (R422)
    ⟨0x6100, 1, 0x06, 1, .blob 32768, .ro, 1, 255, .bytes [], 0, 0, 0x0⟩,  -- IMAGE_LIST (R422)
    ⟨0x6100, 1, 0x07, 1, .u8, .cx, 255, 2, .num 0, 0, 255, 0xFE0⟩,  -- IMAGE_DISCARD (R422)
    ⟨0x6100, 1, 0x08, 1, .u32, .ro, 1, 255, .num 0, 0, 4294967295, 0x0⟩,  -- BLOCK_REQS (R422)
    ⟨0x6100, 1, 0x09, 1, .u32, .ro, 1, 255, .num 0, 0, 4294967295, 0x0⟩,  -- REQ_IGNORED (R422)
    ⟨0x6100, 1, 0x0A, 1, .u32, .ro, 1, 255, .num 0, 0, 4294967295, 0x0⟩,  -- MCAST_FRAMES (R422)
    ⟨0x6100, 1, 0x0B, 1, .u32, .ro, 1, 255, .num 0, 0, 4294967295, 0x0⟩,  -- REPAIR_FRAMES (R422)
    ⟨0x6100, 1, 0x0C, 1, .blob 524288, .wo, 255, 2, .bytes [], 0, 0, 0xFE0⟩,  -- TARGET_STAGE (R422)
    ⟨0x6100, 1, 0x0D, 1, .u8, .cx, 255, 1, .num 0, 0, 255, 0xFE0⟩,  -- BUNTING_QUERY (R422)
    ⟨0x6100, 1, 0x0E, 1, .u8, .ro, 0, 255, .num 0, 0, 255, 0x0⟩,  -- CAMPAIGNS_ACTIVE (R422)
    ⟨0x6100, 1, 0x0F, 1, .u8, .cx, 255, 2, .num 0, 0, 255, 0xFE0⟩,  -- CAMPAIGN_ASSIGN (R422)
    ⟨0x6100, 1, 0x10, 1, .u16, .rp, 0, 2, .num 600, 60, 86400, 0xFE0⟩,  -- STALL_TIME (R422)
    ⟨0x6110, 8, 0x00, 1, .u8, .ro, 0, 255, .num 25, 0, 255, 0x0⟩,  -- HIGHEST_SUB (R27)
    ⟨0x6110, 8, 0x01, 1, .enum8, .ro, 0, 255, .num 0, 0, 255, 0x0⟩,  -- C_STATE (R423)
    ⟨0x6110, 8, 0x02, 1, .u16, .rw, 0, 2, .num 0, 0, 65535, 0xFE0⟩,  -- C_IMAGE (R423)
    ⟨0x6110, 8, 0x03, 1, .u16, .rw, 0, 2, .num 0, 0, 65535, 0xFE0⟩,  -- C_TAG (R423)
    ⟨0x6110, 8, 0x04, 1, .enum8, .rw, 0, 2, .num 0, 0, 1, 0xFE0⟩,  -- C_TARGETS (R423)
    ⟨0x6110, 8, 0x05, 1, .enum8, .rw, 0, 2, .num 0, 0, 1, 0xFE0⟩,  -- C_FRAME_MODE (R423)
    ⟨0x6110, 8, 0x06, 1, .u16, .rw, 0, 2, .num 4, 1, 65535, 0xFE0⟩,  -- C_MCAST_MIN (R423)
    ⟨0x6110, 8, 0x07, 1, .u8, .rw, 0, 2, .num 8, 1, 255, 0xFE0⟩,  -- C_MAX_ROUNDS (R423)
    ⟨0x6110, 8, 0x08, 1, .u16, .rw, 0, 2, .num 60, 5, 3600, 0xFE0⟩,  -- C_ROUND_GAP (R423)
    ⟨0x6110, 8, 0x09, 1, .u8, .rw, 0, 2, .num 8, 1, 64, 0xFE0⟩,  -- C_ANNOUNCE_COUNT (R423)
    ⟨0x6110, 8, 0x0A, 1, .u8, .rw, 0, 2, .num 16, 0, 64, 0xFE0⟩,  -- C_REPAIR_MAX (R423)
    ⟨0x6110, 8, 0x0B, 1, .u32, .rw, 0, 2, .num 86400, 600, 2592000, 0xFE0⟩,  -- C_TARGET_TIMEOUT (R423)
    ⟨0x6110, 8, 0x0C, 1, .time64, .rw, 0, 2, .num 0, (-9223372036854775808), 9223372036854775807, 0xFE0⟩,  -- C_DEADLINE (R423)
    ⟨0x6110, 8, 0x0D, 1, .u8, .cx, 255, 2, .num 0, 0, 255, 0x1C0⟩,  -- C_START (R423)
    ⟨0x6110, 8, 0x0E, 1, .u8, .cx, 255, 1, .num 0, 0, 255, 0xFE0⟩,  -- C_PAUSE (R423)
    ⟨0x6110, 8, 0x0F, 1, .u8, .cx, 255, 1, .num 0, 0, 255, 0xFE0⟩,  -- C_RESUME (R423)
    ⟨0x6110, 8, 0x10, 1, .u8, .cx, 255, 2, .num 0, 0, 255, 0xFE0⟩,  -- C_ABORT (R423)
    ⟨0x6110, 8, 0x11, 1, .u8, .ro, 0, 255, .num 0, 0, 255, 0x0⟩,  -- C_ROUND (R423)
    ⟨0x6110, 8, 0x12, 1, .u32, .ro, 0, 255, .num 0, 0, 4294967295, 0x0⟩,  -- C_TARGETS_N (R423)
    ⟨0x6110, 8, 0x13, 1, .u32, .ro, 0, 255, .num 0, 0, 4294967295, 0x0⟩,  -- C_DONE (R423)
    ⟨0x6110, 8, 0x14, 1, .u32, .ro, 0, 255, .num 0, 0, 4294967295, 0x0⟩,  -- C_REFUSED (R423)
    ⟨0x6110, 8, 0x15, 1, .u32, .ro, 0, 255, .num 0, 0, 4294967295, 0x0⟩,  -- C_FAILED (R423)
    ⟨0x6110, 8, 0x16, 1, .u32, .ro, 0, 255, .num 0, 0, 4294967295, 0x0⟩   -- C_LOST (R423)
  ]

/-- Entries 0x6100–0x61FF: Bunting. -/
def entries61b : List Entry :=
  [
    ⟨0x6110, 8, 0x17, 1, .u32, .ro, 1, 255, .num 0, 0, 4294967295, 0x0⟩,  -- C_SKIPPED (R423)
    ⟨0x6110, 8, 0x18, 1, .enum8, .ro, 0, 255, .num 0, 0, 255, 0x0⟩,  -- C_PAUSE_CAUSE (R423)
    ⟨0x6110, 8, 0x19, 1, .blob 8192, .ro, 1, 255, .bytes [], 0, 0, 0x0⟩   -- C_DEMAND (R423)
  ]

/-- Entries 0x6100–0x61FF: Bunting. -/
def entries61 : List Entry := entries61a ++ entries61b

/-- Entries 0x7000–0x70FF: hierarchy. -/
def entries70a : List Entry :=
  [
    ⟨0x7000, 1, 0x00, 1, .u8, .ro, 0, 255, .num 16, 0, 255, 0x0⟩,  -- HIGHEST_SUB (R27)
    ⟨0x7000, 1, 0x01, 1, .enum8, .ro, 0, 255, .num 0, 0, 255, 0x0⟩,  -- HIER_STATE (R396)
    ⟨0x7000, 1, 0x02, 1, .blob 64, .rp, 0, 2, (zb 64), 0, 0, 0x20⟩,  -- MANAGER_PUB (R396)
    ⟨0x7000, 1, 0x03, 1, .u16, .rp, 0, 2, .num 5842, 1024, 65535, 0xFE0⟩,  -- HL_PORT (R396)
    ⟨0x7000, 1, 0x04, 1, .time64, .ro, 0, 255, .num 0, (-9223372036854775808), 9223372036854775807, 0x0⟩,  -- LEASE_END (R396)
    ⟨0x7000, 1, 0x05, 1, .time64, .ro, 0, 255, .num 0, (-9223372036854775808), 9223372036854775807, 0x0⟩,  -- LAST_HEARTBEAT (R396)
    ⟨0x7000, 1, 0x06, 1, .u32, .rp, 0, 2, .num 86400, 3600, 604800, 0xFE0⟩,  -- AUTONOMY_LEN (R396)
    ⟨0x7000, 1, 0x07, 1, .time64, .ro, 0, 255, .num 0, (-9223372036854775808), 9223372036854775807, 0x0⟩,  -- AUTONOMY_END (R396)
    ⟨0x7000, 1, 0x08, 1, .u8, .rp, 0, 2, .num 1, 1, 8, 0xFE0⟩,  -- AUTONOMY_QUORUM (R396)
    ⟨0x7000, 1, 0x09, 1, .blob 672, .ro, 1, 255, .bytes [], 0, 0, 0x0⟩,  -- PEER_LIST (R396)
    ⟨0x7000, 1, 0x0A, 1, .u16, .rp, 0, 2, .num 1000, 100, 10000, 0xFE0⟩,  -- REPL_INTERVAL (R396)
    ⟨0x7000, 1, 0x0B, 1, .u32, .rp, 0, 2, .num 3600, 600, 86400, 0xFE0⟩,  -- FULL_REPL_PERIOD (R396)
    ⟨0x7000, 1, 0x0C, 1, .u16, .rp, 0, 2, .num 200, 50, 2000, 0xFE0⟩,  -- CLAIM_WAIT (R396)
    ⟨0x7000, 1, 0x0D, 1, .u32, .ro, 0, 255, .num 0, 0, 4294967295, 0x0⟩,  -- FENCE_EPOCH (R396)
    ⟨0x7000, 1, 0x0E, 1, .u32, .ro, 1, 255, .num 0, 0, 4294967295, 0x0⟩,  -- STOPPED_RX_DISCARDS (R396)
    ⟨0x7000, 1, 0x0F, 1, .u32, .ro, 1, 255, .num 0, 0, 4294967295, 0x0⟩,  -- DROPS (R396)
    ⟨0x7000, 1, 0x10, 1, .u32, .ro, 1, 255, .num 0, 0, 4294967295, 0x0⟩,  -- HL_DISCARDS (R396)
    ⟨0x7010, 1, 0x00, 1, .u8, .ro, 0, 255, .num 14, 0, 255, 0x0⟩,  -- HIGHEST_SUB (R27)
    ⟨0x7010, 1, 0x01, 1, .u16, .rp, 0, 2, .num 250, 100, 1000, 0xFE0⟩,  -- HB_INTERVAL (R397)
    ⟨0x7010, 1, 0x02, 1, .u16, .rp, 0, 2, .num 6000, 2000, 60000, 0xFE0⟩,  -- LEASE_LEN (R397)
    ⟨0x7010, 1, 0x03, 1, .u8, .rp, 0, 2, .num 8, 2, 32, 0xFE0⟩,  -- MISS_LIMIT (R397)
    ⟨0x7010, 1, 0x04, 1, .u16, .rp, 0, 2, .num 1000, 1000, 10000, 0xFE0⟩,  -- TAKEOVER_MARGIN (R397)
    ⟨0x7010, 1, 0x05, 1, .u16, .rp, 0, 2, .num 2000, 500, 10000, 0xFE0⟩,  -- CLAIM_WINDOW (R397)
    ⟨0x7010, 1, 0x06, 1, .u16, .rp, 0, 2, .num 2000, 500, 10000, 0xFE0⟩,  -- HEARD_WINDOW (R397)
    ⟨0x7010, 1, 0x07, 1, .blob 1016, .ro, 1, 255, .bytes [], 0, 0, 0x0⟩,  -- DISTRICT_TABLE (R397)
    ⟨0x7010, 1, 0x08, 1, .u8, .cx, 255, 2, .num 0, 0, 255, 0x80⟩,  -- ASSIGN (R397)
    ⟨0x7010, 1, 0x09, 1, .u8, .cx, 255, 2, .num 0, 0, 255, 0xFE0⟩,  -- TAKEOVER (R397)
    ⟨0x7010, 1, 0x0A, 1, .u8, .cx, 255, 2, .num 0, 0, 255, 0xFE0⟩,  -- DECLARE_DEAD (R397)
    ⟨0x7010, 1, 0x0B, 1, .u32, .ro, 1, 255, .num 0, 0, 4294967295, 0x0⟩,  -- CONTESTS (R397)
    ⟨0x7010, 1, 0x0C, 1, .u32, .ro, 1, 255, .num 0, 0, 4294967295, 0x0⟩,  -- TAKEOVERS (R397)
    ⟨0x7010, 1, 0x0D, 1, .dur32, .rp, 0, 2, .num 10000000, 2000000, 50000000, 0xFE0⟩,  -- SLOT_GRID_LEN (R397)
    ⟨0x7010, 1, 0x0E, 1, .time64, .rp, 0, 2, .num 0, 0, 4611686018427387904, 0xFE0⟩,  -- SLOT_GRID_ORIGIN (R397)
    ⟨0x7021, 159, 0x00, 1, .u8, .ro, 0, 255, .num 9, 0, 255, 0x0⟩,  -- HIGHEST_SUB (R27)
    ⟨0x7021, 159, 0x01, 1, .addr64, .rp, 0, 2, (zb 8), 0, 0, 0xA0⟩,  -- W_EUI (R398)
    ⟨0x7021, 159, 0x02, 1, .blob 64, .rp, 0, 2, (zb 64), 0, 0, 0xA0⟩,  -- W_PUBKEY (R398)
    ⟨0x7021, 159, 0x03, 1, .blob 16, .rp, 0, 2, (zb 16), 0, 0, 0xA0⟩,  -- W_ADDR (R398)
    ⟨0x7021, 159, 0x04, 1, .blob 20, .rp, 0, 2, (zb 20), 0, 0, 0xA0⟩,  -- W_NEIGHBOURS (R398)
    ⟨0x7021, 159, 0x05, 1, .enum8, .ro, 0, 255, .num 0, 0, 255, 0x0⟩,  -- W_STATE (R398)
    ⟨0x7021, 159, 0x06, 1, .enum8, .ro, 0, 255, .num 255, 0, 255, 0x0⟩,  -- W_HSTATE (R398)
    ⟨0x7021, 159, 0x07, 1, .time64, .ro, 0, 255, .num 0, (-9223372036854775808), 9223372036854775807, 0x0⟩   -- W_LEASE_END (R398)
  ]

/-- Entries 0x7000–0x70FF: hierarchy. -/
def entries70b : List Entry :=
  [
    ⟨0x7021, 159, 0x08, 1, .u8, .ro, 0, 255, .num 0, 0, 255, 0x0⟩,  -- W_MISSED (R398)
    ⟨0x7021, 159, 0x09, 1, .dur32, .ro, 0, 255, .num 4294967295, 0, 4294967295, 0x0⟩   -- W_ALIGN (R398)
  ]

/-- Entries 0x7000–0x70FF: hierarchy. -/
def entries70 : List Entry := entries70a ++ entries70b

/-- Entries 0x8000–0x80FF: event map. -/
def entries80 : List Entry :=
  [
    ⟨0x8000, 1, 0x00, 1, .u8, .ro, 0, 255, .num 9, 0, 255, 0x0⟩,  -- HIGHEST_SUB (R27)
    ⟨0x8000, 1, 0x01, 4, .bits32, .ro, 0, 255, .num 0, 0, 4294967295, 0x0⟩,  -- PENDING0–PENDING3 (R558)
    ⟨0x8000, 1, 0x05, 1, .blob 16, .cx, 255, 1, (zb 16), 0, 0, 0xFE0⟩,  -- EVT_ACK (R558)
    ⟨0x8000, 1, 0x06, 1, .u32, .ro, 0, 255, .num 0, 0, 4294967295, 0x0⟩,  -- EVENT_SEQ (R558)
    ⟨0x8000, 1, 0x07, 1, .u32, .ro, 1, 255, .num 0, 0, 4294967295, 0x0⟩,  -- EVENTS_LOST (R558)
    ⟨0x8000, 1, 0x08, 1, .u32, .ro, 1, 255, .num 0, 0, 4294967295, 0x0⟩,  -- HELD_LOST (R558)
    ⟨0x8000, 1, 0x09, 1, .bool, .ro, 0, 255, .num 0, 0, 1, 0x0⟩,  -- EVT_N_STATE (R558)
    ⟨0x80D8, 12, 0x03, 1, .u32, .ro, 1, 255, .num 0, 0, 4294967295, 0x0⟩,  -- COUNT (R558)
    ⟨0x80D8, 12, 0x04, 1, .time64, .ro, 1, 255, .num 0, (-9223372036854775808), 9223372036854775807, 0x0⟩,  -- LAST_TIME (R558)
    ⟨0x80D8, 12, 0x05, 1, .u32, .ro, 1, 255, .num 0, 0, 4294967295, 0x0⟩,  -- LAST_DATA (R558)
    ⟨0x8080, 128, 0x00, 1, .u8, .ro, 0, 255, .num 7, 0, 255, 0x0⟩,  -- HIGHEST_SUB (R27)
    ⟨0x8080, 128, 0x01, 1, .str 24, .ro, 0, 255, .bytes [], 0, 0, 0x0⟩,  -- EVT_NAME (R558)
    ⟨0x8080, 128, 0x02, 1, .u16, .ro, 0, 255, .num 0, 0, 65535, 0x0⟩,  -- EVT_OWNER (R558)
    ⟨0x8080, 128, 0x03, 1, .u32, .ro, 0, 255, .num 0, 0, 4294967295, 0x0⟩,  -- COUNT (R558)
    ⟨0x8080, 128, 0x04, 1, .time64, .ro, 0, 255, .num 0, (-9223372036854775808), 9223372036854775807, 0x0⟩,  -- LAST_TIME (R558)
    ⟨0x8080, 128, 0x05, 1, .u32, .ro, 0, 255, .num 0, 0, 4294967295, 0x0⟩,  -- LAST_DATA (R558)
    ⟨0x8080, 128, 0x06, 1, .bool, .rp, 0, 2, .num 0, 0, 1, 0xFE0⟩,  -- EVT_N_EN (R558)
    ⟨0x8080, 128, 0x07, 1, .bool, .rp, 0, 2, .num 1, 0, 1, 0xFE0⟩   -- TELEM_EN (R558)
  ]

/-- Entries 0x8100–0x81FF: error records. -/
def entries81 : List Entry :=
  [
    ⟨0x8100, 1, 0x00, 1, .u8, .ro, 0, 255, .num 11, 0, 255, 0x0⟩,  -- HIGHEST_SUB (R27)
    ⟨0x8100, 1, 0x01, 1, .u32, .ro, 1, 255, .num 0, 0, 4294967295, 0x0⟩,  -- ERR_TOTAL (R559)
    ⟨0x8100, 1, 0x02, 1, .u32, .ro, 1, 255, .num 0, 0, 4294967295, 0x0⟩,  -- ERR_LOST (R559)
    ⟨0x8100, 1, 0x03, 1, .blob 65536, .ro, 1, 255, .bytes [], 0, 0, 0x0⟩,  -- ERR_LOG (R559)
    ⟨0x8100, 1, 0x04, 1, .u16, .ro, 1, 255, .num 0, 0, 65535, 0x0⟩,  -- ERR_LOG_COUNT (R559)
    ⟨0x8100, 1, 0x05, 1, .u8, .cx, 255, 2, .num 0, 0, 255, 0xFE0⟩,  -- ERR_LOG_CLEAR (R559)
    ⟨0x8100, 1, 0x06, 1, .blob 64, .ro, 1, 255, (zb 64), 0, 0, 0x0⟩,  -- LAST_FATAL (R559)
    ⟨0x8100, 1, 0x07, 1, .bits32, .ro, 0, 255, .num 0, 0, 4294967295, 0x0⟩,  -- UNITS_QUARANTINED (R559)
    ⟨0x8100, 1, 0x08, 1, .u32, .ro, 1, 255, .num 0, 0, 4294967295, 0x0⟩,  -- EPISODES (R559)
    ⟨0x8100, 1, 0x09, 1, .u32, .ro, 1, 255, .num 0, 0, 4294967295, 0x0⟩,  -- NESTED (R559)
    ⟨0x8100, 1, 0x0A, 1, .u32, .ro, 1, 255, .num 0, 0, 4294967295, 0x0⟩,  -- QUARANTINES (R559)
    ⟨0x8100, 1, 0x0B, 1, .u8, .cx, 255, 2, .num 0, 0, 255, 0xFE0⟩   -- UNIT_RESTORE (R559)
  ]

/-- Entries 0x8200–0x82FF: telemetry. -/
def entries82 : List Entry :=
  [
    ⟨0x8200, 1, 0x00, 1, .u8, .ro, 0, 255, .num 11, 0, 255, 0x0⟩,  -- HIGHEST_SUB (R27)
    ⟨0x8200, 1, 0x01, 1, .u32, .ro, 1, 255, .num 0, 0, 4294967295, 0x0⟩,  -- TELEM_HEAD (R560)
    ⟨0x8200, 1, 0x02, 1, .u32, .ro, 1, 255, .num 0, 0, 4294967295, 0x0⟩,  -- TELEM_TAIL (R560)
    ⟨0x8200, 1, 0x03, 1, .u32, .ro, 1, 255, .num 1, 0, 4294967295, 0x0⟩,  -- TELEM_NEXT_SEQ (R560)
    ⟨0x8200, 1, 0x04, 1, .blob 1073741824, .ro, 1, 255, .bytes [], 0, 0, 0x0⟩,  -- TELEM_RING (R560)
    ⟨0x8200, 1, 0x05, 1, .u8, .cx, 255, 1, .num 0, 0, 255, 0xFE0⟩,  -- TELEM_FREEZE (R560)
    ⟨0x8200, 1, 0x06, 1, .u32, .ro, 1, 255, .num 0, 0, 4294967295, 0x0⟩,  -- TELEM_DROPPED (R560)
    ⟨0x8200, 1, 0x07, 1, .u16, .rp, 0, 2, .num 60, 0, 3600, 0xFE0⟩,  -- SAMPLE_PERIOD (R560)
    ⟨0x8200, 1, 0x08, 1, .blob 256, .rp, 0, 2, (zb 256), 0, 0, 0xFE0⟩,  -- SAMPLE_LIST (R560)
    ⟨0x8200, 1, 0x09, 1, .u32, .ro, 1, 255, .num 0, 0, 4294967295, 0x0⟩,  -- STAGING_USED (R560)
    ⟨0x8200, 1, 0x0B, 1, .u32, .ro, 1, 255, .num 0, 0, 4294967295, 0x0⟩,  -- TELEM_WRAPS (R560)
    ⟨0x8220, 7, 0x00, 1, .u8, .ro, 0, 255, .num 4, 0, 255, 0x0⟩,  -- HIGHEST_SUB (R27)
    ⟨0x8220, 7, 0x01, 1, .enum8, .ro, 0, 255, .num 0, 0, 255, 0x0⟩,  -- TASK_CLASS (R557)
    ⟨0x8220, 7, 0x02, 1, .u32, .ro, 1, 255, .num 0, 0, 4294967295, 0x0⟩,  -- TASK_GRANTED (R557)
    ⟨0x8220, 7, 0x03, 1, .u32, .ro, 1, 255, .num 0, 0, 4294967295, 0x0⟩,  -- TASK_DEFERRED (R557)
    ⟨0x8220, 7, 0x04, 1, .time64, .ro, 1, 255, .num 0, (-9223372036854775808), 9223372036854775807, 0x0⟩   -- TASK_LAST_GRANT (R557)
  ]

/-- Entries 0x9000–0x90FF: interfaces. -/
def entries90a : List Entry :=
  [
    ⟨0x9008, 1, 0x00, 1, .u8, .ro, 0, 255, .num 9, 0, 255, 0x0⟩,  -- HIGHEST_SUB (R27)
    ⟨0x9008, 1, 0x01, 1, .blob 16, .rp, 0, 2, (zb 16), 0, 0, 0xFE0⟩,  -- MGMT_ADDR6 (R567)
    ⟨0x9008, 1, 0x02, 1, .u8, .rp, 0, 2, .num 64, 1, 128, 0xFE0⟩,  -- MGMT_PLEN6 (R567)
    ⟨0x9008, 1, 0x03, 1, .blob 16, .ro, 0, 255, (zb 16), 0, 0, 0x0⟩,  -- MGMT_ADDR6_NOW (R567)
    ⟨0x9008, 1, 0x04, 1, .blob 16, .ro, 0, 255, (zb 16), 0, 0, 0x0⟩,  -- MGMT_LLADDR (R567)
    ⟨0x9008, 1, 0x05, 1, .blob 4, .rp, 0, 2, (zb 4), 0, 0, 0xFE0⟩,  -- MGMT_ADDR4 (R567)
    ⟨0x9008, 1, 0x06, 1, .u8, .rp, 0, 2, .num 24, 1, 32, 0xFE0⟩,  -- MGMT_PLEN4 (R567)
    ⟨0x9008, 1, 0x07, 1, .blob 4, .rp, 0, 2, (zb 4), 0, 0, 0xFE0⟩,  -- MGMT_GW4 (R567)
    ⟨0x9008, 1, 0x08, 1, .blob 16, .ro, 0, 255, (zb 16), 0, 0, 0x0⟩,  -- MESH_ADDR (R567)
    ⟨0x9008, 1, 0x09, 1, .u32, .ro, 1, 255, .num 0, 0, 4294967295, 0x0⟩,  -- DAD_FAILS (R567)
    ⟨0x9010, 2, 0x00, 1, .u8, .ro, 0, 255, .num 13, 0, 255, 0x0⟩,  -- HIGHEST_SUB (R27)
    ⟨0x9010, 2, 0x01, 1, .enum8, .rp, 0, 2, .num 1, 0, 2, 0xFE0⟩,  -- PORT_MODE (R581)
    ⟨0x9010, 2, 0x02, 1, .bool, .rp, 0, 2, .num 1, 0, 1, 0xFE0⟩,  -- AUTONEG (R581)
    ⟨0x9010, 2, 0x03, 1, .blob 6, .rp, 0, 2, (zb 6), 0, 0, 0xFE0⟩,  -- MAC_ADDR (R581)
    ⟨0x9010, 2, 0x04, 1, .u16, .rp, 0, 2, .num 1518, 64, 2016, 0xFE0⟩,  -- MAX_FRAME (R581)
    ⟨0x9010, 2, 0x05, 1, .bool, .ro, 0, 255, .num 0, 0, 1, 0x0⟩,  -- LINK_UP (R581)
    ⟨0x9010, 2, 0x06, 1, .enum8, .ro, 0, 255, .num 0, 0, 255, 0x0⟩,  -- SPEED (R581)
    ⟨0x9010, 2, 0x07, 1, .u32, .ro, 1, 255, .num 0, 0, 4294967295, 0x0⟩,  -- RX_FRAMES (R581)
    ⟨0x9010, 2, 0x08, 1, .u32, .ro, 1, 255, .num 0, 0, 4294967295, 0x0⟩,  -- TX_FRAMES (R581)
    ⟨0x9010, 2, 0x09, 1, .u32, .ro, 1, 255, .num 0, 0, 4294967295, 0x0⟩,  -- RX_DISCARDS (R581)
    ⟨0x9010, 2, 0x0A, 1, .blob 12, .ro, 1, 255, (zb 12), 0, 0, 0x0⟩,  -- RX_LATENCY (R581)
    ⟨0x9010, 2, 0x0B, 1, .blob 12, .ro, 1, 255, (zb 12), 0, 0, 0x0⟩,  -- TX_LATENCY (R581)
    ⟨0x9010, 2, 0x0C, 1, .u32, .ro, 1, 255, .num 0, 0, 4294967295, 0x0⟩,  -- LINK_CHANGES (R581)
    ⟨0x9010, 2, 0x0D, 1, .bool, .rp, 0, 2, .num 0, 0, 1, 0xFE0⟩,  -- ACCEPT_ALL_MCAST (R581)
    ⟨0x9020, 1, 0x00, 1, .u8, .ro, 0, 255, .num 4, 0, 255, 0x0⟩,  -- HIGHEST_SUB (R27)
    ⟨0x9020, 1, 0x01, 1, .u32, .rp, 0, 2, .num 115200, 9600, 3000000, 0xFE0⟩,  -- BAUD (R582)
    ⟨0x9020, 1, 0x02, 1, .bool, .rp, 0, 2, .num 0, 0, 1, 0xFE0⟩,  -- FLOW (R582)
    ⟨0x9020, 1, 0x03, 1, .u32, .ro, 1, 255, .num 0, 0, 4294967295, 0x0⟩,  -- RX_FRAMES (R582)
    ⟨0x9020, 1, 0x04, 1, .u32, .ro, 1, 255, .num 0, 0, 4294967295, 0x0⟩,  -- RX_ERRORS (R582)
    ⟨0x9021, 1, 0x00, 1, .u8, .ro, 0, 255, .num 2, 0, 255, 0x0⟩,  -- HIGHEST_SUB (R27)
    ⟨0x9021, 1, 0x01, 1, .u32, .ro, 1, 255, .num 0, 0, 4294967295, 0x0⟩,  -- RX_FRAMES (R582)
    ⟨0x9021, 1, 0x02, 1, .u32, .ro, 1, 255, .num 0, 0, 4294967295, 0x0⟩,  -- RX_ERRORS (R582)
    ⟨0x9030, 1, 0x00, 1, .u8, .ro, 0, 255, .num 5, 0, 255, 0x0⟩,  -- HIGHEST_SUB (R27)
    ⟨0x9030, 1, 0x01, 1, .blob 8, .ro, 0, 255, (zb 8), 0, 0, 0x0⟩,  -- FLASH_ID (R582)
    ⟨0x9030, 1, 0x02, 1, .u32, .ro, 0, 255, .num 0, 0, 4294967295, 0x0⟩,  -- FLASH_SIZE (R582)
    ⟨0x9030, 1, 0x03, 1, .u16, .rp, 0, 2, .num 200, 25, 200, 0xFE0⟩,  -- XSPI_CLK (R582)
    ⟨0x9030, 1, 0x04, 1, .enum8, .ro, 0, 255, .num 0, 0, 255, 0x0⟩,  -- XSPI_PROTO (R582)
    ⟨0x9030, 1, 0x05, 1, .u32, .ro, 1, 255, .num 0, 0, 4294967295, 0x0⟩,  -- READ_ERRORS (R582)
    ⟨0x9038, 1, 0x00, 1, .u8, .ro, 0, 255, .num 10, 0, 255, 0x0⟩,  -- HIGHEST_SUB (R27)
    ⟨0x9038, 1, 0x01, 1, .u8, .rp, 0, 2, .num 96, 8, 119, 0xFE0⟩   -- PMIC_ADDR (R582)
  ]

/-- Entries 0x9000–0x90FF: interfaces. -/
def entries90b : List Entry :=
  [
    ⟨0x9038, 1, 0x02, 1, .u16, .rp, 0, 2, .num 800, 760, 880, 0xFE0⟩,  -- VCORE_SET (R582)
    ⟨0x9038, 1, 0x03, 1, .u8, .rp, 0, 2, .num 0, 0, 255, 0xFE0⟩,  -- VSET_REG (R582)
    ⟨0x9038, 1, 0x04, 1, .u16, .rp, 0, 2, .num 600, 0, 880, 0xFE0⟩,  -- VSET_BASE (R582)
    ⟨0x9038, 1, 0x05, 1, .u16, .rp, 0, 2, .num 5000, 1000, 50000, 0xFE0⟩,  -- VSET_STEP (R582)
    ⟨0x9038, 1, 0x06, 1, .u32, .ro, 1, 255, .num 0, 0, 4294967295, 0x0⟩,  -- PMIC_NACKS (R582)
    ⟨0x9038, 1, 0x07, 1, .blob 15, .rp, 0, 2, (zb 15), 0, 0, 0xFE0⟩,  -- ON_SEQ (R582)
    ⟨0x9038, 1, 0x08, 1, .blob 15, .rp, 0, 2, (zb 15), 0, 0, 0xFE0⟩,  -- OFF_SEQ (R582)
    ⟨0x9038, 1, 0x09, 1, .bool, .ro, 0, 255, .num 0, 0, 1, 0x0⟩,  -- PG_STATE (R582)
    ⟨0x9038, 1, 0x0A, 1, .enum8, .rp, 0, 2, .num 1, 0, 1, 0xFE0⟩,  -- TW_SPEED (R582)
    ⟨0x9040, 24, 0x00, 1, .u8, .ro, 0, 255, .num 6, 0, 255, 0x0⟩,  -- HIGHEST_SUB (R27)
    ⟨0x9040, 24, 0x01, 1, .enum8, .rp, 0, 2, .num 0, 0, 2, 0xFE0⟩,  -- GPIO_DIR (R582)
    ⟨0x9040, 24, 0x02, 1, .bool, .rp, 0, 2, .num 0, 0, 1, 0xFE0⟩,  -- GPIO_INIT (R582)
    ⟨0x9040, 24, 0x03, 1, .bool, .rw, 0, 1, .num 0, 0, 1, 0xFE0⟩,  -- GPIO_OUT (R582)
    ⟨0x9040, 24, 0x04, 1, .enum8, .rp, 0, 2, .num 0, 0, 2, 0xFE0⟩,  -- GPIO_PULL (R582)
    ⟨0x9040, 24, 0x05, 1, .enum8, .rp, 0, 2, .num 0, 0, 1, 0xFE0⟩,  -- GPIO_DRIVE (R582)
    ⟨0x9040, 24, 0x06, 1, .bool, .ro, 0, 255, .num 0, 0, 1, 0x0⟩,  -- GPIO_IN (R582)
    ⟨0x9058, 1, 0x00, 1, .u8, .ro, 0, 255, .num 1, 0, 255, 0x0⟩,  -- HIGHEST_SUB (R27)
    ⟨0x9058, 1, 0x01, 1, .bits32, .ro, 0, 255, .num 0, 0, 4294967295, 0x0⟩,  -- GPIO_IN_ALL (R582)
    ⟨0x9060, 1, 0x00, 1, .u8, .ro, 0, 255, .num 2, 0, 255, 0x0⟩,  -- HIGHEST_SUB (R27)
    ⟨0x9060, 1, 0x01, 1, .u32, .ro, 0, 255, .num 0, 0, 4294967295, 0x0⟩,  -- JTAG_IDCODE (R582)
    ⟨0x9060, 1, 0x02, 1, .enum8, .ro, 0, 255, .num 0, 0, 255, 0x0⟩   -- DAP_STATE (R582)
  ]

/-- Entries 0x9000–0x90FF: interfaces. -/
def entries90 : List Entry := entries90a ++ entries90b

end Sys2Proof.Machine
end

