-- ==== Sys2Proof/Machine/EntriesSystem.lean ====
section
/-!
DEFINITION. The dictionary entries of types, identity, QDL, modes, governor, start-up, persistent store, time and timers.
Written from the entry tables of spec/ (R28): index, how many instances, sub-index, how many sub-indices, type, access class, read
level, write level (255: none), default, minimum, maximum, and the modes of writing or execution (bit n for Mn).
-/
namespace Sys2Proof.Machine

/-- Entries 0x0000–0x00FF: types. -/
def entries00a : List Entry :=
  [
    ⟨0x0001, 1, 0x00, 1, .u8, .ro, 0, 255, .num 2, 0, 255, 0x0⟩,  -- HIGHEST_SUB (R27)
    ⟨0x0001, 1, 0x01, 1, .u16, .ro, 0, 255, .num 1, 0, 65535, 0x0⟩,  -- SIZE (R29)
    ⟨0x0001, 1, 0x02, 1, .str 8, .ro, 0, 255, (tx "U8"), 0, 0, 0x0⟩,  -- NAME (R29)
    ⟨0x0002, 1, 0x00, 1, .u8, .ro, 0, 255, .num 2, 0, 255, 0x0⟩,  -- HIGHEST_SUB (R27)
    ⟨0x0002, 1, 0x01, 1, .u16, .ro, 0, 255, .num 2, 0, 65535, 0x0⟩,  -- SIZE (R29)
    ⟨0x0002, 1, 0x02, 1, .str 8, .ro, 0, 255, (tx "U16"), 0, 0, 0x0⟩,  -- NAME (R29)
    ⟨0x0003, 1, 0x00, 1, .u8, .ro, 0, 255, .num 2, 0, 255, 0x0⟩,  -- HIGHEST_SUB (R27)
    ⟨0x0003, 1, 0x01, 1, .u16, .ro, 0, 255, .num 4, 0, 65535, 0x0⟩,  -- SIZE (R29)
    ⟨0x0003, 1, 0x02, 1, .str 8, .ro, 0, 255, (tx "U32"), 0, 0, 0x0⟩,  -- NAME (R29)
    ⟨0x0004, 1, 0x00, 1, .u8, .ro, 0, 255, .num 2, 0, 255, 0x0⟩,  -- HIGHEST_SUB (R27)
    ⟨0x0004, 1, 0x01, 1, .u16, .ro, 0, 255, .num 8, 0, 65535, 0x0⟩,  -- SIZE (R29)
    ⟨0x0004, 1, 0x02, 1, .str 8, .ro, 0, 255, (tx "U64"), 0, 0, 0x0⟩,  -- NAME (R29)
    ⟨0x0005, 1, 0x00, 1, .u8, .ro, 0, 255, .num 2, 0, 255, 0x0⟩,  -- HIGHEST_SUB (R27)
    ⟨0x0005, 1, 0x01, 1, .u16, .ro, 0, 255, .num 2, 0, 65535, 0x0⟩,  -- SIZE (R29)
    ⟨0x0005, 1, 0x02, 1, .str 8, .ro, 0, 255, (tx "I16"), 0, 0, 0x0⟩,  -- NAME (R29)
    ⟨0x0006, 1, 0x00, 1, .u8, .ro, 0, 255, .num 2, 0, 255, 0x0⟩,  -- HIGHEST_SUB (R27)
    ⟨0x0006, 1, 0x01, 1, .u16, .ro, 0, 255, .num 4, 0, 65535, 0x0⟩,  -- SIZE (R29)
    ⟨0x0006, 1, 0x02, 1, .str 8, .ro, 0, 255, (tx "I32"), 0, 0, 0x0⟩,  -- NAME (R29)
    ⟨0x0007, 1, 0x00, 1, .u8, .ro, 0, 255, .num 2, 0, 255, 0x0⟩,  -- HIGHEST_SUB (R27)
    ⟨0x0007, 1, 0x01, 1, .u16, .ro, 0, 255, .num 8, 0, 65535, 0x0⟩,  -- SIZE (R29)
    ⟨0x0007, 1, 0x02, 1, .str 8, .ro, 0, 255, (tx "I64"), 0, 0, 0x0⟩,  -- NAME (R29)
    ⟨0x0008, 1, 0x00, 1, .u8, .ro, 0, 255, .num 2, 0, 255, 0x0⟩,  -- HIGHEST_SUB (R27)
    ⟨0x0008, 1, 0x01, 1, .u16, .ro, 0, 255, .num 1, 0, 65535, 0x0⟩,  -- SIZE (R29)
    ⟨0x0008, 1, 0x02, 1, .str 8, .ro, 0, 255, (tx "BOOL"), 0, 0, 0x0⟩,  -- NAME (R29)
    ⟨0x0009, 1, 0x00, 1, .u8, .ro, 0, 255, .num 2, 0, 255, 0x0⟩,  -- HIGHEST_SUB (R27)
    ⟨0x0009, 1, 0x01, 1, .u16, .ro, 0, 255, .num 1, 0, 65535, 0x0⟩,  -- SIZE (R29)
    ⟨0x0009, 1, 0x02, 1, .str 8, .ro, 0, 255, (tx "ENUM8"), 0, 0, 0x0⟩,  -- NAME (R29)
    ⟨0x000A, 1, 0x00, 1, .u8, .ro, 0, 255, .num 2, 0, 255, 0x0⟩,  -- HIGHEST_SUB (R27)
    ⟨0x000A, 1, 0x01, 1, .u16, .ro, 0, 255, .num 4, 0, 65535, 0x0⟩,  -- SIZE (R29)
    ⟨0x000A, 1, 0x02, 1, .str 8, .ro, 0, 255, (tx "BITS32"), 0, 0, 0x0⟩,  -- NAME (R29)
    ⟨0x000B, 1, 0x00, 1, .u8, .ro, 0, 255, .num 2, 0, 255, 0x0⟩,  -- HIGHEST_SUB (R27)
    ⟨0x000B, 1, 0x01, 1, .u16, .ro, 0, 255, .num 8, 0, 65535, 0x0⟩,  -- SIZE (R29)
    ⟨0x000B, 1, 0x02, 1, .str 8, .ro, 0, 255, (tx "TIME64"), 0, 0, 0x0⟩,  -- NAME (R29)
    ⟨0x000C, 1, 0x00, 1, .u8, .ro, 0, 255, .num 2, 0, 255, 0x0⟩,  -- HIGHEST_SUB (R27)
    ⟨0x000C, 1, 0x01, 1, .u16, .ro, 0, 255, .num 4, 0, 65535, 0x0⟩,  -- SIZE (R29)
    ⟨0x000C, 1, 0x02, 1, .str 8, .ro, 0, 255, (tx "DUR32"), 0, 0, 0x0⟩,  -- NAME (R29)
    ⟨0x000D, 1, 0x00, 1, .u8, .ro, 0, 255, .num 2, 0, 255, 0x0⟩,  -- HIGHEST_SUB (R27)
    ⟨0x000D, 1, 0x01, 1, .u16, .ro, 0, 255, .num 4, 0, 65535, 0x0⟩,  -- SIZE (R29)
    ⟨0x000D, 1, 0x02, 1, .str 8, .ro, 0, 255, (tx "PPM32"), 0, 0, 0x0⟩,  -- NAME (R29)
    ⟨0x000E, 1, 0x00, 1, .u8, .ro, 0, 255, .num 2, 0, 255, 0x0⟩   -- HIGHEST_SUB (R27)
  ]

/-- Entries 0x0000–0x00FF: types. -/
def entries00b : List Entry :=
  [
    ⟨0x000E, 1, 0x01, 1, .u16, .ro, 0, 255, .num 8, 0, 65535, 0x0⟩,  -- SIZE (R29)
    ⟨0x000E, 1, 0x02, 1, .str 8, .ro, 0, 255, (tx "ADDR64"), 0, 0, 0x0⟩,  -- NAME (R29)
    ⟨0x000F, 1, 0x00, 1, .u8, .ro, 0, 255, .num 2, 0, 255, 0x0⟩,  -- HIGHEST_SUB (R27)
    ⟨0x000F, 1, 0x01, 1, .u16, .ro, 0, 255, .num 2, 0, 65535, 0x0⟩,  -- SIZE (R29)
    ⟨0x000F, 1, 0x02, 1, .str 8, .ro, 0, 255, (tx "ADDR16"), 0, 0, 0x0⟩,  -- NAME (R29)
    ⟨0x0010, 1, 0x00, 1, .u8, .ro, 0, 255, .num 2, 0, 255, 0x0⟩,  -- HIGHEST_SUB (R27)
    ⟨0x0010, 1, 0x01, 1, .u16, .ro, 0, 255, .num 0, 0, 65535, 0x0⟩,  -- SIZE (R29)
    ⟨0x0010, 1, 0x02, 1, .str 8, .ro, 0, 255, (tx "STR"), 0, 0, 0x0⟩,  -- NAME (R29)
    ⟨0x0011, 1, 0x00, 1, .u8, .ro, 0, 255, .num 2, 0, 255, 0x0⟩,  -- HIGHEST_SUB (R27)
    ⟨0x0011, 1, 0x01, 1, .u16, .ro, 0, 255, .num 0, 0, 65535, 0x0⟩,  -- SIZE (R29)
    ⟨0x0011, 1, 0x02, 1, .str 8, .ro, 0, 255, (tx "BLOB"), 0, 0, 0x0⟩   -- NAME (R29)
  ]

/-- Entries 0x0000–0x00FF: types. -/
def entries00 : List Entry := entries00a ++ entries00b

/-- Entries 0x0100–0x01FF: identity. -/
def entries01 : List Entry :=
  [
    ⟨0x0100, 1, 0x00, 1, .u8, .ro, 0, 255, .num 10, 0, 255, 0x0⟩,  -- HIGHEST_SUB (R27)
    ⟨0x0100, 1, 0x01, 1, .str 16, .ro, 0, 255, (tx "NQX-7720"), 0, 0, 0x0⟩,  -- PART_NUMBER (R63)
    ⟨0x0100, 1, 0x02, 1, .u8, .ro, 0, 255, .num 0, 0, 255, 0x0⟩,  -- SILICON_REV (R63)
    ⟨0x0100, 1, 0x03, 1, .addr64, .ro, 0, 255, (zb 8), 0, 0, 0x0⟩,  -- DEVICE_EUI (R63)
    ⟨0x0100, 1, 0x04, 1, .enum8, .ro, 0, 255, .num 0, 0, 255, 0x0⟩,  -- ROLE (R63)
    ⟨0x0100, 1, 0x05, 1, .u8, .ro, 0, 255, .num 255, 0, 255, 0x0⟩,  -- WORKER_ID (R63)
    ⟨0x0100, 1, 0x06, 1, .u16, .ro, 0, 255, .num 0, 0, 65535, 0x0⟩,  -- DISTRICT_ID (R63)
    ⟨0x0100, 1, 0x07, 1, .u32, .ro, 0, 255, .num 0, 0, 4294967295, 0x0⟩,  -- FW_VERSION (R63)
    ⟨0x0100, 1, 0x08, 1, .enum8, .ro, 0, 255, .num 0, 0, 255, 0x0⟩,  -- FW_SLOT (R63)
    ⟨0x0100, 1, 0x09, 1, .u16, .ro, 0, 255, .num 0, 0, 65535, 0x0⟩,  -- DICT_VERSION (R63)
    ⟨0x0100, 1, 0x0A, 1, .blob 64, .ro, 0, 255, (zb 64), 0, 0, 0x0⟩   -- ID_PUBKEY (R63)
  ]

/-- Entries 0x0200–0x02FF: qdl. -/
def entries02 : List Entry :=
  [
    ⟨0x0200, 1, 0x00, 1, .u8, .ro, 0, 255, .num 9, 0, 255, 0x0⟩,  -- HIGHEST_SUB (R27)
    ⟨0x0200, 1, 0x01, 1, .u8, .ro, 0, 255, .num 8, 0, 255, 0x0⟩,  -- SESSION_MAX (R64)
    ⟨0x0200, 1, 0x02, 1, .u16, .rp, 0, 2, .num 120, 10, 3600, 0xFE0⟩,  -- IDLE_TIMEOUT (R64)
    ⟨0x0200, 1, 0x03, 1, .u16, .rp, 0, 2, .num 5841, 1024, 65535, 0xFE0⟩,  -- UDP_PORT (R64)
    ⟨0x0200, 1, 0x04, 1, .bool, .rp, 0, 2, .num 1, 0, 1, 0xFE0⟩,  -- LOCAL_L0 (R64)
    ⟨0x0200, 1, 0x05, 1, .u8, .ro, 0, 255, .num 0, 0, 255, 0x0⟩,  -- SESSIONS_OPEN (R64)
    ⟨0x0200, 1, 0x06, 1, .u32, .ro, 1, 255, .num 0, 0, 4294967295, 0x0⟩,  -- AUTH_FAILURES (R64)
    ⟨0x0200, 1, 0x07, 1, .u8, .rp, 0, 2, .num 5, 1, 50, 0xFE0⟩,  -- AUTH_FAIL_LIMIT (R64)
    ⟨0x0200, 1, 0x08, 1, .u8, .cx, 255, 2, .num 0, 0, 255, 0xFE0⟩,  -- CLOSE_ALL (R64)
    ⟨0x0200, 1, 0x09, 1, .u16, .rp, 0, 2, .num 2000, 100, 10000, 0xFE0⟩,  -- RELAY_TIMEOUT (R64)
    ⟨0x0210, 16, 0x00, 1, .u8, .ro, 0, 255, .num 4, 0, 255, 0x0⟩,  -- HIGHEST_SUB (R27)
    ⟨0x0210, 16, 0x01, 1, .blob 64, .rp, 0, 2, (zb 64), 0, 0, 0xA0⟩,  -- CRED_PUBKEY (R64)
    ⟨0x0210, 16, 0x02, 1, .enum8, .rp, 0, 2, .num 0, 0, 2, 0xA0⟩,  -- CRED_LEVEL (R64)
    ⟨0x0210, 16, 0x03, 1, .bool, .rp, 0, 2, .num 0, 0, 1, 0xA0⟩,  -- CRED_ENABLE (R64)
    ⟨0x0210, 16, 0x04, 1, .str 16, .rp, 0, 2, .bytes [], 0, 0, 0xA0⟩   -- CRED_LABEL (R64)
  ]

/-- Entries 0x1000–0x10FF: modes. -/
def entries10 : List Entry :=
  [
    ⟨0x1000, 1, 0x00, 1, .u8, .ro, 0, 255, .num 21, 0, 255, 0x0⟩,  -- HIGHEST_SUB (R27)
    ⟨0x1000, 1, 0x01, 1, .enum8, .ro, 0, 255, .num 0, 0, 255, 0x0⟩,  -- MODE (R476)
    ⟨0x1000, 1, 0x02, 1, .enum8, .ro, 0, 255, .num 0, 0, 255, 0x0⟩,  -- BASE_MODE (R476)
    ⟨0x1000, 1, 0x03, 1, .enum8, .rp, 0, 2, .num 1, 0, 1, 0xFE0⟩,  -- DUTY_MODE (R476)
    ⟨0x1000, 1, 0x04, 1, .enum8, .ro, 0, 255, .num 0, 0, 255, 0x0⟩,  -- FAULT_CAUSE (R476)
    ⟨0x1000, 1, 0x05, 1, .bits32, .ro, 0, 255, .num 0, 0, 4294967295, 0x0⟩,  -- DOMAINS_ON (R476)
    ⟨0x1000, 1, 0x06, 1, .bits32, .ro, 0, 255, .num 0, 0, 4294967295, 0x0⟩,  -- PAD_HOLD (R476)
    ⟨0x1000, 1, 0x07, 1, .u8, .cx, 255, 2, .num 0, 0, 255, 0xFE0⟩,  -- PAD_RELEASE (R476)
    ⟨0x1000, 1, 0x08, 1, .bool, .rp, 0, 2, .num 1, 0, 1, 0xFE0⟩,  -- PAD_AUTO_RELEASE (R476)
    ⟨0x1000, 1, 0x09, 1, .blob 16, .cx, 255, 2, (zb 16), 0, 0, 0x5C0⟩,  -- SLEEP (R476)
    ⟨0x1000, 1, 0x0A, 1, .u8, .cx, 255, 2, .num 0, 0, 255, 0x4C0⟩,  -- MAINTENANCE (R476)
    ⟨0x1000, 1, 0x0B, 1, .bits32, .rp, 0, 2, .num 15, 0, 15, 0xFE0⟩,  -- WAKE_EN (R476)
    ⟨0x1000, 1, 0x0C, 1, .enum8, .rp, 0, 2, .num 0, 0, 1, 0xFE0⟩,  -- WAKE_IN_LEVEL (R476)
    ⟨0x1000, 1, 0x0D, 1, .bits32, .ro, 0, 255, .num 0, 0, 4294967295, 0x0⟩,  -- WAKE_CAUSE (R476)
    ⟨0x1000, 1, 0x0E, 1, .time64, .ro, 0, 255, .num 0, (-9223372036854775808), 9223372036854775807, 0x0⟩,  -- WAKE_TIME (R476)
    ⟨0x1000, 1, 0x0F, 1, .enum8, .ro, 0, 255, .num 0, 0, 255, 0x0⟩,  -- LAST_SLEEP_MODE (R476)
    ⟨0x1000, 1, 0x10, 1, .time64, .ro, 0, 255, .num 0, (-9223372036854775808), 9223372036854775807, 0x0⟩,  -- SLEEP_ENTRY_TIME (R476)
    ⟨0x1000, 1, 0x11, 1, .u8, .rp, 0, 2, .num 60, 52, 64, 0xFE0⟩,  -- HALYARD_THRESHOLD (R476)
    ⟨0x1000, 1, 0x12, 1, .u32, .ro, 1, 255, .num 0, 0, 4294967295, 0x0⟩,  -- HALYARD_FOREIGN (R476)
    ⟨0x1000, 1, 0x13, 1, .u16, .ro, 1, 255, .num 0, 0, 65535, 0x0⟩,  -- HALYARD_LAST_ID (R476)
    ⟨0x1000, 1, 0x14, 1, .u32, .ro, 1, 255, .num 0, 0, 4294967295, 0x0⟩,  -- WAKE_FAILS (R476)
    ⟨0x1000, 1, 0x15, 1, .bool, .ro, 0, 255, .num 0, 0, 1, 0x0⟩   -- MESH_OK (R476)
  ]

/-- Entries 0x1100–0x11FF: governor. -/
def entries11a : List Entry :=
  [
    ⟨0x1100, 1, 0x00, 1, .u8, .ro, 0, 255, .num 29, 0, 255, 0x0⟩,  -- HIGHEST_SUB (R27)
    ⟨0x1100, 1, 0x01, 1, .enum8, .ro, 0, 255, .num 0, 0, 255, 0x0⟩,  -- GOV_STATE (R445)
    ⟨0x1100, 1, 0x02, 1, .i32, .ro, 0, 255, .num 0, (-2147483648), 2147483647, 0x0⟩,  -- E_CREDIT (R445)
    ⟨0x1100, 1, 0x03, 1, .u32, .rp, 0, 2, .num 60000, 1000, 10000000, 0xFE0⟩,  -- E_CAP (R445)
    ⟨0x1100, 1, 0x04, 1, .i32, .ro, 0, 255, .num 0, (-2147483648), 2147483647, 0x0⟩,  -- H_CREDIT (R445)
    ⟨0x1100, 1, 0x05, 1, .enum8, .ro, 0, 255, .num 0, 0, 255, 0x0⟩,  -- PROFILE (R445)
    ⟨0x1100, 1, 0x06, 1, .enum8, .rp, 0, 2, .num 1, 0, 2, 0xFE0⟩,  -- PROFILE_SEL (R445)
    ⟨0x1100, 1, 0x07, 1, .u32, .rp, 0, 2, .num 300, 10, 10000, 0xFE0⟩,  -- DAY_RATE (R445)
    ⟨0x1100, 1, 0x08, 1, .u32, .rp, 0, 2, .num 4000, 10, 10000, 0xFE0⟩,  -- NIGHT_RATE (R445)
    ⟨0x1100, 1, 0x09, 1, .u32, .rp, 0, 2, .num 25200, 0, 86399, 0xFE0⟩,  -- DAY_START (R445)
    ⟨0x1100, 1, 0x0A, 1, .u32, .rp, 0, 2, .num 64800, 0, 86399, 0xFE0⟩,  -- NIGHT_START (R445)
    ⟨0x1100, 1, 0x0B, 1, .i32, .rp, 0, 2, .num 0, (-50400), 50400, 0xFE0⟩,  -- LOCAL_OFFSET (R445)
    ⟨0x1100, 1, 0x0C, 1, .u8, .rp, 0, 2, .num 0, 0, 23, 0xFE0⟩,  -- LAMP_GPIO (R445)
    ⟨0x1100, 1, 0x0D, 1, .enum8, .rp, 0, 2, .num 1, 0, 1, 0xFE0⟩,  -- LAMP_LEVEL (R445)
    ⟨0x1100, 1, 0x0E, 1, .enum8, .rw, 0, 1, .num 0, 0, 1, 0xFE0⟩,  -- PROFILE_CMD (R445)
    ⟨0x1100, 1, 0x0F, 1, .u8, .rp, 0, 2, .num 10, 0, 90, 0xFE0⟩,  -- E_SHED (R445)
    ⟨0x1100, 1, 0x10, 1, .u8, .rp, 0, 2, .num 30, 0, 100, 0xFE0⟩,  -- E_RECOVER (R445)
    ⟨0x1100, 1, 0x11, 1, .u32, .ro, 0, 255, .num 0, 0, 4294967295, 0x0⟩,  -- INPUT_POWER (R445)
    ⟨0x1100, 1, 0x12, 1, .u64, .ro, 1, 255, .num 0, 0, 18446744073709551615, 0x0⟩,  -- INPUT_ENERGY (R445)
    ⟨0x1100, 1, 0x13, 1, .i32, .ro, 1, 255, .num 0, (-2147483648), 2147483647, 0x0⟩,  -- UNATTRIBUTED (R445)
    ⟨0x1100, 1, 0x14, 1, .bool, .rp, 0, 2, .num 1, 0, 1, 0xFE0⟩,  -- ISENSE_EN (R445)
    ⟨0x1100, 1, 0x15, 1, .u32, .rp, 0, 2, .num 10000, 100, 1000000, 0xFE0⟩,  -- SHUNT_RES (R445)
    ⟨0x1100, 1, 0x16, 1, .u32, .rp, 0, 2, .num 10000, 1000, 100000, 0xFE0⟩,  -- VSENSE_RATIO (R445)
    ⟨0x1100, 1, 0x17, 1, .u32, .rp, 0, 2, .num 300, 1, 10000, 0xFE0⟩,  -- BASE_POWER (R445)
    ⟨0x1100, 1, 0x18, 1, .u8, .rw, 0, 1, .num 255, 0, 255, 0xFE0⟩,  -- BATT_SOC (R445)
    ⟨0x1100, 1, 0x19, 1, .u32, .rp, 0, 2, .num 600, 10, 86400, 0xFE0⟩,  -- BATT_AGE_MAX (R445)
    ⟨0x1100, 1, 0x1A, 1, .u8, .rp, 0, 2, .num 30, 0, 100, 0xFE0⟩,  -- SOC_LOW (R445)
    ⟨0x1100, 1, 0x1B, 1, .u8, .rp, 0, 2, .num 50, 0, 100, 0xFE0⟩,  -- LOW_FACTOR (R445)
    ⟨0x1100, 1, 0x1C, 1, .bool, .ro, 0, 255, .num 1, 0, 1, 0x0⟩,  -- BATT_STALE_NOW (R445)
    ⟨0x1100, 1, 0x1D, 1, .u16, .rp, 0, 2, .num 10, 1, 3600, 0xFE0⟩,  -- CMD_DEFER_MAX (R445)
    ⟨0x1110, 1, 0x00, 1, .u8, .ro, 0, 255, .num 17, 0, 255, 0x0⟩,  -- HIGHEST_SUB (R27)
    ⟨0x1110, 1, 0x01, 1, .u32, .rp, 0, 2, .num 3350, 100, 100000, 0xFE0⟩,  -- C_LANE_SF (R446)
    ⟨0x1110, 1, 0x02, 1, .u32, .rp, 0, 2, .num 5300, 100, 100000, 0xFE0⟩,  -- C_LANE_G (R446)
    ⟨0x1110, 1, 0x03, 1, .u32, .rp, 0, 2, .num 28000, 1000, 1000000, 0xFE0⟩,  -- C_BAND_RX_SF (R446)
    ⟨0x1110, 1, 0x04, 1, .u32, .rp, 0, 2, .num 45000, 1000, 1000000, 0xFE0⟩,  -- C_BAND_RX_G (R446)
    ⟨0x1110, 1, 0x05, 1, .u32, .rp, 0, 2, .num 40000, 1000, 1000000, 0xFE0⟩,  -- C_TX_BASE_SF (R446)
    ⟨0x1110, 1, 0x06, 1, .u32, .rp, 0, 2, .num 55000, 1000, 1000000, 0xFE0⟩,  -- C_TX_BASE_G (R446)
    ⟨0x1110, 1, 0x07, 1, .u32, .rp, 0, 2, .num 35, 5, 80, 0xFE0⟩,  -- C_PA_EFF_SF (R446)
    ⟨0x1110, 1, 0x08, 1, .u32, .rp, 0, 2, .num 25, 5, 80, 0xFE0⟩,  -- C_PA_EFF_G (R446)
    ⟨0x1110, 1, 0x09, 1, .u32, .rp, 0, 2, .num 150, 1, 100000, 0xFE0⟩   -- C_CAL (R446)
  ]

/-- Entries 0x1100–0x11FF: governor. -/
def entries11b : List Entry :=
  [
    ⟨0x1110, 1, 0x0A, 1, .u32, .rp, 0, 2, .num 4000, 0, 1000000, 0xFE0⟩,  -- C_SCRUB (R446)
    ⟨0x1110, 1, 0x0B, 1, .u32, .rp, 0, 2, .num 1000, 0, 1000000, 0xFE0⟩,  -- C_SWEEP (R446)
    ⟨0x1110, 1, 0x0C, 1, .u32, .rp, 0, 2, .num 500, 0, 1000000, 0xFE0⟩,  -- C_WEAR (R446)
    ⟨0x1110, 1, 0x0D, 1, .u32, .rp, 0, 2, .num 2000, 0, 1000000, 0xFE0⟩,  -- C_TELEM (R446)
    ⟨0x1110, 1, 0x0E, 1, .u32, .rp, 0, 2, .num 400000, 0, 5000000, 0xFE0⟩,  -- C_MAINT (R446)
    ⟨0x1110, 1, 0x0F, 1, .u32, .rp, 0, 2, .num 2000, 100, 1000000, 0xFE0⟩,  -- COMMIT_ITEM (R446)
    ⟨0x1110, 1, 0x10, 1, .u32, .rp, 0, 2, .num 500, 0, 1000000, 0xFE0⟩,  -- COMMIT_PER_KIB (R446)
    ⟨0x1110, 1, 0x11, 1, .u32, .rp, 0, 2, .num 7000, 100, 100000, 0xFE0⟩,  -- HOIST_COST (R446)
    ⟨0x1120, 6, 0x00, 1, .u8, .ro, 0, 255, .num 4, 0, 255, 0x0⟩,  -- HIGHEST_SUB (R27)
    ⟨0x1120, 1, 0x01, 1, .i16, .rp, 0, 2, .num (-10), (-50), 100, 0xFE0⟩,  -- E_FLOOR (R447)
    ⟨0x1121, 1, 0x01, 1, .i16, .rp, 0, 2, .num 5, (-50), 100, 0xFE0⟩,  -- E_FLOOR (R447)
    ⟨0x1122, 1, 0x01, 1, .i16, .rp, 0, 2, .num 10, (-50), 100, 0xFE0⟩,  -- E_FLOOR (R447)
    ⟨0x1123, 1, 0x01, 1, .i16, .rp, 0, 2, .num 25, (-50), 100, 0xFE0⟩,  -- E_FLOOR (R447)
    ⟨0x1124, 1, 0x01, 1, .i16, .rp, 0, 2, .num 40, (-50), 100, 0xFE0⟩,  -- E_FLOOR (R447)
    ⟨0x1125, 1, 0x01, 1, .i16, .rp, 0, 2, .num 60, (-50), 100, 0xFE0⟩,  -- E_FLOOR (R447)
    ⟨0x1120, 1, 0x02, 1, .i16, .rp, 0, 2, .num (-100), (-150), 300, 0xFE0⟩,  -- H_MARGIN (R447)
    ⟨0x1121, 2, 0x02, 1, .i16, .rp, 0, 2, .num 0, (-150), 300, 0xFE0⟩,  -- H_MARGIN (R447)
    ⟨0x1123, 1, 0x02, 1, .i16, .rp, 0, 2, .num 20, (-150), 300, 0xFE0⟩,  -- H_MARGIN (R447)
    ⟨0x1124, 1, 0x02, 1, .i16, .rp, 0, 2, .num 40, (-150), 300, 0xFE0⟩,  -- H_MARGIN (R447)
    ⟨0x1125, 1, 0x02, 1, .i16, .rp, 0, 2, .num 60, (-150), 300, 0xFE0⟩,  -- H_MARGIN (R447)
    ⟨0x1120, 6, 0x03, 1, .u32, .ro, 1, 255, .num 0, 0, 4294967295, 0x0⟩,  -- GRANTED (R447)
    ⟨0x1120, 6, 0x04, 1, .u32, .ro, 1, 255, .num 0, 0, 4294967295, 0x0⟩,  -- DEFERRED (R447)
    ⟨0x1140, 1, 0x00, 1, .u8, .ro, 0, 255, .num 6, 0, 255, 0x0⟩,  -- HIGHEST_SUB (R27)
    ⟨0x1140, 1, 0x01, 1, .i16, .rp, 0, 2, .num 1100, 800, 1200, 0xFE0⟩,  -- THERM_SHED (R448)
    ⟨0x1140, 1, 0x02, 1, .u8, .rp, 0, 2, .num 50, 10, 200, 0xFE0⟩,  -- THERM_HYST (R448)
    ⟨0x1140, 1, 0x03, 1, .i16, .rp, 0, 2, .num 1200, (-32768), 1240, 0xFE0⟩,  -- THERM_CRIT (R448)
    ⟨0x1140, 1, 0x04, 1, .u32, .rp, 0, 2, .num 1500, 100, 100000, 0xFE0⟩,  -- C_TH (R448)
    ⟨0x1140, 1, 0x05, 1, .i16, .ro, 0, 255, .num 0, (-32768), 32767, 0x0⟩,  -- T_MAX (R448)
    ⟨0x1140, 1, 0x06, 1, .u8, .ro, 0, 255, .num 0, 0, 255, 0x0⟩,  -- T_MAX_SENSOR (R448)
    ⟨0x1150, 8, 0x00, 1, .u8, .ro, 0, 255, .num 3, 0, 255, 0x0⟩,  -- HIGHEST_SUB (R27)
    ⟨0x1150, 8, 0x01, 1, .i16, .ro, 0, 255, .num 0, (-32768), 32767, 0x0⟩,  -- TEMP (R448)
    ⟨0x1150, 8, 0x02, 1, .i16, .ro, 1, 255, .num 0, (-32768), 32767, 0x0⟩,  -- TEMP_PEAK (R448)
    ⟨0x1150, 8, 0x03, 1, .bool, .ro, 0, 255, .num 1, 0, 1, 0x0⟩   -- IN_SERVICE (R448)
  ]

/-- Entries 0x1100–0x11FF: governor. -/
def entries11 : List Entry := entries11a ++ entries11b

/-- Entries 0x1200–0x12FF: start-up. -/
def entries12 : List Entry :=
  [
    ⟨0x1200, 1, 0x00, 1, .u8, .ro, 0, 255, .num 12, 0, 255, 0x0⟩,  -- HIGHEST_SUB (R27)
    ⟨0x1200, 1, 0x01, 1, .enum8, .ro, 0, 255, .num 0, 0, 255, 0x0⟩,  -- RESET_CAUSE (R489)
    ⟨0x1200, 1, 0x02, 1, .enum8, .ro, 0, 255, .num 0, 0, 255, 0x0⟩,  -- START_DETAIL (R489)
    ⟨0x1200, 1, 0x03, 1, .u32, .ro, 1, 255, .num 0, 0, 4294967295, 0x0⟩,  -- START_COUNT (R489)
    ⟨0x1200, 1, 0x04, 1, .dur32, .ro, 1, 255, .num 0, 0, 4294967295, 0x0⟩,  -- LAST_START_TIME (R489)
    ⟨0x1200, 1, 0x05, 1, .u8, .cx, 255, 2, .num 0, 0, 255, 0xFE0⟩,  -- RESET (R489)
    ⟨0x1200, 1, 0x06, 1, .bool, .ro, 0, 255, .num 0, 0, 1, 0x0⟩,  -- PROVISIONED (R489)
    ⟨0x1200, 1, 0x07, 1, .bool, .ro, 0, 255, .num 0, 0, 1, 0x0⟩,  -- DEBUG_LOCKED (R489)
    ⟨0x1200, 1, 0x08, 1, .enum8, .rw, 0, 2, .num 0, 0, 2, 0x20⟩,  -- P_ROLE (R489)
    ⟨0x1200, 1, 0x09, 1, .u8, .rw, 0, 2, .num 255, 0, 159, 0x20⟩,  -- P_WORKER_ID (R489)
    ⟨0x1200, 1, 0x0A, 1, .u8, .cx, 255, 2, .num 0, 0, 255, 0x20⟩,  -- PROVISION_COMMIT (R489)
    ⟨0x1200, 1, 0x0B, 1, .u32, .ro, 1, 255, .num 0, 0, 4294967295, 0x0⟩,  -- PG_FAILS (R489)
    ⟨0x1200, 1, 0x0C, 1, .u32, .ro, 1, 255, .num 0, 0, 4294967295, 0x0⟩   -- WATCHDOG_RESETS (R489)
  ]

/-- Entries 0x1300–0x13FF: persistent store. -/
def entries13 : List Entry :=
  [
    ⟨0x1300, 1, 0x00, 1, .u8, .ro, 0, 255, .num 9, 0, 255, 0x0⟩,  -- HIGHEST_SUB (R27)
    ⟨0x1300, 1, 0x01, 1, .u32, .ro, 0, 255, .num 1048576, 0, 4294967295, 0x0⟩,  -- NV_SIZE (R502)
    ⟨0x1300, 1, 0x02, 1, .u16, .ro, 0, 255, .num 101, 0, 65535, 0x0⟩,  -- NV_PAGES_SPARE (R502)
    ⟨0x1300, 1, 0x03, 1, .u16, .ro, 0, 255, .num 0, 0, 65535, 0x0⟩,  -- NV_PAGES_RETIRED (R502)
    ⟨0x1300, 1, 0x04, 1, .u32, .ro, 1, 255, .num 0, 0, 4294967295, 0x0⟩,  -- NV_COMMITS (R502)
    ⟨0x1300, 1, 0x05, 1, .u32, .ro, 1, 255, .num 0, 0, 4294967295, 0x0⟩,  -- NV_WORN_COUNT (R502)
    ⟨0x1300, 1, 0x06, 1, .u32, .rp, 0, 2, .num 1000000, 100000, 10000000, 0xFE0⟩,  -- WEAR_DELTA (R502)
    ⟨0x1300, 1, 0x07, 1, .u16, .ro, 0, 255, .num 0, 0, 65535, 0x0⟩,  -- SETTINGS_VERSION (R502)
    ⟨0x1300, 1, 0x08, 1, .u32, .ro, 1, 255, .num 0, 0, 4294967295, 0x0⟩,  -- NV_REPLAYS (R502)
    ⟨0x1300, 1, 0x09, 1, .u32, .ro, 1, 255, .num 0, 0, 4294967295, 0x0⟩,  -- NV_MOVES (R502)
    ⟨0x1320, 1, 0x00, 1, .u8, .ro, 0, 255, .num 8, 0, 255, 0x0⟩,  -- HIGHEST_SUB (R27)
    ⟨0x1320, 1, 0x01, 1, .u32, .rp, 0, 2, .num 0, 0, 10000000, 0xFE0⟩,  -- HOLDUP_CAP (R502)
    ⟨0x1320, 1, 0x02, 1, .u32, .rp, 0, 2, .num 10000, 1000, 100000, 0xFE0⟩,  -- HOLDUP_RATIO (R502)
    ⟨0x1320, 1, 0x03, 1, .u32, .rp, 0, 2, .num 5000, 500, 60000, 0xFE0⟩,  -- HOLDUP_VMIN (R502)
    ⟨0x1320, 1, 0x04, 1, .u32, .ro, 0, 255, .num 0, 0, 4294967295, 0x0⟩,  -- HOLDUP_V (R502)
    ⟨0x1320, 1, 0x05, 1, .u32, .ro, 0, 255, .num 0, 0, 4294967295, 0x0⟩,  -- HOLDUP_AVAIL (R502)
    ⟨0x1320, 1, 0x06, 1, .u32, .ro, 1, 255, .num 0, 0, 4294967295, 0x0⟩,  -- HOLDUP_REFUSALS (R502)
    ⟨0x1320, 1, 0x07, 1, .u32, .ro, 1, 255, .num 0, 0, 4294967295, 0x0⟩,  -- HOLDUP_LAST_NEED (R502)
    ⟨0x1320, 1, 0x08, 1, .u32, .ro, 1, 255, .num 0, 0, 4294967295, 0x0⟩,  -- UNCHECKED_COMMITS (R502)
    ⟨0x1340, 4, 0x00, 1, .u8, .ro, 0, 255, .num 64, 0, 255, 0x0⟩,  -- HIGHEST_SUB (R27)
    ⟨0x1340, 4, 0x01, 64, .u32, .ro, 1, 255, .num 0, 0, 4294967295, 0x0⟩   -- PAGE_WRITES (R502)
  ]

/-- Entries 0x1800–0x18FF: time base. -/
def entries18a : List Entry :=
  [
    ⟨0x1800, 1, 0x00, 1, .u8, .ro, 0, 255, .num 15, 0, 255, 0x0⟩,  -- HIGHEST_SUB (R27)
    ⟨0x1800, 1, 0x01, 1, .time64, .ro, 0, 255, .num 0, (-9223372036854775808), 9223372036854775807, 0x0⟩,  -- TB_NOW (R87)
    ⟨0x1800, 1, 0x02, 1, .u32, .ro, 0, 255, .num 0, 0, 4294967295, 0x0⟩,  -- TB_FRAC (R87)
    ⟨0x1800, 1, 0x03, 1, .enum8, .rp, 0, 2, .num 1, 0, 3, 0xFE0⟩,  -- TB_SOURCE (R87)
    ⟨0x1800, 1, 0x04, 1, .enum8, .ro, 0, 255, .num 0, 0, 255, 0x0⟩,  -- SYNC_STATE (R87)
    ⟨0x1800, 1, 0x05, 1, .time64, .ro, 0, 255, .num 0, (-9223372036854775808), 9223372036854775807, 0x0⟩,  -- OFFSET_EST (R87)
    ⟨0x1800, 1, 0x06, 1, .ppm32, .ro, 0, 255, .num 0, (-2147483648), 2147483647, 0x0⟩,  -- FREQ_ADJ (R87)
    ⟨0x1800, 1, 0x07, 1, .ppm32, .rp, 0, 2, .num 10000, 100, 50000, 0xFE0⟩,  -- SLEW_LIMIT (R87)
    ⟨0x1800, 1, 0x08, 1, .blob 16, .cx, 255, 2, (zb 16), 0, 0, 0xFE0⟩,  -- STEP (R87)
    ⟨0x1800, 1, 0x09, 1, .ppm32, .ro, 0, 255, .num 0, (-2147483648), 2147483647, 0x0⟩,  -- PHASE_SLEW (R87)
    ⟨0x1800, 1, 0x0A, 1, .dur32, .rp, 0, 2, .num 1000, 100, 100000, 0xFE0⟩,  -- SYNC_LIMIT (R87)
    ⟨0x1800, 1, 0x0B, 1, .u64, .ro, 0, 255, .num 10737418240, 0, 18446744073709551615, 0x0⟩,  -- TB_INCR (R87)
    ⟨0x1800, 1, 0x0C, 1, .enum8, .ro, 0, 255, .num 1, 0, 255, 0x0⟩,  -- TICK_SOURCE (R87)
    ⟨0x1800, 1, 0x0D, 1, .u32, .ro, 1, 255, .num 0, 0, 4294967295, 0x0⟩,  -- OUTLIERS (R87)
    ⟨0x1800, 1, 0x0E, 1, .dur32, .ro, 0, 255, .num 4294967295, 0, 4294967295, 0x0⟩,  -- ALIGN_ERR_EST (R87)
    ⟨0x1800, 1, 0x0F, 1, .ppm32, .rp, 0, 2, .num 5, 1, 1000, 0xFE0⟩,  -- HOLDOVER_RATE (R87)
    ⟨0x1810, 1, 0x00, 1, .u8, .ro, 0, 255, .num 4, 0, 255, 0x0⟩,  -- HIGHEST_SUB (R27)
    ⟨0x1810, 1, 0x01, 1, .bool, .ro, 0, 255, .num 0, 0, 1, 0x0⟩,  -- REF_OK (R87)
    ⟨0x1810, 1, 0x02, 1, .ppm32, .ro, 0, 255, .num 0, (-2147483648), 2147483647, 0x0⟩,  -- REF_FREQ_ERR (R87)
    ⟨0x1810, 1, 0x03, 1, .bool, .ro, 0, 255, .num 0, 0, 1, 0x0⟩,  -- SLOW_OK (R87)
    ⟨0x1810, 1, 0x04, 1, .ppm32, .ro, 0, 255, .num 0, (-2147483648), 2147483647, 0x0⟩,  -- SLOW_FREQ_ERR (R87)
    ⟨0x1820, 1, 0x00, 1, .u8, .ro, 0, 255, .num 12, 0, 255, 0x0⟩,  -- HIGHEST_SUB (R27)
    ⟨0x1820, 1, 0x01, 1, .enum8, .rp, 0, 2, .num 1, 0, 2, 0xFE0⟩,  -- PTP_MODE (R88)
    ⟨0x1820, 1, 0x02, 1, .u8, .rp, 0, 2, .num 0, 0, 127, 0xFE0⟩,  -- PTP_DOMAIN (R88)
    ⟨0x1820, 1, 0x03, 1, .bits32, .rp, 0, 2, .num 3, 0, 3, 0xFE0⟩,  -- PTP_PORTS (R88)
    ⟨0x1820, 1, 0x04, 1, .enum8, .rp, 0, 2, .num 2, 0, 2, 0xFE0⟩,  -- PTP_TRANSPORT (R88)
    ⟨0x1820, 1, 0x05, 1, .i16, .rp, 0, 2, .num (-3), (-4), 1, 0xFE0⟩,  -- LOG_SYNC_INT (R88)
    ⟨0x1820, 1, 0x06, 1, .i16, .rp, 0, 2, .num 0, (-4), 4, 0xFE0⟩,  -- LOG_DELAY_INT (R88)
    ⟨0x1820, 1, 0x07, 1, .u8, .rp, 0, 2, .num 3, 2, 10, 0xFE0⟩,  -- ANNOUNCE_TIMEOUT (R88)
    ⟨0x1820, 1, 0x08, 1, .blob 10, .ro, 0, 255, (zb 10), 0, 0, 0x0⟩,  -- PARENT_ID (R88)
    ⟨0x1820, 1, 0x09, 1, .time64, .ro, 0, 255, .num 0, (-9223372036854775808), 9223372036854775807, 0x0⟩,  -- MEAN_PATH_DELAY (R88)
    ⟨0x1820, 1, 0x0A, 1, .time64, .rp, 0, 2, .num 0, (-1000000), 1000000, 0xFE0⟩,  -- ASYM_CORR (R88)
    ⟨0x1820, 1, 0x0B, 1, .u32, .ro, 1, 255, .num 0, 0, 4294967295, 0x0⟩,  -- PTP_DISCARDS (R88)
    ⟨0x1820, 1, 0x0C, 1, .i16, .ro, 0, 255, .num 37, (-32768), 32767, 0x0⟩,  -- UTC_OFFSET (R88)
    ⟨0x1830, 1, 0x00, 1, .u8, .ro, 0, 255, .num 8, 0, 255, 0x0⟩,  -- HIGHEST_SUB (R27)
    ⟨0x1830, 1, 0x01, 1, .bool, .rp, 0, 2, .num 0, 0, 1, 0xFE0⟩,  -- PPS_IN_EN (R88)
    ⟨0x1830, 1, 0x02, 1, .enum8, .rp, 0, 2, .num 0, 0, 1, 0xFE0⟩,  -- PPS_IN_EDGE (R88)
    ⟨0x1830, 1, 0x03, 1, .time64, .rp, 0, 2, .num 0, (-100000), 100000, 0xFE0⟩,  -- PPS_IN_COMP (R88)
    ⟨0x1830, 1, 0x04, 1, .time64, .ro, 0, 255, .num 0, (-9223372036854775808), 9223372036854775807, 0x0⟩,  -- PPS_IN_LAST (R88)
    ⟨0x1830, 1, 0x05, 1, .bool, .rp, 0, 2, .num 0, 0, 1, 0xFE0⟩   -- PPS_OUT_EN (R88)
  ]

/-- Entries 0x1800–0x18FF: time base. -/
def entries18b : List Entry :=
  [
    ⟨0x1830, 1, 0x06, 1, .dur32, .rp, 0, 2, .num 100000000, 1000, 500000000, 0xFE0⟩,  -- PPS_OUT_WIDTH (R88)
    ⟨0x1830, 1, 0x07, 1, .time64, .rp, 0, 2, .num 0, (-500000000), 500000000, 0xFE0⟩,  -- PPS_OUT_PHASE (R88)
    ⟨0x1830, 1, 0x08, 1, .enum8, .rp, 0, 2, .num 0, 0, 1, 0xFE0⟩   -- PPS_OUT_GATE (R88)
  ]

/-- Entries 0x1800–0x18FF: time base. -/
def entries18 : List Entry := entries18a ++ entries18b

/-- Entries 0x1900–0x19FF: timers. -/
def entries19 : List Entry :=
  [
    ⟨0x1900, 1, 0x00, 1, .u8, .ro, 0, 255, .num 6, 0, 255, 0x0⟩,  -- HIGHEST_SUB (R27)
    ⟨0x1900, 1, 0x01, 1, .u8, .ro, 0, 255, .num 24, 0, 255, 0x0⟩,  -- TIMERS (R536)
    ⟨0x1900, 1, 0x02, 1, .u8, .cx, 255, 1, .num 0, 0, 255, 0xFE0⟩,  -- GROUP_START (R536)
    ⟨0x1900, 1, 0x03, 1, .u8, .cx, 255, 1, .num 0, 0, 255, 0xFE0⟩,  -- GROUP_STOP (R536)
    ⟨0x1900, 1, 0x04, 1, .bits32, .ro, 0, 255, .num 0, 0, 4294967295, 0x0⟩,  -- RUNNING (R536)
    ⟨0x1900, 1, 0x05, 1, .bool, .ro, 0, 255, .num 0, 0, 1, 0x0⟩,  -- HALTED (R536)
    ⟨0x1900, 1, 0x06, 1, .blob 192, .ro, 0, 255, (zb 192), 0, 0, 0x0⟩,  -- COUNTS_ALL (R536)
    ⟨0x1910, 24, 0x00, 1, .u8, .ro, 0, 255, .num 20, 0, 255, 0x0⟩,  -- HIGHEST_SUB (R27)
    ⟨0x1910, 24, 0x01, 1, .enum8, .rw, 0, 1, .num 0, 0, 1, 0xFE0⟩,  -- MODE (R537)
    ⟨0x1910, 24, 0x02, 1, .enum8, .rw, 0, 1, .num 2, 0, 3, 0xFE0⟩,  -- CLK_SEL (R537)
    ⟨0x1910, 24, 0x03, 1, .enum8, .rw, 0, 1, .num 0, 0, 25, 0xFE0⟩,  -- GATE_SRC (R537)
    ⟨0x1910, 24, 0x04, 1, .enum8, .rw, 0, 1, .num 1, 0, 1, 0xFE0⟩,  -- GATE_LEVEL (R537)
    ⟨0x1910, 24, 0x05, 1, .u64, .rw, 0, 1, .num 0, 0, 281474976710655, 0xFE0⟩,  -- PERIOD (R537)
    ⟨0x1910, 24, 0x06, 1, .u64, .rw, 0, 1, .num 0, 0, 281474976710655, 0xFE0⟩,  -- PHASE (R537)
    ⟨0x1910, 24, 0x07, 1, .u8, .rw, 0, 1, .num 255, 0, 255, 0xFE0⟩,  -- GROUP (R537)
    ⟨0x1910, 24, 0x08, 1, .enum8, .rw, 0, 1, .num 0, 0, 25, 0xFE0⟩,  -- CAP_SRC (R537)
    ⟨0x1910, 24, 0x09, 1, .enum8, .rw, 0, 1, .num 0, 0, 2, 0xFE0⟩,  -- CAP_EDGE (R537)
    ⟨0x1910, 24, 0x0A, 1, .bool, .rw, 0, 1, .num 1, 0, 1, 0xFE0⟩,  -- HALT_FREEZE (R537)
    ⟨0x1910, 24, 0x0B, 1, .bool, .rw, 0, 1, .num 0, 0, 1, 0xFE0⟩,  -- EVT_EN (R537)
    ⟨0x1910, 24, 0x0C, 1, .u8, .cx, 255, 1, .num 0, 0, 255, 0xFE0⟩,  -- ARM (R537)
    ⟨0x1910, 24, 0x0D, 1, .u8, .cx, 255, 1, .num 0, 0, 255, 0xFE0⟩,  -- STOP (R537)
    ⟨0x1910, 24, 0x0E, 1, .bits32, .ro, 0, 255, .num 0, 0, 4294967295, 0x0⟩,  -- STATUS (R537)
    ⟨0x1910, 24, 0x0F, 1, .u8, .cx, 255, 1, .num 0, 0, 255, 0xFE0⟩,  -- CLEAR_FLAGS (R537)
    ⟨0x1910, 24, 0x10, 1, .u32, .ro, 0, 255, .num 0, 0, 4294967295, 0x0⟩,  -- COUNT_LO (R537)
    ⟨0x1910, 24, 0x11, 1, .u16, .ro, 0, 255, .num 0, 0, 65535, 0x0⟩,  -- COUNT_HI (R537)
    ⟨0x1910, 24, 0x12, 1, .u32, .ro, 0, 255, .num 0, 0, 4294967295, 0x0⟩,  -- CAP_LO (R537)
    ⟨0x1910, 24, 0x13, 1, .u16, .ro, 0, 255, .num 0, 0, 65535, 0x0⟩,  -- CAP_HI (R537)
    ⟨0x1910, 24, 0x14, 1, .u32, .ro, 1, 255, .num 0, 0, 4294967295, 0x0⟩   -- EXPIRIES (R537)
  ]

end Sys2Proof.Machine
end

