-- ==== Sys2Proof/Machine/Dictionary.lean ====
section
/-!
DEFINITION. The index range map (R62): the entries of the range an index lies in, and the entry a request names.
-/
namespace Sys2Proof.Machine

/-- The entry table of the range of an index, by its upper octet (R62). -/
def entryTable (hi : Nat) : List Entry :=
  match hi with
  | 0x00 => entries00
  | 0x01 => entries01
  | 0x02 => entries02
  | 0x10 => entries10
  | 0x11 => entries11
  | 0x12 => entries12
  | 0x13 => entries13
  | 0x18 => entries18
  | 0x19 => entries19
  | 0x20 => entries20
  | 0x21 => entries21
  | 0x22 => entries22
  | 0x23 => entries23
  | 0x30 => entries30
  | 0x31 => entries31
  | 0x40 => entries40
  | 0x41 => entries41
  | 0x44 => entries44
  | 0x48 => entries48
  | 0x50 => entries50
  | 0x51 => entries51
  | 0x60 => entries60
  | 0x61 => entries61
  | 0x70 => entries70
  | 0x80 => entries80
  | 0x81 => entries81
  | 0x82 => entries82
  | 0x90 => entries90
  | _ => []

/-- Whether a request for index `idx`, sub-index `sub` names this table row. -/
def Entry.covers (e : Entry) (idx sub : Nat) : Bool :=
  e.idx ≤ idx && idx < e.idx + e.cnt && e.sub ≤ sub && sub < e.sub + e.scnt

/-- The entry of an index and sub-index, none where the answer is NO_ENTRY (R62, R610). -/
def findEntry (idx sub : Nat) : Option Entry :=
  (entryTable (idx / 256)).find? (fun e => e.covers idx sub)

/-- The entry of a key (index * 256 + sub-index). -/
def entryOf (key : Nat) : Option Entry := findEntry (key / 256) (key % 256)

end Sys2Proof.Machine
end

