-- ==== Sys2Proof/Machine/Ops.lean ====
section
/-!
DEFINITION. The named operations on the state that the meanings share: the dictionary's values, time, events, error records,
queues, frame buffers, and commits to the persistent store.
-/
namespace Sys2Proof.Machine

/-! ## Values of the dictionary -/

/-- The value listed under a key. -/
def dictGet (k : Nat) : Dict → Option Val
  | [] => none
  | (a, v) :: t => if a = k then some v else dictGet k t

/-- The dictionary with `v` under key `k`, keys rising. -/
def dictPut (k : Nat) (v : Val) : Dict → Dict
  | [] => [(k, v)]
  | (a, w) :: t => if a = k then (k, v) :: t else if k < a then (k, v) :: (a, w) :: t else (a, w) :: dictPut k v t

/-- A value as a number (octets read little-endian, R2). -/
def valInt : Val → Int
  | .num n => n
  | .bytes b => (leNat b : Int)

/-- A value as a natural number. -/
def valNat (v : Val) : Nat := (valInt v).toNat

/-- A value as octets. -/
def valOctets : Val → List Byte
  | .num n => toLe 8 n.toNat
  | .bytes b => b

/-- The default of a key (R27); 0 where no entry has it. -/
def defaultOf (k : Nat) : Val := match entryOf k with | some e => e.dflt | none => .num 0

/-- A setting's value in force: what was written, else its default (R30). GPIO_OUT that was never written follows GPIO_INIT
(R577). -/
def setting (d : Dev) (k : Nat) : Val :=
  match dictGet k d.rw with
  | some v => v
  | none =>
    match dictGet k d.nv.rp with
    | some v => v
    | none =>
      if 0x904003 ≤ k ∧ k ≤ 0x905703 ∧ k % 256 = 3 then
        match dictGet (k - 1) d.nv.rp with | some v => v | none => .num 0
      else defaultOf k

/-- A numeric setting. -/
def num (d : Dev) (k : Nat) : Int := valInt (setting d k)
/-- A numeric setting that is not negative. -/
def numN (d : Dev) (k : Nat) : Nat := valNat (setting d k)
/-- A BOOL setting. -/
def flag (d : Dev) (k : Nat) : Bool := valNat (setting d k) ≠ 0
/-- A BLOB or STR setting. -/
def octets (d : Dev) (k : Nat) : List Byte := valOctets (setting d k)

/-- A setting of slot activity as it is in force: a write takes effect from the preparation of the next slot, and a slot already
prepared runs with the values latched for it (R57). -/
def slotVal (d : Dev) (k : Nat) : Val :=
  match dictGet k d.sched.keptNow with
  | some v => v
  | none => match dictGet k d.sched.kept with | some v => v | none => setting d k
def slotNum (d : Dev) (k : Nat) : Int := valInt (slotVal d k)
def slotN (d : Dev) (k : Nat) : Nat := valNat (slotVal d k)
def slotFlag (d : Dev) (k : Nat) : Bool := valNat (slotVal d k) ≠ 0

/-- An RPL or context setting as it is in force: a write takes effect at the next DIO (R298). -/
def rplVal (d : Dev) (k : Nat) : Val := match dictGet k d.fwd.rplKept with | some v => v | none => setting d k
def rplN (d : Dev) (k : Nat) : Nat := valNat (rplVal d k)

/-- The number listed in a counter list. -/
def cntGet (k : Nat) : Counters → Nat
  | [] => 0
  | (a, v) :: t => if a = k then v else cntGet k t

/-- A counter list with `v` under `k`, keys rising. -/
def cntPut (k v : Nat) : Counters → Counters
  | [] => [(k, v)]
  | (a, w) :: t => if a = k then (k, v) :: t else if k < a then (k, v) :: (a, w) :: t else (a, w) :: cntPut k v t

/-- A counter of an RO entry. -/
def counter (d : Dev) (k : Nat) : Nat := cntGet k d.cnt

/-- A counter raised by `n`; counters saturate at 0xFFFFFFFF. -/
def countBy (d : Dev) (k n : Nat) : Dev := { d with cnt := cntPut k (satAdd (cntGet k d.cnt) n) d.cnt }

/-- A counter raised by one. -/
def count (d : Dev) (k : Nat) : Dev := countBy d k 1

/-- A value stored as a setting of the RW and WO classes. -/
def putRw (d : Dev) (k : Nat) (v : Val) : Dev := { d with rw := dictPut k v d.rw }

/-- A value stored as a setting in the persistent store. -/
def putRp (d : Dev) (k : Nat) (v : Val) : Dev := { d with nv := { d.nv with rp := dictPut k v d.nv.rp } }

/-! ## Time -/

/-- The time base in nanoseconds, as a TIME64 (R69, R87). -/
def tbNs (d : Dev) : Int := (BitVec.extractLsb' 32 64 d.clk.tb).toInt

/-- The fraction below it, in units of 2⁻³² ns. -/
def tbFrac (d : Dev) : Nat := (BitVec.extractLsb' 0 32 d.clk.tb).toNat

/-- A timestamp: the time base with its fraction rounded to 1 ns (R78). -/
def stampNs (d : Dev) : Int := tbNs d + (if 0x80000000 ≤ tbFrac d then 1 else 0)

/-- `n` nanoseconds in the model's 1/64 ns. -/
def ns (n : Nat) : Nat := n * 64
/-- `n` microseconds. -/
def us (n : Nat) : Nat := n * 64000
/-- `n` milliseconds. -/
def ms (n : Nat) : Nat := n * 64000000
/-- `n` seconds. -/
def sec (n : Nat) : Nat := n * 64000000000

/-- Real time gone by since `t`. -/
def since (d : Dev) (t : Nat) : Nat := d.clk.up - t

/-- A free value is taken: the counter that the free constants of Config are applied to moves on. -/
def drawn (d : Dev) : Dev := { d with free := d.free + 1 }

/-- Something leaves the device. -/
def emit (d : Dev) (o : Out) : Dev := { d with out := d.out ++ [o] }

/-! ## Modes -/

/-- The number of a mode (R450). -/
def Mode.num : Mode → Nat
  | .m0 => 0 | .m1 => 1 | .m2 => 2 | .m3 => 3 | .m4 => 4 | .m5 => 5 | .m6 => 6 | .m7 => 7 | .m8 => 8 | .m9 => 9 | .m10 => 10 | .m11 => 11

/-- M1, M2 and M3 (R450). -/
def Mode.asleep : Mode → Bool
  | .m1 => true | .m2 => true | .m3 => true | _ => false

/-- The running modes M6 to M9. -/
def Mode.running : Mode → Bool
  | .m6 => true | .m7 => true | .m8 => true | .m9 => true | _ => false

/-- Whether D`n` is powered (R459, DOMAINS_ON). -/
def domainOn (d : Dev) (n : Nat) : Bool := d.pwr.domains.testBit n

/-- QDL is served: in M5 to M11, from step 14 of the start (R32, R544). -/
def qdlServed (d : Dev) : Bool := d.start.served

/-- The runtime takes what its queues hold: QDL is served and no Hoist keeps the runtime away (R24, R374, R512; log 154). -/
def runtimeUp (d : Dev) : Bool := qdlServed d && d.pwr.mode ≠ .m9

/-! ## Queues (R252-R261) -/

/-- Q`n` is queue `n`, P`n` queue 48 + `n` (R252). -/
def pq (n : Nat) : Nat := 48 + n

/-- The slots of a circular queue (R252). -/
def slotsOf (q : Nat) : Nat :=
  match q with
  | 48 => 256 | 49 => 256 | 50 => 1024 | 51 => 64 | 52 => 256 | 53 => 1024 | 54 => 256 | 55 => 64
  | _ => 512

/-- Words of a packet: 8 in P1, 4 elsewhere (R252, R253). -/
def wordsOf (q : Nat) : Nat := if q = 49 then 8 else 4

/-- Circular queues are P0 to P7 (R252). -/
def circular (q : Nat) : Bool := 48 ≤ q

/-- Queues that the application cores consume (R13, R24). -/
def coreQueue (q : Nat) : Bool := q = 4 || q = 5 || (38 ≤ q && q ≤ 47) || (49 ≤ q && q ≤ 55)

/-- The committed packets not yet popped, oldest first. -/
def Queue.packets (x : Queue) : List Desc := x.drain ++ x.fill

/-- COUNT (R259). -/
def Queue.count (x : Queue) : Nat := x.drain.length + x.fill.length

/-- The banks swap when the drain bank is empty and the fill bank holds a committed packet (R256). -/
def Queue.swap (x : Queue) : Queue :=
  if x.drain.isEmpty then { x with drain := x.fill, fill := [] } else x

/-- Whether a push begun now finds space (R254, R256, R257, R258, R261). -/
def Queue.space (q : Nat) (x : Queue) : Bool :=
  x.state = .openQ && (if circular q then x.drain.length < slotsOf q else x.fill.length < 256)

/-- The queue with a packet committed (R254, R256, R257). -/
def Queue.commit (q : Nat) (x : Queue) (p : Desc) : Queue :=
  if circular q then { x with drain := x.drain ++ [p], wr := (x.wr + 1) % (2 * slotsOf q) }
  else ({ x with fill := x.fill ++ [p] } : Queue).swap

/-- The queue with its oldest visible packet popped (R255-R257). -/
def Queue.popped (q : Nat) (x : Queue) : Queue :=
  if circular q then { x with drain := x.drain.tail, rd := (x.rd + 1) % (2 * slotsOf q), reading := wordsOf q - 1 }
  else ({ x with drain := x.drain.tail, reading := wordsOf q - 1 } : Queue).swap

/-- Queue `q`. -/
def queue (d : Dev) (q : Nat) : Queue := nth d.queues q {}

/-- Queue `q` changed. -/
def updQueue (d : Dev) (q : Nat) (f : Queue → Queue) : Dev := { d with queues := upd d.queues q f {} }

/-- Some queue of the application cores holds a packet (R24). -/
def coreWork (d : Dev) : Bool := (upTo 56).any (fun q => coreQueue q && 0 < (queue d q).count)

/-- In M6 the application cores are powered for as long as a queue they consume is non-empty (R24). -/
def gateCores (d : Dev) : Dev :=
  if d.pwr.mode = .m6 then { d with pwr := { d.pwr with domains := putBit d.pwr.domains 3 (coreWork d) } } else d

/-- A push that a queue refuses is counted (R266). -/
def refuse (d : Dev) (q : Nat) : Dev := updQueue d q (fun x => { x with refused := satAdd x.refused 1 })

/-- The granule of a descriptor's BUF. -/
def granule (d : Dev) (g : Nat) : Option Granule := findKey Granule.index g d.store.granules

/-- A granule changed by its owner (R10). -/
def updGranule (d : Dev) (g : Nat) (f : Granule → Granule) : Dev :=
  { d with store := { d.store with granules := modKey Granule.index g f d.store.granules } }

/-- SCRATCH of a granule (R240): a free value that changes whenever ownership passes (log 126). -/
def Granule.scratch (g : Granule) : BitVec 128 := Config.scratch g.index g.time g.passes

/-- Ownership of a buffer passes with a committed push (R10, R240). -/
def passBuf (d : Dev) : Option Nat → Dev
  | some g => updGranule d g (fun x => { x with passes := x.passes + 1 })
  | none => d

/-- A push: the device, and whether it was accepted; the buffer's ownership passes with it (R10). A refused push is counted (R254, R261, R266). -/
def push (d : Dev) (q : Nat) (p : Desc) : Dev × Bool :=
  if (queue d q).space q then (gateCores (updQueue (passBuf d p.buf) q (fun x => x.commit q p)), true)
  else (refuse d q, false)

/-- A push whose refusal needs no more than the count. -/
def push' (d : Dev) (q : Nat) (p : Desc) : Dev := (push d q p).1

/-- The consumer's next packet: the one a QUEUE_POP already handed over, else the oldest visible one (R255). -/
def front (d : Dev) (q : Nat) : Option Desc :=
  match (queue d q).taken with
  | some p => some p
  | none => if (queue d q).state = .openQ then (queue d q).drain.head? else none

/-- The device after the consumer has taken that packet. -/
def take1 (d : Dev) (q : Nat) : Dev :=
  match (queue d q).taken with
  | some _ => updQueue d q (fun x => { x with taken := none })
  | none => gateCores (updQueue d q (fun x => x.popped q))

/-! ## Events (R539-R544) -/

/-- Steps 1 to 3 of R539: COUNT, LAST_TIME and LAST_DATA, and the pending bit. -/
def noteEvent (d : Dev) (e data : Nat) (time : Int) : Dev :=
  { d with ev := { d.ev with
      recs := upd d.ev.recs e (fun x => { count := satAdd x.count 1, lastTime := time, lastData := data }) {}
      pending := setBit d.ev.pending e } }

/-- Step 4 of R539: EVENT_SEQ, and the notification descriptor of R540 pushed to P5. -/
def notifyP5 (d : Dev) (e data flags : Nat) (time : Int) : Dev :=
  let sq := (d.ev.seq + 1) % 4294967296
  let d1 : Dev := { d with ev := { d.ev with seq := sq } }
  let r := push d1 (pq 5) ⟨0x10, 0, 0, none, .event e flags data sq time⟩
  if r.2 then r.1 else count { r.1 with ev := { r.1.ev with missed := r.1.ev.missed ++ [e] } } 0x800007

/-- Event `e` raised at time `time` with DATA `data` (R539); while QDL is not served it is held in D0 instead of step 4 (R544). -/
def raiseAt (d : Dev) (e data : Nat) (time : Int) : Dev :=
  let d1 := noteEvent d e data time
  if qdlServed d then notifyP5 d1 e data 0 time
  else if d.ev.held.length < 32 then { d1 with ev := { d1.ev with held := d1.ev.held ++ [(e, data, time)] } }
  else count d1 0x800008

/-- Event `e` raised now, stamped as R78 stamps an event. -/
def raise (d : Dev) (e data : Nat) : Dev := raiseAt d e data (stampNs d)

/-- The rate record of a key. -/
def rateOf (d : Dev) (key : Nat) : RateRec := (findKey RateRec.key key d.ev.rates).getD ⟨key, 0, none⟩

/-- An occurrence of weight `n` of event `e`, instance `i`, raised at most once per `period`: DATA is `f` of what has
gathered since the last raise. A suppressed occurrence is gathered and changes nothing else (R539). -/
def raiseRate (d : Dev) (e i n period : Nat) (f : Nat → Nat) : Dev :=
  let key := e * 65536 + i
  let r := rateOf d key
  let acc := r.acc + n
  let due := match r.last with | none => true | some t => period ≤ since d t
  if due then
    raise { d with ev := { d.ev with rates := putKey RateRec.key ⟨key, 0, some d.clk.up⟩ d.ev.rates } } e (f acc)
  else { d with ev := { d.ev with rates := putKey RateRec.key ⟨key, acc, r.last⟩ d.ev.rates } }

/-- EVT_N is driven low (R541): a pending event has EVT_N_EN set, and the device is not in M0 to M3. -/
def evtN (d : Dev) : Bool :=
  !(d.pwr.mode = .m0 || d.pwr.mode.asleep) && (upTo 128).any (fun e => d.ev.pending.testBit e && flag d ((0x8080 + e) * 256 + 6))

/-! ## Error records (R545-R547) -/

/-- An error record committed to P1: RSEQ is assigned at commit; one that P1 refuses is lost and counted (R545, R552). -/
def errRecord (d : Dev) (r : ErrRec) : Dev :=
  let r1 : ErrRec := { r with rseq := d.err.rseq + 1, time := tbNs d }
  let x := push d (pq 1) ⟨0x0C, r.severity, 56, r.buf, .error r1⟩
  if x.2 then count { x.1 with err := { x.1.err with rseq := d.err.rseq + 1 } } 0x810001
  else raiseRate (count x.1 0x810002) 125 0 1 (sec 1) id

/-- An error record of unit `u`, instance `i`, with CODE `c`, severity, and the code's arguments. -/
def errBy (d : Dev) (sev u i c : Nat) (buf : Option Nat) (addr : Option Nat) (a0 a1 nest : Nat) : Dev :=
  errRecord d { severity := sev, buf := buf, time := 0, unit := u, inst := i, code := c, nest := nest, addr := addr, arg0 := a0, arg1 := a1, rseq := 0 }

/-! ## Frame buffers (R239-R247) -/

/-- Granules of the frame buffer region (R239). -/
def granuleTotal (d : Dev) : Nat := d.store.fbUnits * 32768

/-- FREE_GRANULES (R264). -/
def freeGranules (d : Dev) : Nat := granuleTotal d - d.store.granules.length - d.store.retired.length

/-- Whether granule `g` is in the free pool. -/
def granuleFree (d : Dev) (g : Nat) : Bool :=
  g < granuleTotal d && d.store.granules.all (fun x => x.index ≠ g) && d.store.retired.all (fun x => x.1 ≠ g)

/-- The first number from `start` on, modulo `m`, that passes `ok`, tried `fuel` times. -/
def firstFrom (ok : Nat → Bool) (m : Nat) : Nat → Nat → Option Nat
  | 0, _ => none
  | fuel + 1, k => if ok (k % m) then some (k % m) else firstFrom ok m fuel (k + 1)

/-- A free granule, in no stated order (R241): the first free one from a free starting place. -/
def pickGranule (d : Dev) : Option Nat :=
  firstFrom (granuleFree d) (granuleTotal d) (d.store.granules.length + d.store.retired.length + 1) (Config.granulePick d.free)

/-- FREE_GRANULES at or below RADIO_RESERVE: the granules left go only to the lane engine, ALLOC_UNIT 1 (R241). -/
def poolClosed (d : Dev) (unit : Nat) : Bool :=
  if unit = 1 then freeGranules d = 0 else freeGranules d ≤ numN d 0x400005

/-- A granule allocated by a unit with its payload (R240, R241), or the failure counted and event 60 raised. -/
def alloc (d : Dev) (unit len : Nat) (body : Payload) : Dev × Option Nat :=
  if poolClosed d unit then (raiseRate (count d 0x40000A) 60 0 1 (sec 1) (fun _ => unit), none)
  else
    match pickGranule d with
    | none => (raiseRate (count d 0x40000A) 60 0 1 (sec 1) (fun _ => unit), none)
    | some g =>
      let x : Granule := { index := g, refs := 1, unit := unit, off := 32, len := len, time := tbNs d, body := body }
      let d1 := drawn { d with store := { d.store with granules := d.store.granules ++ [x], freeMin := Nat.min d.store.freeMin (freeGranules d - 1) } }
      (d1, some g)

/-- A poisoned granule leaves use: it is retired until the scrub tests it, and event 58 is raised (R242, R247). -/
def retire (d : Dev) (g : Nat) : Dev :=
  let d1 : Dev := { d with store := { d.store with granules := dropKey Granule.index g d.store.granules, retired := d.store.retired ++ [(g, false)] } }
  raise { d1 with store := { d1.store with freeMin := Nat.min d1.store.freeMin (freeGranules d1) } } 58 g

/-- One reference dropped (R11, R242): the decrement that reaches zero returns the granule, or retires it if poisoned. -/
def dropRef (d : Dev) (g : Nat) : Dev :=
  match granule d g with
  | none => d
  | some x =>
    if 1 < x.refs then updGranule d g (fun y => { y with refs := y.refs - 1 })
    else if x.poison then retire d g
    else { d with store := { d.store with granules := dropKey Granule.index g d.store.granules } }

/-- The reference of a descriptor's buffer dropped. -/
def dropBuf (d : Dev) (b : Option Nat) : Dev := match b with | some g => dropRef d g | none => d

/-- One more reference to a granule, whose count is at most 255 (R11, R240). -/
def addRef (d : Dev) (g : Nat) : Dev := updGranule d g (fun y => { y with refs := Nat.min 255 (y.refs + 1) })

/-- Store address of the first octet of granule `g` (R239). -/
def granuleAddr (g : Nat) : Nat := 0x78000000 + 2048 * g

/-- Base of region `r` of the store in force, and the region that holds an address (R236, R237). -/
def regionBase (d : Dev) (r : Nat) : Nat :=
  match r with
  | 0 => 0 | 1 => 0x04000000 | 2 => 0x24000000 | 3 => 0x34000000 | 4 => 0x38000000 | 5 => 0x78000000
  | 6 => 0x78000000 + d.store.fbUnits * 67108864
  | 7 => 0x78000000 + (d.store.fbUnits + d.store.repoUnits) * 67108864
  | _ => 0x78000000 + (d.store.fbUnits + d.store.repoUnits + d.store.telemUnits) * 67108864
def regionOf (d : Dev) (a : Nat) : Nat := ((upTo 9).filter (fun r => regionBase d r ≤ a)).length - 1

/-! ## The persistent store (R490-R501) -/

/-- The capacitor voltage times 1,000, in mV: the lowest of the last 8 samples by HOLDUP_RATIO (R499). -/
def holdupVx (d : Dev) : Nat := (d.nv.sense.foldl Nat.min (if d.nv.sense.isEmpty then 0 else 1000000)) * numN d 0x132002

/-- Twice the available energy in µJ, times 10¹² (R499): CAP × (V² − VMIN²), zero when V is at or below VMIN. -/
def holdupE2 (d : Dev) : Nat := numN d 0x132001 * (holdupVx d * holdupVx d - (numN d 0x132003 * 1000) * (numN d 0x132003 * 1000))

/-- HOLDUP_AVAIL, mJ, rounded toward zero (R499). -/
def holdupAvail (d : Dev) : Nat := holdupE2 d / 2000000000000000

/-- The hold-up check of an action that needs `need` µJ (R500, R501): whether it passes, and the device after it. -/
def holdupCheck (d : Dev) (need : Nat) : Dev × Bool :=
  let d1 : Dev := { d with nv := { d.nv with lastNeed := need } }
  if numN d 0x132001 = 0 then (count d1 0x132008, true)
  else if holdupE2 d < need * 2000000000000 then (count d1 0x132006, false)
  else (d1, true)

/-- The energy a commit of `items` items and `bytes` octets needs, µJ (R500). -/
def commitNeed (d : Dev) (items bytes : Nat) : Nat :=
  items * numN d 0x11100F + ceilDiv bytes 1024 * numN d 0x111010

/-- Logical pages (R490): journal 0-7, Canton 8, key table 9-14, settings 15-78, shadow 79-142, gate lists 143-148,
counters 149-152. -/
def settingPage (key : Nat) : Nat := 15 + Config.settingsPage key % 64
def cantonPage : Nat := 8
def keyPage (slot : Nat) : Nat := 9 + slot % 6
def gatePage (port : Nat) : Nat := 143 + 3 * port
def counterPage : Nat := 149

/-- The physical page of a logical page (R490). -/
def physPage (d : Dev) (l : Nat) : Nat := nth d.nv.pageMap l 0

/-- The write counter of a physical page (R495, R497). -/
def pageWrites (d : Dev) (p : Nat) : Nat := cntGet p d.nv.writes

/-- Spare physical pages: neither directory, mapped, nor retired (R490, R502). -/
def spares (d : Dev) : List Nat :=
  (upTo 256).filter (fun p => 2 ≤ p && !d.nv.pageMap.contains p && !d.nv.retired.contains p)

/-- The least-worn spare (R495, R496). -/
def leastWorn (d : Dev) : Option Nat :=
  (spares d).foldl (fun b p => match b with | none => some p | some x => if pageWrites d p < pageWrites d x then some p else some x) none

/-- A directory copy written, the two taking turns (R490, R494; log 32). -/
def writeDirectory (d : Dev) : Dev :=
  let p := (d.nv.dirSeq + 1) % 2
  { d with nv := { d.nv with dirSeq := d.nv.dirSeq + 1, writes := cntPut p (pageWrites d p + 1) d.nv.writes } }

/-- Logical page `l` retired (R496): moved to the least-worn spare, or marked worn where no spare remains. -/
def retirePage (d : Dev) (l : Nat) : Dev :=
  match leastWorn d with
  | some sp => count (writeDirectory { d with nv := { d.nv with
      retired := d.nv.retired ++ [physPage d l], pageMap := upd d.nv.pageMap l (fun _ => sp) 0
      writes := cntPut sp (pageWrites d sp + 1) d.nv.writes } }) 0x130003
  | none => { d with nv := { d.nv with worn := if d.nv.worn.contains l then d.nv.worn else d.nv.worn ++ [l] } }

/-- One program operation on logical page `l` (R495), which retires it at 99,000,000 (R496). -/
def programPage (d : Dev) (l : Nat) : Dev :=
  let p := physPage d l
  let w := pageWrites d p + 1
  let d1 : Dev := { d with nv := { d.nv with writes := cntPut p w d.nv.writes } }
  if 99000000 ≤ w then retirePage d1 l else d1

/-- A page that a commit writes is marked worn, or a page of the journal is, or a copy of the directory, whose place no spare can take,
has reached its limit (R490, R493, R496; log 162). -/
def pagesWorn (d : Dev) (pages : List Nat) : Bool :=
  pages.any (fun l => d.nv.worn.contains l) || d.nv.worn.any (fun l => l < 8) || (upTo 2).any (fun p => 99000000 ≤ pageWrites d p)

/-- A commit of `items` items, `bytes` octets in all, to the given logical pages (R492, R493): its status, and the device
with the pages programmed (journal and marker, then each home page). The caller puts the items in force when it is `ok`. -/
def commitNv (d : Dev) (items bytes : Nat) (pages : List Nat) : Dev × Status :=
  if d.nv.unreadable then (count d 0x130005, .nvWorn)
  else if d.pwr.entering then (d, .wrongMode)
  else
    let h := holdupCheck d (commitNeed d items bytes)
    if !h.2 then (h.1, .holdupLow)
    else if pagesWorn d pages then (count h.1 0x130005, .nvWorn)
    else
      let j := Config.journalPage d.free % 8
      (count (pages.foldl programPage (programPage (programPage (drawn h.1) j) j)) 0x130004, .ok)

/-! ## Mode changes -/

/-- A change of MODE, which raises event 0 (R451). -/
def setMode (d : Dev) (m : Mode) : Dev :=
  if d.pwr.mode = m then d
  else raise { d with pwr := { d.pwr with mode := m } } 0 (d.pwr.mode.num * 256 + m.num)

end Sys2Proof.Machine
end

