-- ==== Sys2Proof/Machine/Operands.lean ====
section
/-!
DEFINITION. The operand forms: how a value's octets are read and written by its type, the checks that R29 gives each type,
and the fields of the arguments of EXEC requests.
-/
namespace Sys2Proof.Machine

/-- Whether octets are valid UTF-8; the fuel is the length (R29: invalid UTF-8 is rejected). -/
def utf8Ok : Nat → List Byte → Bool
  | 0, _ => true
  | _, [] => true
  | n + 1, a :: t =>
    let cont (b : Byte) : Bool := b.toNat / 64 = 2
    let x := a.toNat
    if x < 0x80 then utf8Ok n t
    else
      match t with
      | b :: t1 =>
        if 0xC2 ≤ x ∧ x ≤ 0xDF then cont b && utf8Ok n t1
        else
          match t1 with
          | c :: t2 =>
            if 0xE0 ≤ x ∧ x ≤ 0xEF then
              cont b && cont c && (x ≠ 0xE0 || 0xA0 ≤ b.toNat) && (x ≠ 0xED || b.toNat ≤ 0x9F) && utf8Ok n t2
            else
              match t2 with
              | e :: t3 =>
                0xF0 ≤ x && x ≤ 0xF4 && cont b && cont c && cont e && (x ≠ 0xF0 || 0x90 ≤ b.toNat)
                  && (x ≠ 0xF4 || b.toNat ≤ 0x8F) && utf8Ok n t3
              | [] => false
          | [] => false
      | [] => false

/-- The value that octets of a type spell (R2, R29). -/
def decodeVal (ty : Ty) (b : List Byte) : Val :=
  match ty with
  | .str _ => .bytes b
  | .blob _ => .bytes b
  | .addr64 => .bytes b
  | _ => if ty.signed then .num (signedOf ty.size (leNat b)) else .num (leNat b)

/-- The octets of a value of a type (R2, R29). -/
def encodeVal (ty : Ty) (v : Val) : List Byte :=
  match v with
  | .bytes b => b
  | .num n => toLe ty.size (n % (256 ^ ty.size : Nat)).toNat

/-- Step 7 of R610: the type code and the length match the entry (R29). A STR's length never gives TYPE_MISMATCH. -/
def typeMatches (e : Entry) (code : Nat) (b : List Byte) : Bool :=
  e.ty.code = code && (match e.ty with | .str _ => true | t => b.length = t.size)

/-- The reserved bits of a BITS32 entry lie outside its maximum read as a mask (R4). -/
def maskOk (mask v : Nat) : Bool := v &&& mask = v

/-- The first part of step 8 of R610: the write check of the type (R4, R29). -/
def valueOk (e : Entry) (v : Val) : Bool :=
  match e.ty with
  | .str n => (valOctets v).length ≤ n && utf8Ok (valOctets v).length (valOctets v)
  | .blob _ => true
  | .addr64 => true
  | .addr16 => true
  | .bits32 => maskOk e.hi.toNat (valNat v)
  | _ => e.lo ≤ valInt v && valInt v ≤ e.hi

/-- A BOOL octet of an argument: false, true, or no BOOL (R29). -/
def argBool (b : Byte) : Option Bool := if b = 0 then some false else if b = 1 then some true else none

/-- An EXEC argument of exactly `n` octets. -/
def argLen (arg : List Byte) (n : Nat) : Bool := arg.length = n

/-- META of an entry (R33), with the default, minimum and maximum that hold now; of a SIZE above 65,535 the low 16 bits (log 120). -/
def metaOctets (e : Entry) (dflt lo hi : Val) : List Byte :=
  [BitVec.ofNat 8 e.ty.code, BitVec.ofNat 8 e.acc.code, BitVec.ofNat 8 e.rl, BitVec.ofNat 8 e.wl]
    ++ toLe 2 e.modes ++ toLe 2 e.ty.size
    ++ (if e.ty.numeric then encodeVal e.ty dflt ++ encodeVal e.ty lo ++ encodeVal e.ty hi else [])

end Sys2Proof.Machine
end

