-- ==== Sys2Proof/Machine/Serve.lean ====
section
/-!
DEFINITION. How a request of a session, or a relayed request, is served (R30-R44, R50, R51, R610): what every EXEC command,
WRITE and READ of the table goes through before its own meaning.
-/
namespace Sys2Proof.Machine

/-- What serving a request gives: the device, the header STATUS, the response's body, and what is done after the response
has been sent. -/
structure Served where
  d : Dev
  status : Status
  body : Body
  after : Dev → Dev := id
  /-- The response is sent now; a RELAY is answered later (R60). -/
  reply : Bool := true

/-- The ranges the boot runtime serves (R485). -/
def bootServes (idx : Nat) : Bool :=
  idx ≤ 0x02FF || (0x1000 ≤ idx && idx ≤ 0x10FF) || (0x1200 ≤ idx && idx ≤ 0x13FF) || idx = 0x2000
    || (0x5000 ≤ idx && idx ≤ 0x50FF) || (0x6000 ≤ idx && idx ≤ 0x60FF) || idx = 0x7000
    || (0x7020 ≤ idx && idx ≤ 0x70BF) || (0x9000 ≤ idx && idx ≤ 0x90FF)

/-- The boot runtime serves 0x2000.01 and 0x7000.02 only, of those indices (R485). -/
def bootServesSub (idx sub : Nat) : Bool :=
  bootServes idx && (idx ≠ 0x2000 || sub = 1) && (idx ≠ 0x7000 || sub = 2)

/-- The entry a request names: step 1 of R610. -/
def servedEntry (d : Dev) (idx sub : Nat) : Option Entry :=
  if d.start.bootRuntime && !bootServesSub idx sub then none else findEntry idx sub

/-- The mode permits writing or executing the entry: step 5 of R610 (R32). -/
def modeAllows (d : Dev) (e : Entry) : Bool := e.modes.testBit d.pwr.mode.num

/-- Steps 1, 2, 3, 5 and 6 of R610 for an EXEC of the command at `key` at privilege level `level`. -/
def execCheck (d : Dev) (level key : Nat) : Status :=
  match servedEntry d (key / 256) (key % 256) with
  | none => .noEntry
  | some e =>
    if e.acc ≠ .cx then .accessDenied
    else if level < e.wl then .accessDenied
    else if !modeAllows d e then .wrongMode
    else if d.qdl.running.contains key then .busy
    else .ok

/-- A command's own meaning: from the argument to the device, STATUS and RESULT (R50). -/
abbrev Core := List Byte → Dev → Dev × Status × List Byte

/-- MODE of the response: 1 where the command was accepted for later completion (R50); FW_WRITE and CAMPAIGN_ASSIGN are so even where they
fail at once (R418, R509). -/
def respMode (d : Dev) (key : Nat) (st : Status) : Nat :=
  if st = .ok ∧ (d.qdl.running.contains key ∨ key = 0x600002 ∨ key = 0x61000F) then 1 else 0

/-- An EXEC at a privilege level: the checks, then the command (R50, R51, R610). -/
def runExec (level key : Nat) (arg : List Byte) (core : Core) (d : Dev) : Served :=
  match execCheck d level key with
  | .ok =>
    let r := core arg d
    { d := r.1, status := r.2.1, body := .exec key (respMode r.1 key r.2.1) r.2.2 }
  | st => { d := d, status := st, body := .exec key 0 [] }

/-- The session of a request. -/
def session (d : Dev) (id : Nat) : Option Session := findKey Session.id id d.qdl.sessions

/-- A session changed. -/
def updSession (d : Dev) (id : Nat) (f : Session → Session) : Dev :=
  { d with qdl := { d.qdl with sessions := modKey Session.id id f d.qdl.sessions } }

/-- A session ended, with its subscriptions, latches and requests (R42). -/
def endSession (d : Dev) (id : Nat) : Dev :=
  { d with qdl := { d.qdl with
      sessions := dropKey Session.id id d.qdl.sessions
      held := d.qdl.held.filter (fun h => h.1.session ≠ id)
      relays := d.qdl.relays.filter (fun x => x.session ≠ some id) } }

/-- The kept response of a SEQ (R43). -/
def keptOf (x : Session) (seq : Nat) : Option (Nat × Status × Body) := x.kept.find? (fun k => k.1 = seq)

/-- The SEQ is not above every SEQ executed so far (R43). -/
def seqStale (x : Session) (seq : Nat) : Bool := match x.topSeq with | some t => decide (seq ≤ t) | none => false

/-! ## Transports (R35, R38, R54, R568-R571) -/

/-- Octets of a value in a READ item or a NOTIFY (R29, R45). -/
def valLen (key : Nat) (v : Val) : Nat :=
  match v with
  | .bytes b => b.length
  | .num _ => match entryOf key with | some e => e.ty.size | none => 0

/-- LEN of a response's body (R39, R45, R50, R52, R55, R59). -/
def bodyLen : Body → Nat
  | .empty => 0
  | .read l => 2 + sumNat (l.map (fun x => 8 + (if x.2.2.1 = .ok then valLen x.1 x.2.2.2 else 0)))
  | .write l => 2 + 6 * l.length
  | .exec _ _ r => 6 + r.length
  | .sub _ => 1
  | .bulkRead _ b => 6 + b.length
  | .bulkWrite _ _ => 6
  | .challenge _ signed => if signed.isSome then 148 else 4
  | .level _ => 1
  | .relay _ _ b => 20 + bodyLen b

/-- Length of a PDU the device sends: header, body and tag (R35). -/
def pduLen (auth : Bool) (o : Out) : Nat :=
  16 + (match o with
    | .qdl _ _ _ b => bodyLen b
    | .notifyEntry _ _ _ k _ v => 9 + valLen k v
    | .notifyEvent _ _ _ _ _ _ => 14
    | _ => 0) + (if auth then 16 else 0)

/-- The MSPI outbound buffer of 16 KiB has room for a PDU, and none waits before it (R570, R571). -/
def mspiRoom (d : Dev) (n : Nat) : Bool := d.ifs.mspiWait.isEmpty && sumNat (d.ifs.mspiOut.map OutPdu.len) + n ≤ 16384

/-- A PDU under a session key (R37): the direction octet of the nonce is 1 in a response and 2 in a NOTIFY; the device's CLOSE has no SEQ of
a request and goes as a response under SEQ 0 (log 119). -/
def sealOut (k : Option SessKey) (o : Out) : Out :=
  match k, o with
  | some key, .qdl id seq _ _ => .sealed ⟨key, id, seq, 1⟩ o
  | some key, .notifyEntry id seq _ _ _ _ => .sealed ⟨key, id, seq, 2⟩ o
  | some key, .notifyEvent id seq _ _ _ _ => .sealed ⟨key, id, seq, 2⟩ o
  | some key, .qdlClose id => .sealed ⟨key, id, 0, 1⟩ o
  | _, _ => o

/-- A PDU sent by a transport, under a session key or (none) in clear: over UDP it leaves by the port of the host's PDU to its source
(R38, R567), and is lost while the link is down; MUART waits for MUART_CTS_N under FLOW (R568), MSPI for the host's READ (R570), where a
response that finds the buffer full waits (R571). A NOTIFY that the transport cannot take is dropped (R54). -/
def sendOn (d : Dev) (t : Transport) (k : Option SessKey) (notify : Bool) (o : Out) : Dev :=
  let x : OutPdu := ⟨pduLen k.isSome o, sealOut k o⟩
  match t with
  | .udp prt v4 addr port => if (nth d.shp.ports prt.val {}).up then emit d (.udp prt v4 addr port x.pdu) else d
  | .muart =>
    if !(flag d 0x902002 && !d.ifs.cts) then emit d x.pdu
    else if notify then d
    else { d with ifs := { d.ifs with muartOut := d.ifs.muartOut ++ [x] } }
  | .mspi =>
    if mspiRoom d x.len then { d with ifs := { d.ifs with mspiOut := d.ifs.mspiOut ++ [x] } }
    else if notify then d
    else { d with ifs := { d.ifs with mspiWait := d.ifs.mspiWait ++ [x] } }

/-- The key that protects a session's PDUs, none where it was opened without AUTH (R37, R41). -/
def sessKey (x : Session) : Option SessKey := if x.auth then some x.key else none

/-- A response PDU to a session's request, to where the request came from (R38); in clear where there is no such session. -/
def sendTo (d : Dev) (id : Nat) (via : Transport) (o : Out) : Dev :=
  sendOn d via (match session d id with | some x => sessKey x | none => none) false o

/-- A NOTIFY or a CLOSE of the device: to where the session was opened from (log 119). -/
def tell (d : Dev) (id : Nat) (o : Out) : Dev :=
  match session d id with
  | some x => sendOn d x.transport (sessKey x) true o
  | none => d

/-- The response sent to where the request came from, and kept among the last 16 (R43). -/
def respond (d : Dev) (id seq : Nat) (via : Transport) (st : Status) (b : Body) : Dev :=
  sendTo (updSession d id (fun x => { x with kept := lastN 16 (x.kept ++ [(seq, st, b)]), topSeq := some seq })) id via (.qdl id seq st b)

/-- The notification counters of the sessions advance by each subscription to an event that P5 refused (R54). -/
def foldMissed (d : Dev) : Dev :=
  { d with
    ev := { d.ev with missed := [] }
    qdl := { d.qdl with sessions := d.qdl.sessions.map (fun x =>
      { x with notifySeq := (x.notifySeq + sumNat (d.ev.missed.map (fun e => (x.subs.filter (fun s => s.event && s.key = e)).length))) % 4294967296 }) } }

/-- The next NOTIFY of a session is numbered, whether or not it can be sent (R54). -/
def numbered (d : Dev) (id : Nat) : Dev := updSession d id (fun y => { y with notifySeq := (y.notifySeq + 1) % 4294967296 })

/-! ## Arrival (R35-R38) -/

/-- A PDU over UDP is for the device: on E0 or E1 with its link up, to UDP_PORT as it was at the last reset, at a management address in use
(R38, R64, R567); a serial transport carries nothing else. -/
def toManagement (d : Dev) (h : PduHead) : Bool :=
  match h.via with
  | .udp prt v4 _ _ =>
    (nth d.shp.ports prt.val {}).up && h.dport = d.qdl.udpPort
      && (if v4 then d.ifs.addr4 ≠ 0 && h.dst = d.ifs.addr4 else d.ifs.linkLocal = some h.dst || d.ifs.global_ = some h.dst)
  | _ => true

/-- A PDU reaches the QDL server: QDL is served, the PDU is for the device, and its VER is 1 (R32, R35, R38). -/
def arrives (d : Dev) (h : PduHead) : Bool := qdlServed d && toManagement d h && h.ver = 1

/-- The header is sound: no reserved FLAGS bit, a LEN that agrees, at most 1,472 octets, an OP of R36; else the answer is MALFORMED. -/
def headGood (h : PduHead) : Bool := h.sound && h.opOk

/-- Two transports are of one kind: a session belongs to that on which it was opened (log 5). -/
def alike : Transport → Transport → Bool
  | .udp _ _ _ _, .udp _ _ _ _ => true
  | .muart, .muart => true
  | .mspi, .mspi => true
  | _, _ => false

/-- The session that a PDU names, where it belongs to the PDU's transport. -/
def sessionOn (d : Dev) (t : Transport) (id : Nat) : Option Session :=
  match session d id with | some x => if alike x.transport t then some x else none | none => none

/-- AUTH is set exactly in a session that was opened with it (R37); log 119 for the answer NO_SESSION to a PDU of the other kind. -/
def authFits (x : Session) (r : Req) : Bool := x.auth = r.head.tag.isSome

/-- The tag of a request verifies: made under the session's key, and under the nonce of its own SESSION and SEQ with direction 0 (R37). -/
def tagOk (x : Session) (r : Req) : Bool := r.head.tag = some ⟨x.key, r.session, r.seq, 0⟩

/-- A session's RELAY awaits its answer (R60). -/
def relaying (d : Dev) (id : Nat) : Bool := d.qdl.relays.any (fun x => x.session = some id)

/-- A packet of Q5 that is a request waiting for the QDL server (R58). -/
def isRequest (x : Desc) : Bool := match x.body with | .request _ _ => true | .relayed _ _ _ => true | _ => false

/-- Requests wait in Q5: in a Hoist, and after it until they have been served (R58). -/
def q5Waits (d : Dev) : Bool := d.pwr.mode = .m9 || (queue d 5).packets.any isRequest

/-- A session's requests wait: in Q5 (R58), or behind one that awaits a relayed answer (R44). -/
def requestsWait (d : Dev) (id : Nat) : Bool :=
  q5Waits d || relaying d id || d.qdl.held.any (fun h => h.1.session = id)

/-- The requests of a session that wait in Q5. -/
def inQ5 (d : Dev) (id : Nat) : List Req :=
  (queue d 5).packets.filterMap (fun x => match x.body with | .request r _ => if r.session = id then some r else none | _ => none)

/-- The requests of a session that wait, in Q5 or behind a relay (R44). -/
def waiting (d : Dev) (id : Nat) : List Req :=
  inQ5 d id ++ (d.qdl.held.filter (fun h => h.1.session = id)).map Prod.fst

/-- A request put into Q5 (R58), which wakes D3 in M6 (R24); one that Q5 refuses is discarded by the forwarding engine (R15). -/
def intoQ5 (d : Dev) (b : DescBody) : Dev := push' d 5 ⟨0x04, 0, 0, none, b⟩

/-- A request of a session executed (R43, R44): its response sent and kept, then what follows. A MALFORMED request is not executed
(R34). -/
def execute (x : Session) (r : Req) (run : Session → Dev → Served) (before d : Dev) : Dev :=
  let v := run x d
  if v.status = .malformed then sendTo (if x.auth then d else before) r.session r.head.via (.qdl r.session r.seq .malformed .empty)
  else if v.reply then v.after (respond v.d r.session r.seq r.head.via v.status v.body)
  else updSession v.d r.session (fun y => { y with topSeq := some r.seq })

/-- A request whose SEQ is new waits (R44, R58), or is answered BUSY behind four others. -/
def waits (i : Inner) (r : Req) (d : Dev) : Dev :=
  if 4 ≤ (waiting d r.session).length then sendTo d r.session r.head.via (.qdl r.session r.seq .busy .empty)
  else if q5Waits d then intoQ5 d (.request r i)
  else { d with qdl := { d.qdl with held := d.qdl.held ++ [(r, i)] } }

/-- A request `i` of a session whose header is sound (R37, R42-R44, R58): answered NO_SESSION where there is no such session; discarded
without response when its tag fails; answered again where its SEQ was executed, COUNTER_STALE where its SEQ is too low, and executed
otherwise. While requests wait, it waits; a repeat of one that waits waits with it. -/
def serveSound (i : Inner) (r : Req) (run : Session → Dev → Served) (d : Dev) : Dev :=
  match sessionOn d r.head.via r.session with
  | none => sendOn d r.head.via none false (.qdl r.session r.seq .noSession .empty)
  | some x =>
    if !authFits x r then sendOn d r.head.via none false (.qdl r.session r.seq .noSession .empty)
    else if x.auth && !tagOk x r then count d 0x020006
    else
      let d1 := updSession d r.session (fun y => { y with lastReq := d.clk.up })
      match keptOf x r.seq with
      | some (_, st, b) => sendTo d1 r.session r.head.via (.qdl r.session r.seq st b)
      | none =>
        if d.qdl.relays.any (fun y => y.session = some r.session && y.seq = r.seq) || (waiting d r.session).any (fun q => q.seq = r.seq) then d1
        else if seqStale x r.seq then sendTo d1 r.session r.head.via (.qdl r.session r.seq .counterStale .empty)
        else if requestsWait d1 r.session then waits i r d1
        else execute x r run d d1

/-- A request PDU (R35-R38): discarded where it is not for the device or of another VER, MALFORMED where its header is not sound. -/
def serve (i : Inner) (r : Req) (run : Session → Dev → Served) (d : Dev) : Dev :=
  if !arrives d r.head then d
  else if !headGood r.head then sendOn d r.head.via none false (.qdl r.session r.seq .malformed .empty)
  else serveSound i r run d

/-- An EXEC request of a session. -/
def serveExec (r : Req) (key : Nat) (arg : List Byte) (core : Core) (d : Dev) : Dev :=
  serve (.exec (key / 256) (key % 256) arg) r (fun x d1 => runExec x.level key arg core d1) d

/-- The answer of a command that has no RESULT. -/
def answer (d : Dev) (st : Status) : Dev × Status × List Byte := (d, st, [])

/-- The command has been accepted for later completion (R50): it runs until `finish`. -/
def accept (d : Dev) (key : Nat) : Dev := { d with qdl := { d.qdl with running := d.qdl.running ++ [key] } }

/-- An accepted command has completed (R50, R51). -/
def finish (d : Dev) (key : Nat) : Dev :=
  { d with
    qdl := { d.qdl with running := d.qdl.running.filter (· ≠ key) }
    gov := { d.gov with begun := d.gov.begun.filter (· ≠ key), deferred := d.gov.deferred.filter (fun x => x.1 ≠ key) } }

end Sys2Proof.Machine
end

