-- ==== Sys2Proof/Machine/Passing.lean ====
section
/-!
DEFINITION. The passing of time (R69-R73, R302, R307-R312, R525-R530): the increment of the time base, the gates of the ports and
the credits of the shapers, the general timers' sources, and the carrying of the clock to an instant.
-/
namespace Sys2Proof.Machine

/-! ## The time base -/

/-- The nominal fast increment, 2.5 ns in units of 2⁻³² ns (R69). -/
def fastNominal : Nat := 0x280000000

/-- The fast increment in use (R73): 2.5 ns × (1 + (FREQ_ADJ + PHASE_SLEW) in ppm), to the nearest 2⁻³² ns. -/
def fastIncr (freq slew : Int) : Nat := (roundDiv ((fastNominal : Int) * (100000000 + freq + slew)) 100000000).toNat

/-- The slow increment in use: the calibrated one, carrying FREQ_ADJ but no phase slew (R70). -/
def slowIncr (d : Dev) : Nat := (roundDiv ((d.clk.slowIncr.toNat : Int) * (100000000 + d.clk.freqAdj)) 100000000).toNat

/-- TB_INCR: the increment in use (R69, R87). -/
def incrNow (d : Dev) : Nat := if d.clk.fast then fastIncr d.clk.freqAdj d.clk.phaseSlew else slowIncr d

/-- One tick of the time base (R69), and the real time it takes. -/
def tickTb (d : Dev) : Dev :=
  { d with clk := { d.clk with tb := d.clk.tb + BitVec.ofNat 96 (incrNow d), up := d.clk.up + (if d.clk.fast then 160 else 1953125) } }

/-- Length of a tick, in 1/64 ns (R69). -/
def tickLen (d : Dev) : Nat := if d.clk.fast then 160 else 1953125

/-! ## Gates (R307-R312) -/

/-- Keys of shaper S`s` and of the gate entries of port `p` (R321, R322). -/
def shKey (s sub : Nat) : Nat := (0x4810 + s) * 256 + sub
def gateKey (p sub : Nat) : Nat := (0x4840 + p) * 256 + sub

/-- Port `p`, and the port changed. -/
def port (d : Dev) (p : Nat) : Port := nth d.shp.ports p {}
def updPort (d : Dev) (p : Nat) (f : Port → Port) : Dev := { d with shp := { d.shp with ports := upd d.shp.ports p f {} } }

/-- The entries of a list as stretches of its cycle from offset `o`: start, end, gates; cut at the end of the cycle, the last held
to it (R307). -/
def stretches (cycle : Nat) : Nat → List (Nat × Nat) → List (Nat × Nat × Nat)
  | _, [] => []
  | o, [(g, _)] => if o < cycle then [(o, cycle, g)] else []
  | o, (g, i) :: t => if o < cycle then (o, Nat.min cycle (o + i), g) :: stretches cycle (o + i) t else []

/-- The entries of a gate list as octets (R307). -/
def gateOctets (g : GateList) : List Byte := g.entries.flatMap (fun e => toLe 1 e.1 ++ toLe 3 0 ++ toLe 4 e.2)

/-- Place of an instant within the list's cycle. -/
def cycleOff (g : GateList) (t : Int) : Nat := ((t - g.base) % (g.cycle : Int)).toNat

/-- The gates that a list opens at an instant (R307, R311). -/
def gatesAt (g : GateList) (t : Int) : Nat :=
  match (stretches g.cycle 0 g.entries).find? (fun s => decide (s.1 ≤ cycleOff g t) && decide (cycleOff g t < s.2.1)) with
  | some s => s.2.2
  | none => 0

/-- The gates of a port that are open (R307): all of them without an active list or while GATE_EN is false. -/
def gatesNow (d : Dev) (p : Nat) : Nat :=
  match (port d p).active with
  | none => 255
  | some g => if flag d (gateKey p 2) then gatesAt g (tbNs d) else 255

/-- The switch instant of a list committed or restored now (R309, R310): with `k` where its base lies less than 1 ms ahead. -/
def switchInstant (d : Dev) (g : GateList) : Int × Option Nat :=
  let now := tbNs d + 1000000
  if now ≤ g.base then (g.base, none)
  else
    let k := ceilDiv (now - g.base).toNat g.cycle
    (g.base + ((k * g.cycle : Nat) : Int), some k)

/-- A list scheduled (R309 step 3, R310): it replaces one that waits. -/
def scheduleGate (d : Dev) (p : Nat) (g : GateList) : Dev :=
  let x := switchInstant d g
  let d1 := updPort d p (fun y => { y with waiting := some (g, x.1), restored := none, switch := x.1 })
  match x.2 with
  | some k => raise d1 81 (p * 0x1000000 + Nat.min k 0xFFFFFF)
  | none => d1

/-- SYNC_STATE first reaches LOCKED: a restored list is scheduled (R312). -/
def scheduleRestored (d : Dev) (p : Nat) : Dev :=
  match (port d p).restored with | some g => scheduleGate d p g | none => d

/-- The waiting list becomes the active one, its cycle 0 at the switch instant (R309). -/
def switchGate (d : Dev) (p : Nat) : Dev :=
  match (port d p).waiting with
  | some (g, t) => raise (updPort d p (fun y => { y with active := some { g with base := t }, waiting := none })) 80 p
  | none => d

/-- A switch instant that the time base has reached or passed over (R309, R311). -/
def switchDue (d : Dev) (p : Nat) : Dev :=
  match (port d p).waiting with
  | some (_, t) => if t ≤ tbNs d then switchGate d p else d
  | none => d

/-! ## Credits (R302, R314) -/

/-- Line rate of a port, kbit/s, by SPEED (R302, R562). -/
def lineRate (d : Dev) (p : Nat) : Int :=
  match (port d p).speed with | 1 => 10000 | 2 => 100000 | 3 => 1000000 | 4 => 2500000 | _ => 0

/-- The head of queue Q8 + 8 × output + class that a consumer sees. -/
def classHead (d : Dev) (output c : Nat) : Option Desc := front d (8 + 8 * output + c)

/-- A class of a mask has a frame at the head of its queue; one of these has its gate open (R302). -/
def classWaits (d : Dev) (output mask : Nat) : Bool := (upTo 8).any (fun c => mask.testBit c && (classHead d output c).isSome)
def waitOpen (d : Dev) (output mask : Nat) : Bool :=
  output = 2 || (upTo 8).any (fun c => mask.testBit c && (classHead d output c).isSome && (gatesNow d output).testBit c)

/-- A credit that is not spending, over `dt` (R302), in units of 1/64,000,000 bit or ns. -/
def creditRest (credit slope hi : Int) (waiting open_ : Bool) (dt : Nat) : Int :=
  if waiting then
    if open_ then (if hi < credit + slope * (dt : Int) then hi else credit + slope * (dt : Int)) else credit
  else if 0 < credit then 0
  else if 0 < credit + slope * (dt : Int) then 0 else credit + slope * (dt : Int)

/-- A shaper enabled (R302), its output. -/
def shEnabled (d : Dev) (s : Nat) : Bool := flag d (shKey s 4)
def shOutput (d : Dev) (s : Nat) : Nat := numN d (shKey s 1)
def shMask (d : Dev) (s : Nat) : Nat := numN d (shKey s 3)

/-- Real time for which a port goes on sending a class of a mask within `dt`. -/
def busyFor (d : Dev) (p mask dt : Nat) : Nat :=
  match (port d p).sending with
  | some x => if mask.testBit x.cls then Nat.min dt (x.fin - d.clk.up) else 0
  | none => 0

/-- The credit of shaper `s` after `dt` (R302). -/
def shaperAfter (d : Dev) (dt s : Nat) (credit : Int) : Int :=
  if !shEnabled d s then 0
  else
    let o := shOutput d s
    let m := shMask d s
    let rate := if o < 2 then lineRate d o else 0
    let slope := if o < 2 && decide (rate < num d (shKey s 5)) then rate else num d (shKey s 5)
    let busy := if o < 2 then busyFor d o m dt else 0
    creditRest (credit + (slope - rate) * (busy : Int)) slope (num d (shKey s 6) * 64000000) (classWaits d o m) (waitOpen d o m) (dt - busy)

/-- HELD of a neighbour (R314). -/
def heldOf (d : Dev) (short : Nat) : Nat :=
  (d.shp.hold.filter (fun h => match h.desc.body with | .down x => x.neighbour = short | _ => false)).length

/-- A ledger entry after `dt` (R314). -/
def ledgerAfter (d : Dev) (dt : Nat) (e : Ledger) : Ledger :=
  { e with credit := creditRest e.credit (num d 0x480004) (num d 0x480005 * 64000000) (0 < heldOf d e.short) true dt }

/-- A neighbour with frames held has a ledger entry that its credit grows in. -/
def ledgerOf (d : Dev) : List Ledger :=
  d.shp.ledger ++ (((d.shp.hold.filterMap (fun h => match h.desc.body with | .down x => some x.neighbour | _ => none)).eraseDups).filter
    (fun n => d.shp.ledger.all (fun e => e.short ≠ n))).map (fun n => ⟨n, 0⟩)

/-- Every credit over `dt` of real time (R302, R314). -/
def creditPass (d : Dev) (dt : Nat) : Dev :=
  { d with shp := { d.shp with
      credits := d.shp.credits.zipIdx.map (fun x => shaperAfter d dt x.2 x.1)
      ledger := ((ledgerOf d).map (ledgerAfter d dt)).filter (fun e => e.credit ≠ 0) } }

/-! ## General timers (R525-R530) -/

/-- The key of an entry of TM`n` (R537). -/
def tmKey (n sub : Nat) : Nat := (0x1910 + n) * 256 + sub

/-- The largest 48-bit count. -/
def maxCount : Nat := 281474976710655

/-- Timer `n`. -/
def timer (d : Dev) (n : Nat) : Timer := nth d.timers n {}

/-- Timer `n` changed. -/
def updTimer (d : Dev) (n : Nat) (f : Timer → Timer) : Dev := { d with timers := upd d.timers n f {} }

/-- PERIOD and PHASE of TM`n`. -/
def tmPeriod (d : Dev) (n : Nat) : Nat := numN d (tmKey n 5)
def tmPhase (d : Dev) (n : Nat) : Nat := numN d (tmKey n 6)

/-- Length of a tick of source `k`, in 1/64 ns (R526). -/
def srcLen (k : Nat) : Nat := match k with | 0 => 160 | 1 => 6400 | 2 => 64000 | _ => 1953125

/-- CLK_SEL of TM`n`, and the length of a tick of its source. -/
def tmSel (d : Dev) (n : Nat) : Nat := numN d (tmKey n 2)
def tmTick (d : Dev) (n : Nat) : Nat := srcLen (tmSel d n)

/-- The level of an input selection: 1-24 GPIO0-GPIO23, 25 PPS_IN; an output pin is read at the level its pad drives (R530). -/
def inputLevel (d : Dev) (src : Nat) : Bool :=
  if src = 25 then d.gpio.ppsIn
  else
    let g := src - 1
    if numN d ((0x9040 + g) * 256 + 1) = 0 then d.gpio.input.testBit g
    else if d.pwr.padHold.testBit 11 then d.gpio.latched.testBit g
    else flag d ((0x9040 + g) * 256 + 3)

/-- The timer's gate lets its ticks count (R527). -/
def gateOpen (d : Dev) (n : Nat) : Bool :=
  numN d (tmKey n 3) = 0 || boolNum (inputLevel d (numN d (tmKey n 3))) = numN d (tmKey n 4)

/-- A debug halt freezes the timer (R532). -/
def tmFrozen (d : Dev) (n : Nat) : Bool := d.halted && flag d (tmKey n 0x0A)

/-- The timers count in M4 to M11, where D6 is powered (R525). -/
def timersOn (d : Dev) : Bool := d.pwr.mode ≠ .m0 && !d.pwr.mode.asleep

/-- A source ticks: those derived from REFCLK stand still while it is lost (R526). -/
def srcRuns (d : Dev) (k : Nat) : Bool := timersOn d && (d.clk.refOk || k = 3)

/-- Time since the last tick of source `k`; the ticks of source 3 are the rising edges of SLOWCLK (R526). -/
def srcPhase (d : Dev) (k : Nat) : Nat :=
  if k = 3 then (d.clk.up + 1953125 - d.clk.slowPhase % 1953125) % 1953125 else nth d.tmSrc k 0

/-- Ticks of source `k` in the next `dt` of real time. -/
def srcTicks (d : Dev) (k dt : Nat) : Nat := if srcRuns d k then (srcPhase d k + dt) / srcLen k else 0

/-- Time passing at the sources derived from REFCLK. -/
def srcPass (d : Dev) (dt : Nat) : Dev :=
  if srcRuns d 0 then { d with tmSrc := (upTo 3).map (fun k => (srcPhase d k + dt) % srcLen k) } else d

/-- COUNT := PHASE, RUN set, EXPIRED clear (R528). -/
def armNow (d : Dev) (n : Nat) : Dev :=
  updTimer d n (fun t => { t with count := tmPhase d n, run := true, expired := false, expiries := 0 })

/-- RUN clear, COUNT kept (R528). -/
def stopNow (d : Dev) (n : Nat) : Dev := updTimer d n (fun t => { t with run := false })

/-- What was asked of a timer takes effect at a tick of its source at which it is not frozen, after the tick's own update (R528, R532,
R534). -/
def applyDeferred (d : Dev) (n : Nat) : Dev :=
  if tmFrozen d n then d
  else (timer d n).deferred.foldl (fun x arm => if arm then armNow x n else stopNow x n) (updTimer d n (fun t => { t with deferred := [] }))

/-- `k` ticks of its source at a timer, up to, and not with, its next expiry or wrap (log 11). -/
def countTo (k : Nat) (d : Dev) (n : Nat) : Dev :=
  let t := timer d n
  if !t.run || tmFrozen d n || !gateOpen d n then d
  else updTimer d n (fun x => { x with count := x.count + Nat.min k ((if tmPeriod d n = 0 then maxCount else tmPeriod d n - 1) - t.count) })

/-- Time passing at a timer up to, and not with, its next expiry or wrap (log 11): those are commands of their own. -/
def timerWait (dt : Nat) (d : Dev) (n : Nat) : Dev :=
  let k := srcTicks d (tmSel d n) dt
  if k = 0 then d
  else if (timer d n).deferred.isEmpty then countTo k d n
  else countTo (k - 1) (applyDeferred (countTo 1 d n) n) n

/-! ## Carrying the clock (log 11) -/

/-- SLEW_ACTIVE over `dt` of real time: it counts, in µs, while PHASE_SLEW is not zero (R212). -/
def slewPass (d : Dev) (dt : Nat) : Dev :=
  let run := if d.clk.phaseSlew = 0 then 0 else match d.clk.slewUntil with | some t => Nat.min dt (t - d.clk.up) | none => dt
  let n := d.nbr.slewPart + run
  { d with nbr := { d.nbr with slewPart := n % 64000, slewActive := (d.nbr.slewActive + n / 64000) % 4294967296 } }

/-- What else passes with `dt` of real time: credits, SLEW_ACTIVE, and the timers up to their next expiry. -/
def timePasses (d : Dev) (dt : Nat) : Dev := srcPass ((upTo 24).foldl (timerWait dt) (creditPass (slewPass d dt) dt)) dt

/-- A command that is the coming of an instant `t` finds the clock at `t` or later: where it is earlier, the ticks up to `t` pass
(log 11). -/
def reach (d : Dev) (t : Nat) : Dev :=
  if t ≤ d.clk.up then d
  else
    let k := ceilDiv (t - d.clk.up) (tickLen d)
    let d1 := timePasses d (k * tickLen d)
    { d1 with clk := { d1.clk with tb := d.clk.tb + BitVec.ofNat 96 (k * incrNow d), up := d.clk.up + k * tickLen d } }

/-- The next rising edge of SLOWCLK. -/
def slowEdge (d : Dev) : Nat := d.clk.up + (1953125 - (d.clk.up + 1953125 - d.clk.slowPhase % 1953125) % 1953125)

/-- The handover of the time base from one tick to the other, at the next rising edge of SLOWCLK (R71). -/
def handover (d : Dev) (fast : Bool) : Dev :=
  if d.clk.fast = fast then d
  else
    let d1 := reach d (slowEdge d)
    { d1 with clk := { d1.clk with fast := fast } }

/-- The clock brought to the first tick at which the time base shows `v` ns or more (log 11). -/
def reachTb (d : Dev) (v : Int) : Dev :=
  reach d (d.clk.up + ceilDiv (v * 4294967296 - d.clk.tb.toInt).toNat (incrNow d) * tickLen d)

end Sys2Proof.Machine
end

