-- ==== Sys2Proof/Machine/Queues.lean ====
section
/-!
DEFINITION. Queues (R250-R263): pushes and their refusals, pops with the checks a consumer makes, rewinds, and recovery.
-/
namespace Sys2Proof.Machine

/-- The types of descriptor listed for a queue (R251). -/
def typeListed (q t : Nat) : Bool :=
  if q ≤ 1 then t = 0x01
  else if q = 2 then t = 0x01
  else if q = 3 then t = 0x03
  else if q = 4 then t = 0x01 || t = 0x0B
  else if q = 5 then t = 0x04
  else if q ≤ 7 then t = 0x02
  else if q ≤ 31 then t = 0x05
  else if q ≤ 33 then t = 0x06
  else if q = 34 then t = 0x07
  else if q = 35 then t = 0x08
  else if q = 36 then t = 0x09
  else if q = 37 then t = 0x0A
  else if q ≤ 47 then 0x80 ≤ t && t ≤ 0xFF
  else t = 0x0B + (q - 48)

/-- The unit that consumes a queue, as an error record names it (R13, R252, R546). -/
def consumerUnit (q : Nat) : Nat :=
  if q ≤ 1 || q = 33 then 4
  else if q = 2 || q = 32 || q = 34 || q = 35 || q = 48 then 5
  else if q = 3 || q = 6 || q = 7 || q = 37 then 6
  else if 8 ≤ q && q ≤ 31 then 7
  else if q = 36 then 8
  else 9

/-- BUF is a valid granule index, or none (R239). -/
def bufValid (d : Dev) (b : Option Nat) : Bool := match b with | none => true | some g => g < granuleTotal d

/-- Queues whose consumer reads the payload as it takes a descriptor (R13, R246). -/
def readsPayload (q : Nat) : Bool := q ≤ 1 || (3 ≤ q && q ≤ 23) || q = 37

/-- A buffer holds a poisoned word (R244, R246). -/
def poisoned (d : Dev) (b : Option Nat) : Bool := match b.bind (granule d) with | some g => g.poison | none => false

/-- A poisoned payload is not used: the reference is dropped, and an error record names the unit and the granule (R246). -/
def dropPoisoned (d : Dev) (unit : Nat) (p : Desc) : Dev :=
  errBy (dropBuf d p.buf) 2 unit 0 0x11 p.buf (p.buf.map granuleAddr) p.dtype 0 1

/-- The checks a consumer makes of a descriptor it takes: an invalid BUF, a type not listed for the queue or, where it reads the payload, a
poisoned one is discarded with an error record (R239, R246, R251). -/
def consumerCheck (d : Dev) (q : Nat) (p : Desc) : Dev × Option Desc :=
  if !bufValid d p.buf then (errBy d 2 (consumerUnit q) 0 0x01 p.buf none (p.buf.getD 0xFFFFFFFF) p.dtype 1, none)
  else if !typeListed q p.dtype then (errBy (dropBuf d p.buf) 2 (consumerUnit q) 0 0x02 p.buf none p.dtype q 1, none)
  else if readsPayload q && poisoned d p.buf then (dropPoisoned d (consumerUnit q) p, none)
  else (d, some p)

/-- The consumer of queue `q` takes its next descriptor (R255), with its checks. -/
def takeFrom (d : Dev) (q : Nat) : Dev × Option Desc :=
  match front d q with
  | none => (d, none)
  | some p => consumerCheck (take1 d q) q p

/-- The next descriptor of queue `q` taken, with its consumer's checks, if it is one that `f` names. -/
def takeIf (d : Dev) (q : Nat) (f : DescBody → Bool) : Dev × Option Desc :=
  match front d q with
  | some x => if f x.body then takeFrom d q else (d, none)
  | none => (d, none)

/-- The producers of a queue that discard a refused packet at once: lanes, sequencer, ports, forwarding engine; the shaper, Bunting and the
application cores keep it and try again (R15). -/
def discardsRefused (q : Nat) : Bool := q ≤ 31 || q = 33 || q = 36

/-- Frame security tries a packet that Q2 or Q34 refused again each cycle, for up to 2 µs (R15). -/
def owePush (d : Dev) (q : Nat) (p : Desc) : Dev := { d with can := { d.can with owed := d.can.owed ++ [(q, p, d.clk.up)] } }

/-- Frame security still tries a push to queue `q`. -/
def owesPush (d : Dev) (q : Nat) : Bool := d.can.owed.any (fun x => x.1 = q)

/-- A push by a producer of R13, with what it does on a refusal (R15); a packet for a port whose link is down is discarded (R306). -/
def produce (d : Dev) (q : Nat) (p : Desc) : Dev × Bool :=
  if 8 ≤ q && q ≤ 23 && !(port d ((q - 8) / 8)).up then
    (raise (count (dropBuf d p.buf) (gateKey ((q - 8) / 8) 0x0F)) 83 ((q - 8) / 8 * 65536 + 1), false)
  else
  let r := push d q p
  if r.2 then r
  else if q = 2 || q = 34 then (owePush r.1 q p, false)
  else if discardsRefused q then (dropBuf r.1 p.buf, false)
  else r

/-- A packet aborted before its last word: the write position returns, event 64 at most once per second (R254). -/
def rewind (d : Dev) (q : Nat) : Dev :=
  raiseRate (updQueue d q (fun x => { x with rewinds := satAdd x.rewinds 1 })) 64 q 1 (sec 1) (fun n => q * 65536 + n)

/-- The queue unit is powered with D6 (R459). -/
def queuesOn (d : Dev) : Bool := domainOn d 6

/-- A producer claims space at the packet's first word; the packet is then committed, or rewound if aborted (R254). -/
def queuePush (d : Dev) (q : Nat) (p : Desc) (abort : Bool) : Dev :=
  if !queuesOn d then d
  else if abort && (queue d q).space q then rewind d q
  else (produce d q p).1

/-- QUEUE_PUSH (R254, R256-R258). -/
def execQueuePush (q : Fin 56) (d : Desc) (abort : Bool) (s : State) : Host.Outcome State Fault Refusal :=
  .next { s with d := queuePush s.d q d abort }

/-- The consumer takes the oldest visible packet, with its checks, and holds it for its next step (R255-R257). -/
def queuePop (d : Dev) (q : Nat) : Dev :=
  if !queuesOn d then d
  else
    let r := takeFrom (updQueue d q (fun x => { x with taken := none })) q
    updQueue r.1 q (fun x => { x with taken := r.2 })

/-- QUEUE_POP (R255-R257). -/
def execQueuePop (q : Fin 56) (s : State) : Host.Outcome State Fault Refusal :=
  .next { s with d := queuePop s.d q }

/-- DROP_REST: the words of the packet being read that remain are skipped at once and counted (R255). -/
def execDropRest (q : Fin 56) (s : State) : Host.Outcome State Fault Refusal :=
  .next { s with d := updQueue s.d q (fun x =>
    if x.reading = 0 then x else { x with reading := 0, dropRests := satAdd x.dropRests 1 }) }

/-! ## Recovery (R260-R263) -/

/-- The packets a recovery discards: those committed and not popped, and one cut off while being read. -/
def cutPackets (x : Queue) : List Desc := (match x.taken with | some p => if 0 < x.reading then [p] else [] | none => []) ++ x.packets

/-- The queue frozen for recovery, its buffers collected; the packet `lost` has an unreadable BUF (R261, R262). -/
def freeze (x : Queue) (word : Bool) (lost : Option Nat) : Queue :=
  let ps := cutPackets x
  let gone := match lost with | some i => if word then (ps[i]?).bind Desc.buf else none | none => none
  let kept := ps.zipIdx.filter (fun p => !(word && lost = some p.2))
  { x with
    state := .recovering, fill := [], drain := [], rd := 0, wr := 0, reading := 0
    taken := if 0 < x.reading then none else x.taken
    nest := x.nest + 1, discarded := x.discarded + ps.length, cause := if word then 2 else 1
    collected := x.collected ++ kept.filterMap (fun p => p.1.buf)
    orphan := match x.orphan with | some g => some g | none => gone }

/-- The error record of a queue's recovery (R261). -/
def queueRecord (d : Dev) (q : Nat) : Dev :=
  let x := queue d q
  errBy d 2 10 q (if x.cause = 2 then 0x21 else 0x20) none none x.discarded 0 x.nest

/-- A fault of a queue: recovery starts, or restarts nested; the record is committed to P1, but for P1's own (R261, R263). -/
def queueFault (d : Dev) (q : Nat) (word : Bool) (lost : Option Nat) : Dev :=
  let x := queue d q
  if x.state = .quarantined || 3 ≤ x.nest then d
  else
    let d1 := updQueue d q (fun y => freeze y word lost)
    let d2 := if word then raise (count d1 0x40000C) 57 (0xFF000000 + q) else d1
    let d3 := count d2 (if x.nest = 0 then 0x810008 else 0x810009)
    if q = 49 then d3 else queueRecord d3 q

/-- QUEUE_FAULT (R260, R261, R263). -/
def execQueueFault (q : Fin 56) (word : Bool) (lost : Option (Fin 512)) (s : State) : Host.Outcome State Fault Refusal :=
  .next { s with d := if queuesOn s.d then queueFault s.d q word (lost.map Fin.val) else s.d }

/-- The buffers of the discarded packets lose their references; one whose BUF was unreadable is orphaned (R262). -/
def releaseCut (d : Dev) (q : Nat) : Dev :=
  let x := queue d q
  let d1 := x.collected.foldl dropRef d
  let d2 := match x.orphan with
    | some g => raise (count { d1 with store := { d1.store with orphans := d1.store.orphans ++ [g] } } 0x400009) 68 q
    | none => d1
  updQueue d2 q (fun y => { y with collected := [], orphan := none, discarded := 0, nest := 0 })

/-- A recovery ends: the queue reopens empty, or is quarantined after its third fault (R261, R263, R549). -/
def queueReopen (d : Dev) (q : Nat) : Dev :=
  let x := queue d q
  if x.state ≠ .recovering then d
  else if 3 ≤ x.nest then
    let d1 := count (updQueue d q (fun y => { y with state := .quarantined })) 0x81000A
    let d2 := errBy d1 3 10 q 0x50 none none (if x.cause = 2 then 0x21 else 0x20) 0 3
    releaseCut (raise (raise d2 62 q) 126 (10 * 256 + q)) q
  else
    let d1 := updQueue d q (fun y => { y with state := .openQ, resets := satAdd y.resets 1 })
    let d2 := if q = 49 then queueRecord d1 q else d1
    releaseCut (raise d2 61 (q * 65536 + Nat.min x.discarded 65535)) q

/-- QUEUE_REOPEN (R261-R263). -/
def execQueueReopen (q : Fin 56) (s : State) : Host.Outcome State Fault Refusal :=
  .next { s with d := queueReopen s.d q }

/-- The command QUEUE_RESTORE: a quarantined queue is emptied and reopened (R263, R266); P1's own record comes first. -/
def queueRestoreCore : Core := fun arg d =>
  match arg with
  | [b] =>
    let q := b.toNat
    if 56 ≤ q then answer d .outOfRange
    else if (queue d q).state ≠ .quarantined then answer d .wrongMode
    else
      let d1 := updQueue d q (fun x => { x with state := .openQ, nest := 0, cause := 0, discarded := 0 })
      let d2 := if q = 49 then errBy d1 3 10 q 0x50 none none 0x20 0 3 else d1
      answer (raise d2 63 q) .ok
  | _ => answer d .malformed

/-- QUEUE_RESTORE (R263, R266). -/
def execQueueRestore (r : Req) (arg : List Byte) (s : State) : Host.Outcome State Fault Refusal :=
  .next { s with d := serveExec r 0x410001 arg queueRestoreCore s.d }

end Sys2Proof.Machine
end

