-- ==== Sys2Proof/Machine/RadioOps.lean ====
section
/-!
DEFINITION. The operations on the bands and lanes that several families share (R90-R151): settings by band, blanking, the
receive descriptor a lane commits, rest, and stopping all transmission.
-/
namespace Sys2Proof.Machine

/-- 0 for Band SF, 1 for Band G (R120). -/
def bandNum : Band → Nat
  | .sf => 0 | .g => 1

/-- A band's front end. -/
def band (d : Dev) : Band → BandState
  | .sf => d.bandSf | .g => d.bandG

/-- A band's front end changed. -/
def updBand (d : Dev) (b : Band) (f : BandState → BandState) : Dev :=
  match b with | .sf => { d with bandSf := f d.bandSf } | .g => { d with bandG := f d.bandG }

/-- Keys of a band's entries at 0x2000/0x2100, 0x2300/0x2310 and 0x2200/0x2210. -/
def feKey (b : Band) (sub : Nat) : Nat := (match b with | .sf => 0x2000 | .g => 0x2100) * 256 + sub
def maskKey (b : Band) (sub : Nat) : Nat := (match b with | .sf => 0x2300 | .g => 0x2310) * 256 + sub
def bandLaneKey (b : Band) (sub : Nat) : Nat := (match b with | .sf => 0x2200 | .g => 0x2210) * 256 + sub

/-- The band of lane `n` (R122). -/
def laneBand (n : Nat) : Band := if n < 16 then .sf else .g

/-- The lanes of a band. -/
def bandLanes (b : Band) : List Nat := match b with | .sf => upTo 16 | .g => (upTo 16).map (· + 16)

/-- Lane `n`. -/
def lane (d : Dev) (n : Nat) : Lane := nth d.lanes n {}

/-- Lane `n` changed. -/
def updLane (d : Dev) (n : Nat) (f : Lane → Lane) : Dev := { d with lanes := upd d.lanes n f {} }

/-- Key of an entry of lane `n` (R156), and of the correlator that serves it (R136, R157). -/
def laneKey (n sub : Nat) : Nat := (0x2240 + n) * 256 + sub
def corrKey (n sub : Nat) : Nat := (0x2220 + n / 2) * 256 + sub

/-- The number of a lane state (R132). -/
def laneNum : LaneState → Nat
  | .off => 0 | .idle => 1 | .search => 2 | .preamble => 3 | .header => 4 | .payload => 5 | .commit => 6 | .blanked => 7
  | .recover => 8 | .quarantined => 9

/-- A lane is powered (R132). -/
def Lane.powered (l : Lane) : Bool := match l.state with | .off => false | .quarantined => false | _ => true

/-- A lane holds a frame (R133). -/
def Lane.holds (l : Lane) : Bool := match l.state with | .header => true | .payload => true | .commit => true | _ => false

/-- Symbol time of a spreading level, ns (R128). -/
def symNs (b : Band) (spread : Nat) : Nat := (match b with | .sf => 16000 | .g => 8000) * 2 ^ spread

/-- Octet time, ns: two symbols (R128). -/
def byteNs (b : Band) (spread : Nat) : Nat := 2 * symNs b spread

/-- SHR time, ns: ten symbols (R128). -/
def shrNs (b : Band) (spread : Nat) : Nat := 10 * symNs b spread

/-- A(P): SHR, PHR and `p` octets on air, ns; a PHR of two octets above 127 (R130, R178). -/
def airNs (b : Band) (spread p : Nat) : Nat := shrNs b spread + ((if 127 < p then 2 else 1) + p) * byteNs b spread

/-- The channels of a band under its plan (R90). -/
def bandChannels (d : Dev) (b : Band) : List Nat :=
  match b with
  | .g => (upTo 16).map (· + 11)
  | .sf => if numN d 0x200001 = 1 then upTo 10 else upTo 12

/-- Centre frequency of a channel, Hz (R90). -/
def centreHz (d : Dev) (b : Band) (ch : Nat) : Nat :=
  match b with
  | .g => 2405000000 + 5000000 * (ch - 11)
  | .sf => if numN d 0x200001 = 1 then 864000000 + 1200000 * ch else 903000000 + 2000000 * ch

/-- The word of the transmit synthesiser (R106). -/
def synWord (fc : Nat) (p : Int) : Nat := (roundDiv ((fc : Int) * (100000000 + p) * 16777216) (100000000 * 40000000)).toNat

/-- Receive LO of a band, kHz (R92). -/
def rxLoKhz (d : Dev) (b : Band) : Nat :=
  match b with | .g => 2390000 | .sf => if numN d 0x200001 = 1 then 855000 else 894000

/-- The spreading codes a band's lanes accept (R128). -/
def spreadOk (b : Band) (code : Nat) : Bool := match b with | .sf => code ≤ 3 | .g => code ≤ 2

/-- The home channel of a lane (R122); none for an auxiliary lane. -/
def homeChannel (d : Dev) (n : Nat) : Option Nat :=
  if n < 16 then (if n < (if numN d 0x200001 = 1 then 10 else 12) then some n else none) else some (n - 5)

/-- The home lane of a channel (R122). -/
def homeLane (b : Band) (ch : Nat) : Nat := match b with | .sf => ch | .g => ch + 5

/-- Nominal ceilings of the gain table, 0.1 dBm (R109). -/
def nominalCeilings : Band → List Int
  | .sf => (upTo 28).map (fun (i : Nat) => -100 - 20 * (i : Int))
  | .g => (upTo 21).map (fun (i : Nat) => -60 - 20 * (i : Int))

/-- The ceiling of a gain index, 0.1 dBm (R109, R118): the measured table, the nominal one where none is held. -/
def ceiling (d : Dev) (b : Band) (i : Nat) : Int :=
  nth (if (band d b).ceilings.isEmpty then nominalCeilings b else (band d b).ceilings) i 0

/-- The highest gain index of a band (R109). -/
def topGain (b : Band) : Nat := match b with | .sf => 27 | .g => 20

/-- Typical sensitivity, 0.1 dBm, by band, spreading code, and narrow or wide search (R154). -/
def sensitivity (b : Band) (spread : Nat) (narrow : Bool) : Int :=
  match b, spread with
  | .g, 0 => -1010
  | .g, 1 => -1040
  | .g, _ => if narrow then -1070 else -1060
  | .sf, 0 => -1130
  | .sf, 1 => -1160
  | .sf, 2 => if narrow then -1190 else -1180
  | .sf, _ => if narrow then -1220 else -1200

/-- The bottom of a lane's window at the band's present gain, 0.1 dBm at the ball (R109, R154). -/
def windowBottom (d : Dev) (b : Band) (spread : Nat) (narrow : Bool) : Int :=
  let s := sensitivity b spread narrow
  if (band d b).gain = topGain b then s
  else if ceiling d b (band d b).gain - 580 < s then s else ceiling d b (band d b).gain - 580

/-! ## Descriptors of lanes -/

/-- RSSI as the descriptor carries it: 0.1 dBm in steps of 5, saturating (R142, R150). -/
def rssiStep (x : Int) : Int := clampInt (-1300) 100 (5 * roundDiv x 5)

/-- Link quality of an EVM in 0.1 % (R142). -/
def lqiOf (evm : Nat) : Nat := if evm ≤ 50 then 255 else if 450 ≤ evm then 0 else (2 * 255 * (450 - evm) + 400) / 800

/-- The frame's source matches the neighbour latched for the cell (R139, R153). -/
def addrMatches (b : Binding) : Addr → Bool
  | .none => false
  | .short a => b.neighbour = some a
  | .eui e => b.neighbourEui = some e

/-- A frame with CLIPPED set counted (R149). -/
def clipRx (d : Dev) (b : Band) (channel : Nat) : Dev :=
  raiseRate (count d (bandLaneKey b 0x0D)) 39 (bandNum b) 1 (sec 1) (fun _ => bandNum b * 65536 + channel)

/-- A lane commits a descriptor for the frame it holds, with RXSTAT `st` (R150, R151): the frame's granule is named only when
`keep`, and freed otherwise; a refused push is handled under R15 and raises event 37 (R145). `matched` is ADDR_MATCH (R153). -/
def commitRx (d : Dev) (n st : Nat) (f : LaneFrame) (matched fcsOk keep clipped : Bool) (lqi : Nat) (cfo : Int) : Dev :=
  let b := laneBand n
  let info : RxInfo := {
    sfdTime := f.sfdTime, handle := f.bind.handle, loc := f.bind.loc, asn := f.bind.asn, lane := n, channel := f.bind.channel
    spread := f.bind.spread, band := b, long := f.long, pretuned := f.bind.narrow, handed := f.handed, cfo := clampInt (-6200) 6200 cfo
    rssi := rssiStep f.rssi, lqi := lqi, gain := f.gain, fcsOk := fcsOk, fcs32 := f.long, addrMatch := matched
    captured := f.captured, gainStep := f.gainStep, allChannel := f.bind.allChannel, expectedFirst := f.bind.expectedFirst
    clipped := clipped, stage := {} }
  let d0 := updLane d n (fun l => { l with frame := none, lastRssi := rssiStep f.rssi, lastLqi := lqi, lastCfo := clampInt (-6200) 6200 cfo })
  let d1 := if keep then d0 else dropBuf d0 f.buf
  let d2 := count d1 (laneKey n (if st = 0 then 5 else if st = 1 then 6 else if st = 2 then 7 else if st ≤ 6 then 8 else 0xFF))
  let r := produce (if st = 7 then d1 else d2) (bandNum b) ⟨0x01, st, f.len, if keep then f.buf else none, .rx info⟩
  if r.2 then r.1 else raiseRate r.1 37 (bandNum b) 1 (sec 1) (fun k => bandNum b * 65536 + k)

/-- An aborted frame's descriptor: what was measured up to the abort is not known to the model (R143). -/
def abortRx (d : Dev) (n st : Nat) (f : LaneFrame) : Dev :=
  let b := laneBand n
  let clipped := Config.abortClipped d.free
  let d1 := commitRx (drawn d) n st f (Config.abortMatch d.free) false false clipped (Config.abortLqi d.free % 256) (Config.abortCfo d.free)
  if clipped then clipRx d1 b f.bind.channel else d1

/-- The receive windows of a band open now (R133, R171). -/
def openWindows (d : Dev) (b : Band) : List Window := d.sched.windows.filter (fun w => w.band = b && !w.shut)

/-- A binding of lane `n` serves a window (R123, R166): it is that cell's, or the lane serves the cell beside its own. -/
def servesWindow (d : Dev) (n : Nat) (x : Binding) (w : Window) : Bool :=
  w.band = laneBand n && x.asn = w.asn && ((x.handle = w.handle && x.loc = w.loc)
    || d.sched.cellLanes.any (fun c => c.lane = n && c.asn = w.asn && c.handle = w.handle && c.loc = w.loc))

/-- A window is open that a lane's binding serves (R133). -/
def listens (d : Dev) (n : Nat) (x : Option Binding) : Bool :=
  match x with | some y => (openWindows d (laneBand n)).any (servesWindow d n y) | none => false

/-- Frequency of the NCO for a binding, mHz: the channel centre at IF plus the pre-tune (R92, R121). -/
def ncoOf (d : Dev) (b : Band) (x : Binding) : Int :=
  ((centreHz d b x.channel : Int) - (rxLoKhz d b : Int) * 1000) * 1000 + roundDiv ((centreHz d b x.channel : Int) * x.pretune) 100000

/-- Lanes that serve no cell are switched off: LANE_ECONOMY, or the band's state powers none (R95, R126). -/
def lanesRestOff (d : Dev) (b : Band) : Bool :=
  slotFlag d (bandLaneKey b 6) || (band d b).state = .standby || (band d b).state = .sleep

/-- The binding a lane takes at T0, or at its next rest, if one waits (R611); with none it is switched off where R126 says so. -/
def takeNext (d : Dev) (n : Nat) (l : Lane) : Lane :=
  match l.next with
  | none => l
  | some none => { l with next := none, bind := none, state := if lanesRestOff d (laneBand n) then .off else .idle }
  | some (some x) => { l with next := none, bind := some x, nco := ncoOf d (laneBand n) x, state := .idle }

/-- Rest: SEARCH if a window is open, and IDLE otherwise; a binding that waited is taken (R133, R611). -/
def restOf (d : Dev) (n : Nat) (l : Lane) : Lane :=
  let m := takeNext d n { l with lock := none, other := none, frame := none, state := .idle }
  if m.state ≠ .off && listens d n m.bind then { m with state := .search } else m

/-- Lane `n` returns to rest. -/
def laneRest (d : Dev) (n : Nat) : Dev := updLane d n (restOf d n)

/-- Blanking begins at one lane (R98, R133): a frame held is aborted, the lane is BLANKED. -/
def blankLane (st : Nat) (d : Dev) (n : Nat) : Dev :=
  let l := lane d n
  match l.state with
  | .off => d
  | .quarantined => d
  | .recover => d
  | .blanked => d
  | _ =>
    let d1 := match l.frame with | some f => abortRx d n st f | none => d
    updLane d1 n (fun x => { x with state := .blanked, lock := none, other := none, frame := none })

/-- Blanking of a band (R98). -/
def blank (d : Dev) (b : Band) : Dev := updBand ((bandLanes b).foldl (blankLane 4) d) b (fun x => { x with blanked := true })

/-- Blanking of a band ends: its lanes return to rest (R133). -/
def unblank (d : Dev) (b : Band) : Dev :=
  updBand ((bandLanes b).foldl (fun x n => if (lane x n).state = .blanked then laneRest x n else x) d) b (fun x => { x with blanked := false })

/-- A lane's domain goes off: a frame held is aborted with ABORT_DOMAIN first (R149). -/
def laneDomainOff (d : Dev) (n : Nat) : Dev :=
  let l := lane d n
  let d1 := match l.frame with | some f => abortRx d n 5 f | none => d
  updLane d1 n (fun x => if x.state = .quarantined then x else { x with state := .off, lock := none, other := none, frame := none, bind := none, next := none })

/-- All lanes of a band switched off with its domain (R149). -/
def lanesOff (d : Dev) (b : Band) : Dev := (bandLanes b).foldl laneDomainOff d

/-- PA_EN and LNA_EN of a band as its front end drives them (R116, R475). -/
def setPa (d : Dev) (b : Band) (on : Bool) : Dev :=
  { d with pwr := match b with | .sf => { d.pwr with paSf := on } | .g => { d.pwr with paG := on } }
def setLna (d : Dev) (b : Band) (on : Bool) : Dev :=
  { d with pwr := match b with | .sf => { d.pwr with lnaSf := on } | .g => { d.pwr with lnaG := on } }

/-- PA_EN and LNA_EN of a band as they stand at the balls: latched pads were latched low (R473, R475). -/
def paBall (d : Dev) (b : Band) : Bool := !d.pwr.padHold.testBit (7 + bandNum b) && (match b with | .sf => d.pwr.paSf | .g => d.pwr.paG)
def lnaBall (d : Dev) (b : Band) : Bool := !d.pwr.padHold.testBit (7 + bandNum b) && (match b with | .sf => d.pwr.lnaSf | .g => d.pwr.lnaG)

/-- The windows of a band are over; those of its cells that have not opened do not open any more (R68, R149, R176). -/
def shutWindows (d : Dev) (b : Band) (which : Window → Bool) : Dev :=
  let planned := (d.sched.past.filter (fun c => c.2.1 = b && !d.sched.windows.any (fun w =>
    w.band = b && w.asn = c.1 && w.handle = c.2.2.handle && w.loc = c.2.2.loc))).map (fun c =>
      { band := b, handle := c.2.2.handle, loc := c.2.2.loc, asn := c.1, closes := c.2.2.closes, rescue := c.2.2.options.testBit 6, shut := false : Window })
  { d with sched := { d.sched with windows := (d.sched.windows ++ planned.filter which).map (fun w =>
      if w.band = b && which w then { w with shut := true } else w) } }

/-- A band's transmission ends now, and its PA goes low. -/
def cutTx (d : Dev) (b : Band) : Dev :=
  setPa (updBand d b (fun x => { x with
    tx := none, paFall := none, unblankAt := none, paFell := if x.tx.isSome then some (tbNs d) else x.paFell })) b false

/-- A band goes to a radio state. -/
def setRadio (d : Dev) (b : Band) (st : RadioState) : Dev :=
  setLna (updBand d b (fun x => { x with state := st })) b (st = .rx)

/-- The domains of a band's front end and of its lanes powered or not (R459). A front end that goes off has its pads latched low first (R473); one
that the device powers again outside a start has them released (R474; log 137). -/
def powerBand (d : Dev) (b : Band) (front lanes : Bool) : Dev :=
  let n := 7 + bandNum b
  let d1 : Dev := { d with pwr := { d.pwr with
    domains := putBit (putBit d.pwr.domains n front) (9 + bandNum b) lanes
    padHold := if d.pwr.domains.testBit n && !front then setBit d.pwr.padHold n else d.pwr.padHold } }
  if front && !d.pwr.domains.testBit n && d1.pwr.padHold.testBit n && d.pwr.mode ≠ .m4 then
    raise { d1 with pwr := { d1.pwr with padHold := clearBit d1.pwr.padHold n } } 3 (2 ^ n)
  else d1

/-- A band's front end and lanes off, with their domains (R149, R459). -/
def bandOff (d : Dev) (b : Band) : Dev :=
  let d1 := lanesOff (cutTx (shutWindows d b (fun _ => true)) b) b
  let d2 := updBand (setRadio d1 b .sleep) b (fun x => { x with cal := none, calWait := none, calKeys := [], blanked := false, nextGain := none })
  powerBand d2 b false false

/-- All transmission stopped at once and all lanes blanked, as for the loss of REFCLK (R68, R551). -/
def stopTransmission (d : Dev) : Dev := blank (blank (cutTx (cutTx d .sf) .g) .sf) .g

/-- Slot activity stops with it (R68, R579): the slot prepared, what the present slot would still send, and acknowledgements owed. -/
def stopSlots (d : Dev) : Dev :=
  let quiet (p : BandPlan) : BandPlan := { p with tx := none, burst := false }
  { d with
    sched := { d.sched with prep := none, now := d.sched.now.map (fun s => { s with sf := quiet s.sf, g := quiet s.g }) }
    nbr := { d.nbr with acks := [] } }

/-- Slot activity is held: REFCLK is lost, or the scan chain holds the pads (R68, R579). -/
def slotsHeld (d : Dev) : Bool := !d.clk.refOk || d.ifs.extest

/-- The sequencer prepares slots: M6 to M9 with SCHED_STATE RUNNING, AUTONOMOUS or STOPPED (R102, R191), and not once entry into a sleep mode has begun
(R462). -/
def preparesSlots (d : Dev) : Bool := d.pwr.mode.running && d.sched.st ≠ .none && !d.pwr.entering

/-- A calibration starts (R99): the band's domain is powered, its lanes blanked. -/
def startCal (d : Dev) (b : Band) (k : CalKind) : Dev :=
  let keys := [feKey b 0x11, maskKey b 7].filter (fun x => d.qdl.running.contains x)
  let d1 := updBand (setRadio (blank d b) b .cal) b (fun x => { x with cal := some k, calWait := none, calKeys := keys })
  powerBand d1 b true (d1.pwr.domains.testBit (9 + bandNum b))

/-- The calibration that waits when another is asked for: one that ends an inhibition stays such a one (R115, R119). -/
def mergeCal (old : Option CalKind) (k : CalKind) : CalKind :=
  if old = some .mask || k = .mask then .mask else if old = some .clear then .clear else k

/-- A calibration asked for (R102): at the band's next T0 while slots are prepared, else within 100 µs; one that finds another
under way follows it. -/
def requestCal (d : Dev) (b : Band) (k : CalKind) : Dev :=
  if preparesSlots d || (band d b).cal.isSome then updBand d b (fun x => { x with calWait := some (mergeCal x.calWait k) }) else startCal d b k

end Sys2Proof.Machine
end

