-- ==== Sys2Proof/Machine/TimeOps.lean ====
section
/-!
DEFINITION. The time base as an operation (R69-R76, R84): its increment, the servo, SYNC_STATE, and the error estimate.
-/
namespace Sys2Proof.Machine

/-- ALIGN_ERR_EST as it stands now: growing in HOLDOVER, the growth rounded down to 1 ns (R84; log 9). -/
def alignNow (d : Dev) : Nat :=
  match d.clk.sync, d.clk.holdover with
  | .holdover, some (base, t) => Nat.min maxU32 (base + numN d 0x18000F * since d t / 6400000000)
  | _, _ => d.clk.align

/-- A new estimate; the change from at most 1,000 ns to above is a crossing and raises event 17 (R84). -/
def setAlign (d : Dev) (v : Nat) : Dev :=
  let d1 : Dev := { d with clk := { d.clk with align := v } }
  if d.clk.align ≤ 1000 ∧ 1000 < v then raise d1 17 v else d1

/-- The number of SYNC_STATE (R87). -/
def syncNum : SyncState → Nat
  | .free => 0 | .acquiring => 1 | .locked => 2 | .holdover => 3

/-- Uncertainty of the timestamp points used, ns (R78): the parent's port for PTP, the PPS_IN ball otherwise. -/
def stampUncertainty (d : Dev) : Nat :=
  if numN d 0x180003 = 1 then
    match d.ptp.parent with
    | some f => if numN d ((0x9010 + f.port.val) * 256 + 1) = 2 then 4 else 8
    | none => 8
  else 5

/-- The estimate of R84 in LOCKED: the mean of the last 16 |offset| values, rounded up, plus the uncertainty (log 9). -/
def lockedEstimate (d : Dev) : Nat :=
  ceilDiv (sumNat d.clk.lastOffsets) (Nat.max 1 d.clk.lastOffsets.length) + stampUncertainty d

/-- The estimate that a state of R75 gives (R84). -/
def estimateOf (d : Dev) (st : SyncState) : Nat :=
  match st with
  | .locked => lockedEstimate d
  | .holdover => d.clk.lockedAlign
  | _ => 0xFFFFFFFF

/-- SYNC_STATE changed to `st`: event 16, and the estimate that follows (R75, R84). -/
def setSync (d : Dev) (st : SyncState) : Dev :=
  if d.clk.sync = st then d
  else
    let v := estimateOf d st
    let d1 : Dev := { d with clk := { d.clk with
      sync := st, goodRun := 0, badRun := 0
      lockedAlign := if st = .locked then v else d.clk.lockedAlign
      holdover := if st = .holdover then some (v, d.clk.up) else none } }
    let d2 := setAlign (raise d1 16 (syncNum st)) v
    if st = .locked then scheduleRestored (scheduleRestored d2 0) 1 else d2

/-- What a slew of `slew` (0.01 ppm) has left of an offset after `dt` (R74): never past zero. -/
def slewed (off slew : Int) (dt : Nat) : Int :=
  let moved := slew * (dt : Int) / 6400000000
  if off < 0 then (if 0 < off + moved then 0 else off + moved) else (if off + moved < 0 then 0 else off + moved)

/-- The servo's prediction of the offset now (R74): what the held slew has left of it. -/
def predicted (d : Dev) : Option Int :=
  match d.clk.pred with
  | none => none
  | some (t, o) => if d.clk.slewUntil.isNone then some o else some (slewed o d.clk.phaseSlew (since d t))

/-- The instant at which a slew takes an offset to zero (R74); none where nothing slews. -/
def slewEnd (d : Dev) (off slew : Int) : Option Nat :=
  if slew = 0 then none else some (d.clk.up + off.natAbs * 6400000000 / slew.natAbs)

/-- A measurement more than 10 × SYNC_LIMIT from the prediction is an outlier (R75). -/
def isOutlier (d : Dev) (off : Int) : Bool :=
  match predicted d with | none => false | some p => 10 * num d 0x18000A < ((off - p).natAbs : Int)

/-- The servo's FREQ_ADJ and PHASE_SLEW after an accepted offset (R73, R74): the wanted slew removes it in 10 ms. -/
def steer (d : Dev) (off : Int) : Dev :=
  let lim := num d 0x180007
  let freq := clampInt (-lim) lim (Config.servoFreq d.free)
  let wanted := -10 * off
  let slew := clampInt (-lim) lim (freq + wanted) - freq
  let cut := slew ≠ wanted
  let d1 := drawn { d with clk := { d.clk with
    freqAdj := freq, phaseSlew := slew, slewUntil := slewEnd d off slew, offset := off, measAt := some d.clk.up, pred := some (d.clk.up, off) } }
  if cut then raise d1 23 (u32Of (satI32 (roundDiv (10 * off + slew) 10))) else d1

/-- A SLEW_LIMIT lowered limits what is applied at once (R73): the slew goes on from the offset then predicted. -/
def limitSlew (d : Dev) : Dev :=
  let lim := num d 0x180007
  if ((d.clk.freqAdj + d.clk.phaseSlew).natAbs : Int) ≤ lim then d
  else
    let freq := clampInt (-lim) lim d.clk.freqAdj
    let slew := clampInt (-lim) lim (freq + d.clk.phaseSlew) - freq
    let o := (predicted d).getD 0
    { d with clk := { d.clk with freqAdj := freq, phaseSlew := slew, slewUntil := slewEnd d o slew, pred := some (d.clk.up, o) } }

/-- The state that an accepted measurement leads to (R75): the next SYNC_STATE, and the runs of good and bad measurements. The measurement
that leads from FREE or HOLDOVER to ACQUIRING counts as the first of its run (log 123). -/
def nextSync (d : Dev) (off : Int) : SyncState × Nat × Nat :=
  let small := off.natAbs < 500
  let large := numN d 0x18000A < off.natAbs
  match d.clk.sync with
  | .free => (.acquiring, if small then 1 else 0, 0)
  | .holdover => (.acquiring, if small then 1 else 0, 0)
  | .acquiring => if small then (if 16 ≤ d.clk.goodRun + 1 then (.locked, 0, 0) else (.acquiring, d.clk.goodRun + 1, 0)) else (.acquiring, 0, 0)
  | .locked => if large then (if 4 ≤ d.clk.badRun + 1 then (.acquiring, 0, 0) else (.locked, 0, d.clk.badRun + 1)) else (.locked, 0, 0)

/-- A measured offset, in ns, positive when the time base is ahead: discarded as an outlier, or accepted (R73-R75, R84). -/
def measure (d : Dev) (off : Int) (pps : Bool) : Dev :=
  if isOutlier d off then
    let d1 := count d 0x18000D
    if pps then raise d1 20 (u32Of (satI32 off)) else d1
  else
    let x := nextSync d off
    let d1 : Dev := { d with clk := { d.clk with lastOffsets := lastN 16 (d.clk.lastOffsets ++ [off.natAbs]) } }
    let d2 := setSync (steer d1 off) x.1
    let d3 : Dev := { d2 with clk := { d2.clk with goodRun := x.2.1, badRun := x.2.2 } }
    if x.1 = .locked then
      let v := lockedEstimate d3
      setAlign { d3 with clk := { d3.clk with lockedAlign := v } } v
    else d3

/-- The slew in use and its sum (R74): PHASE_SLEW ends. -/
def endSlew (d : Dev) : Dev :=
  { d with clk := { d.clk with phaseSlew := 0, slewUntil := none, pred := d.clk.pred.map (fun _ => (d.clk.up, 0)) } }

/-- A PTP setting as it is in force: a write takes effect at the next Announce or Sync interval (R88). -/
def ptpVal (d : Dev) (key : Nat) : Val := match dictGet key d.ptp.kept with | some v => v | none => setting d key
def ptpNum (d : Dev) (key : Nat) : Int := valInt (ptpVal d key)
def ptpN (d : Dev) (key : Nat) : Nat := valNat (ptpVal d key)

end Sys2Proof.Machine
end

