-- ==== Sys2Proof/Machine/PowerOps.lean ====
section
/-!
DEFINITION. What the families share of modes and outputs (R450-R475): MESH_OK_N, and the entry into Fault-Safe.
-/
namespace Sys2Proof.Machine

/-- The manager's role (R25). -/
def Perm.manager (p : Perm) : Bool := p.role = 1

/-- A spare is a worker with ID 128-159 (R25). -/
def Perm.spare (p : Perm) : Bool := p.role = 2 && 128 ≤ p.workerId

/-- The schedule runs: SCHED_STATE RUNNING or AUTONOMOUS (R192). -/
def scheduleRuns (d : Dev) : Bool := d.sched.st = .running || d.sched.st = .autonomous

/-- The condition under which MESH_OK_N is asserted (R456). -/
def meshCondition (p : Perm) (d : Dev) : Bool :=
  if p.manager then (d.pwr.mode = .m7 || d.pwr.mode = .m8) && !d.pwr.entering
  else p.role = 2 && ((d.pwr.mode.running && scheduleRuns d && !d.pwr.entering)
    || (p.spare && (d.pwr.mode = .m6 || d.pwr.mode = .m7) && d.hier.st = .standby && !d.pwr.entering))

/-- MESH_OK_N brought to its condition; a change raises event 7 (R456). -/
def settle (p : Perm) (d : Dev) : Dev :=
  let v := meshCondition p d && !d.ifs.extest
  if d.pwr.meshOk = v then d else raise { d with pwr := { d.pwr with meshOk := v } } 7 (boolNum v)

/-- A band that neither calibrates nor sends a burst goes off with its domains (R459). -/
def restBand (d : Dev) (b : Band) : Dev :=
  let bursts := match d.nbr.burst with | some x => decide (x.band = b) && x.begun.isSome | none => false
  if (band d b).cal.isSome || bursts then d else bandOff d b

/-- A spare before takeover, whose front ends and lanes are off but while it listens for a witness request (R26, R379, R453). -/
def spareIdle (d : Dev) : Bool := d.pwr.spare && (d.hier.st = .unlinked || d.hier.st = .standby)

/-- In M7 a band that no slot needs is in STANDBY, its domains on, and its lanes off (R95, R97, R459). -/
def standbyBand (d : Dev) (b : Band) : Dev :=
  let x := band d b
  let d1 := if x.cal.isSome || x.tx.isSome || x.unblankAt.isSome then d else setRadio (lanesOff (shutWindows d b (fun _ => true)) b) b .standby
  powerBand d1 b true true

/-- The front ends and lanes as the base mode powers them while no slots are prepared (R97, R453, R459). -/
def modeBands (d : Dev) : Dev :=
  if preparesSlots d || d.pwr.fullOnly then d
  else if spareIdle d then (if d.hier.listenUntil.isSome then d else restBand (restBand d .sf) .g)
  else if d.pwr.baseFull then standbyBand (standbyBand d .sf) .g
  else restBand (restBand d .sf) .g

/-- Entry into M11 with a cause (R458): nothing is transmitted, D4 and D7 to D10 go off, and QDL is served. A start that ends
here is served by the boot runtime (R484, R485). A Hoist under way ends (R521). -/
def enterFault (d : Dev) (cause : Nat) : Dev :=
  let d0 := finish (finish (bandOff (bandOff (stopTransmission d) .sf) .g) 0x600004) 0x600006
  let d1 : Dev := { d0 with fw := { d0.fw with hoist := none } }
  let boot := !d.start.served
  setMode { d1 with
    pwr := { d1.pwr with domains := 0x86F, faultCause := cause, sleepReq := none, entering := false }
    start := { d1.start with
      stage := if boot then .idle else d1.start.stage, served := true
      bootRuntime := boot || d1.start.bootRuntime, rootDue := none } } .m11

/-- A meaning that acts on all but the queue and what is fixed. -/
def onDev (s : State) (f : Dev → Dev) : Host.Outcome State Fault Refusal := .next { s with d := f s.d }

/-- The same, where MESH_OK_N may have to follow. -/
def onDevSettled (s : State) (f : Dev → Dev) : Host.Outcome State Fault Refusal := .next { s with d := settle s.perm (f s.d) }

end Sys2Proof.Machine
end

