-- ==== Sys2Proof/Machine/Background.lean ====
section
/-!
DEFINITION. Background work as the governor grants it (R437, R440).
-/
namespace Sys2Proof.Machine

/-- A task of R437 may run now: it was granted for the slot in progress; where no slots are prepared, the governor's state is not a
shedding one (R437, R440; log 25). -/
def taskRuns (d : Dev) (task : Nat) : Bool :=
  match d.sched.now with
  | some p => p.tasks.contains task
  | none => !preparesSlots d && d.gov.st = 0

end Sys2Proof.Machine
end

