-- ==== Sys2Proof/Machine/Digest.lean ====
section
/-!
DEFINITION. SHA-256 (FIPS 180-4), by which the device checks a staged image (R401).
-/
namespace Sys2Proof.Machine

/-- The round constants. -/
def shaK : List (BitVec 32) :=
  [0x428a2f98#32, 0x71374491#32, 0xb5c0fbcf#32, 0xe9b5dba5#32, 0x3956c25b#32, 0x59f111f1#32, 0x923f82a4#32, 0xab1c5ed5#32]
  ++ [0xd807aa98#32, 0x12835b01#32, 0x243185be#32, 0x550c7dc3#32, 0x72be5d74#32, 0x80deb1fe#32, 0x9bdc06a7#32, 0xc19bf174#32]
  ++ [0xe49b69c1#32, 0xefbe4786#32, 0x0fc19dc6#32, 0x240ca1cc#32, 0x2de92c6f#32, 0x4a7484aa#32, 0x5cb0a9dc#32, 0x76f988da#32]
  ++ [0x983e5152#32, 0xa831c66d#32, 0xb00327c8#32, 0xbf597fc7#32, 0xc6e00bf3#32, 0xd5a79147#32, 0x06ca6351#32, 0x14292967#32]
  ++ [0x27b70a85#32, 0x2e1b2138#32, 0x4d2c6dfc#32, 0x53380d13#32, 0x650a7354#32, 0x766a0abb#32, 0x81c2c92e#32, 0x92722c85#32]
  ++ [0xa2bfe8a1#32, 0xa81a664b#32, 0xc24b8b70#32, 0xc76c51a3#32, 0xd192e819#32, 0xd6990624#32, 0xf40e3585#32, 0x106aa070#32]
  ++ [0x19a4c116#32, 0x1e376c08#32, 0x2748774c#32, 0x34b0bcb5#32, 0x391c0cb3#32, 0x4ed8aa4a#32, 0x5b9cca4f#32, 0x682e6ff3#32]
  ++ [0x748f82ee#32, 0x78a5636f#32, 0x84c87814#32, 0x8cc70208#32, 0x90befffa#32, 0xa4506ceb#32, 0xbef9a3f7#32, 0xc67178f2#32]

/-- The initial hash value. -/
def shaH0 : List (BitVec 32) :=
  [0x6a09e667#32, 0xbb67ae85#32, 0x3c6ef372#32, 0xa54ff53a#32, 0x510e527f#32, 0x9b05688c#32, 0x1f83d9ab#32, 0x5be0cd19#32]

/-- The message padded to whole blocks of 64 octets. -/
def shaPad (m : List Byte) : List Byte :=
  m ++ [0x80#8] ++ List.replicate ((119 - m.length % 64) % 64) 0#8 ++ (toLe 8 (8 * m.length)).reverse

/-- A block's sixteen words, big-endian. -/
def shaWords (b : List Byte) : List (BitVec 32) := (upTo 16).map (fun i => BitVec.ofNat 32 (beNat (slice b (4 * i) 4)))

/-- The message schedule: newest word first, `n` words added. -/
def shaSchedule : Nat → List (BitVec 32) → List (BitVec 32)
  | 0, w => w
  | n + 1, w =>
    let w2 := nth w 1 0
    let w7 := nth w 6 0
    let w15 := nth w 14 0
    let w16 := nth w 15 0
    let s0 := w15.rotateRight 7 ^^^ w15.rotateRight 18 ^^^ (w15 >>> 3)
    let s1 := w2.rotateRight 17 ^^^ w2.rotateRight 19 ^^^ (w2 >>> 10)
    shaSchedule n ((w16 + s0 + w7 + s1) :: w)

/-- One round. -/
def shaRound (s : List (BitVec 32)) (k w : BitVec 32) : List (BitVec 32) :=
  match s with
  | [a, b, c, d, e, f, g, h] =>
    let t1 := h + (e.rotateRight 6 ^^^ e.rotateRight 11 ^^^ e.rotateRight 25) + ((e &&& f) ^^^ (~~~e &&& g)) + k + w
    let t2 := (a.rotateRight 2 ^^^ a.rotateRight 13 ^^^ a.rotateRight 22) + ((a &&& b) ^^^ (a &&& c) ^^^ (b &&& c))
    [t1 + t2, a, b, c, d + t1, e, f, g]
  | _ => s

/-- One block. -/
def shaBlock (h : List (BitVec 32)) (b : List Byte) : List (BitVec 32) :=
  let w := (shaSchedule 48 (shaWords b).reverse).reverse
  ((shaK.zip w).foldl (fun s x => shaRound s x.1 x.2) h).zipWith (· + ·) h

/-- The blocks of a padded message. -/
def shaBlocks : Nat → List (BitVec 32) → List Byte → List (BitVec 32)
  | 0, h, _ => h
  | n + 1, h, m => shaBlocks n (shaBlock h (m.take 64)) (m.drop 64)

/-- SHA-256 of octets. -/
def sha256 (m : List Byte) : List Byte :=
  let p := shaPad m
  (shaBlocks (p.length / 64) shaH0 p).flatMap (fun w => (toLe 4 w.toNat).reverse)

end Sys2Proof.Machine
end

