-- ==== Sys2Proof/Machine/Events.lean ====
section
/-!
DEFINITION. Events, error records and single faults (R539-R561): delivery of event notifications, acknowledgement, the error
log, unit faults and their quarantine, and the staging of telemetry records.
-/
namespace Sys2Proof.Machine

/-! ## Telemetry staging (R553, R554) -/

/-- Bytes staged (R560 STAGING_USED). -/
def stagingUsed (d : Dev) : Nat := sumNat (d.tel.staged.map TelemRec.len)

/-- SAMPLE and FRAME records give way to events and errors (R554). -/
def TelemRec.weak (r : TelemRec) : Bool :=
  match r.body with | .sample _ => true | .frame _ _ => true | _ => false

/-- A record dropped and counted; event 127 at most once per second (R554). -/
def telemDrop (d : Dev) : Dev := raiseRate (count d 0x820006) 127 0 1 (sec 1) id

/-- The list without its oldest record that gives way, if there is one. -/
def dropWeak : List TelemRec → Option (List TelemRec)
  | [] => none
  | r :: t => if r.weak then some t else (dropWeak t).map (r :: ·)

/-- A record gathered in the 4 MiB staging buffer (R554); one that needs the room of two older ones takes both. -/
def stage (d : Dev) (body : TelemBody) (len : Nat) : Dev :=
  let r : TelemRec := ⟨body, len, tbNs d⟩
  if stagingUsed d + len ≤ 4194304 then { d with tel := { d.tel with staged := d.tel.staged ++ [r] } }
  else if r.weak then telemDrop d
  else
    match dropWeak d.tel.staged with
    | none => telemDrop d
    | some t =>
      if sumNat (t.map TelemRec.len) + len ≤ 4194304 then telemDrop { d with tel := { d.tel with staged := t ++ [r] } }
      else
        match dropWeak t with
        | some t2 => telemDrop (telemDrop { d with tel := { d.tel with staged := t2 ++ [r] } })
        | none => telemDrop d

/-! ## Event notification (R542, R543) -/

/-- One NOTIFY of an event to a subscription, under the session's own counter (R54). -/
def notifyOne (id sub ev : Nat) (time : Int) (data : Nat) (d : Dev) : Dev :=
  let d1 := numbered d id
  tell d1 id (.notifyEvent id (match session d1 id with | some y => y.notifySeq | none => 0) sub ev time data)

/-- The event subscriptions of all open sessions to `ev`, session by session (R542). -/
def eventSubs (d : Dev) (ev : Nat) : List (Nat × Nat) :=
  d.qdl.sessions.flatMap (fun x => (x.subs.filter (fun s => s.event && s.key = ev)).map (fun s => (x.id, s.id)))

/-- The runtime takes a P5 descriptor, notifies its subscribers and records it in telemetry (R542, R543). -/
def notifyEvent (d : Dev) : Dev :=
  match takeFrom d (pq 5) with
  | (d1, none) => d1
  | (d1, some p) =>
    match p.body with
    | .event ev flags data seq time =>
      let d2 := (eventSubs d1 ev).foldl (fun x s => notifyOne s.1 s.2 ev time data x) (foldMissed d1)
      if flag d2 ((0x8080 + ev) * 256 + 7) then stage d2 (.event ev flags data seq time) 64 else d2
    | _ => d1

/-- EVENT_NOTIFICATION: the runtime serves P5 while it runs (R542). -/
def execEventNotification (s : State) : Host.Outcome State Fault Refusal :=
  .next { s with d := if runtimeUp s.d then notifyEvent s.d else s.d }

/-- The command EVT_ACK clears the pending bits its mask names (R541). -/
def evtAckCore : Core := fun arg d =>
  if !argLen arg 16 then answer d .malformed
  else answer { d with ev := { d.ev with pending := d.ev.pending &&& (2 ^ 128 - 1 - leNat arg) } } .ok

/-- EVT_ACK (R541, R558). -/
def execEvtAck (r : Req) (arg : List Byte) (s : State) : Host.Outcome State Fault Refusal :=
  .next { s with d := serveExec r 0x800005 arg evtAckCore s.d }

/-! ## The error log (R552) -/

/-- The runtime pops an error record: kept among the last 1,024, written to telemetry, event 124 at most once per second. -/
def popError (d : Dev) : Dev :=
  match takeFrom d (pq 1) with
  | (d1, none) => d1
  | (d1, some p) =>
    match p.body with
    | .error r =>
      let d2 : Dev := { d1 with err := { d1.err with log := lastN 1024 (d1.err.log ++ [r]) } }
      raiseRate (stage d2 (.error r) 128) 124 0 1 (sec 1) id
    | _ => d1

/-- ERROR_RECORD (R552). -/
def execErrorRecord (s : State) : Host.Outcome State Fault Refusal :=
  .next { s with d := if runtimeUp s.d then popError s.d else s.d }

/-- The command ERR_LOG_CLEAR empties ERR_LOG (R559). -/
def errLogClearCore : Core := fun arg d =>
  if !argLen arg 0 then answer d .malformed else answer { d with err := { d.err with log := [] } } .ok

/-- ERR_LOG_CLEAR (R559). -/
def execErrLogClear (r : Req) (arg : List Byte) (s : State) : Host.Outcome State Fault Refusal :=
  .next { s with d := serveExec r 0x810005 arg errLogClearCore s.d }

/-! ## Single faults of four units (R548-R550) -/

/-- UNIT codes of the units that recover (R546). -/
def unitCode : RecoverUnit → Nat
  | .frameSecurity => 4 | .forwarding => 6 | .shaper => 7 | .bunting => 8

/-- The queues a unit takes its items from (R13). -/
def unitInputs : RecoverUnit → List Nat
  | .frameSecurity => [0, 1, 33]
  | .forwarding => [3, 6, 7, 37]
  | .shaper => (upTo 24).map (· + 8)
  | .bunting => [36]

/-- The open episode of a unit (R549). -/
def episode (d : Dev) (u : Nat) : Option (Nat × Nat × Nat) := findKey Prod.fst u d.err.episodes

/-- A unit takes items: it is not quarantined and no recovery of it runs (R548, R550). -/
def unitWorks (d : Dev) (u : RecoverUnit) : Bool :=
  !d.err.quarantined.testBit (unitCode u) && (episode d (unitCode u)).isNone

/-- A unit quarantined: the record, the unit off, event 126 (R549). -/
def quarantineUnit (d : Dev) (c inst code : Nat) : Dev :=
  raise (errBy (count { d with err := { d.err with quarantined := setBit d.err.quarantined c } } 0x81000A) 3 c inst 0x50 none none code 0 3) 126 (c * 256 + inst)

/-- A recovery ends: the unit takes its next item, or after the third fault it is quarantined (R548, R549). -/
def unitRecovered (u : RecoverUnit) (d : Dev) : Dev :=
  let c := unitCode u
  match episode d c with
  | none => d
  | some e =>
    let d1 : Dev := { d with err := { d.err with episodes := dropKey Prod.fst c d.err.episodes } }
    if 3 ≤ e.2.1 then quarantineUnit d1 c 0 e.2.2 else d1

/-- UNIT_RECOVERED (R548, R549). -/
def execUnitRecovered (u : RecoverUnit) (s : State) : Host.Outcome State Fault Refusal :=
  .next { s with d := unitRecovered u s.d }

/-- The command UNIT_RESTORE returns a quarantined unit to service (R550, R559). -/
def unitRestoreCore : Core := fun arg d =>
  match arg with
  | [b] =>
    let u := b.toNat
    if u = 4 ∨ u = 6 ∨ u = 7 ∨ u = 8 then
      if d.err.quarantined.testBit u then
        answer (raise { d with err := { d.err with quarantined := clearBit d.err.quarantined u } } 126 (2147483648 + u * 256)) .ok
      else answer d .wrongMode
    else answer d .outOfRange
  | _ => answer d .malformed

/-- UNIT_RESTORE (R550). -/
def execUnitRestore (r : Req) (arg : List Byte) (s : State) : Host.Outcome State Fault Refusal :=
  .next { s with d := serveExec r 0x81000B arg unitRestoreCore s.d }

/-- The command TELEM_FREEZE holds or resumes copies into the ring (R556). -/
def telemFreezeCore : Core := fun arg d =>
  match arg with
  | [b] => match argBool b with
    | some f => answer { d with tel := { d.tel with frozen := f } } .ok
    | none => answer d .outOfRange
  | _ => answer d .malformed

/-- TELEM_FREEZE (R556). -/
def execTelemFreeze (r : Req) (arg : List Byte) (s : State) : Host.Outcome State Fault Refusal :=
  .next { s with d := serveExec r 0x820005 arg telemFreezeCore s.d }

end Sys2Proof.Machine
end

