-- ==== Sys2Proof/Machine/Schedule.lean ====
section
/-!
DEFINITION. The schedule as data (R160-R193): cells and when they meet, hopping, deltas and their checks, and the commands on
the staged delta.
-/
namespace Sys2Proof.Machine

/-! ## Cells and slots -/

/-- A bit of OPTIONS (R164). -/
def Cell.opt (c : Cell) (i : Nat) : Bool := c.options.testBit i
def Cell.tx (c : Cell) : Bool := c.opt 0
def Cell.rx (c : Cell) : Bool := c.opt 1
def Cell.shared (c : Cell) : Bool := c.opt 2
def Cell.timekeeping (c : Cell) : Bool := c.opt 3
def Cell.adv (c : Cell) : Bool := c.opt 4
def Cell.allChannel (c : Cell) : Bool := c.opt 5
def Cell.rescue (c : Cell) : Bool := c.opt 6
def Cell.rescueAdv (c : Cell) : Bool := c.opt 7
def Cell.mcast (c : Cell) : Bool := c.opt 8
def Cell.expectedFirst (c : Cell) : Bool := c.opt 9
def Cell.unsecuredOk (c : Cell) : Bool := c.opt 10

/-- The single neighbour of a cell (R163). -/
def Cell.single (c : Cell) : Option Nat := if c.neighbour = 0xFFFF then none else some c.neighbour

/-- The identity of a cell (R163). -/
def Cell.same (a b : Cell) : Bool := a.handle = b.handle && a.slotOffset = b.slotOffset && a.loc = b.loc

/-- CELL of a receive descriptor (R166). -/
def cellRef (handle loc : Nat) : Nat := handle * 1024 + loc

/-- The slotframe of a handle. -/
def SchedVer.frame (v : SchedVer) (h : Nat) : Option Slotframe := v.frames.find? (fun f => f.handle = h)

/-- SIZE and band of a cell's slotframe. -/
def SchedVer.size (v : SchedVer) (c : Cell) : Nat := match v.frame c.handle with | some f => f.size | none => 0
def SchedVer.bandOf (v : SchedVer) (c : Cell) : Band := match v.frame c.handle with | some f => f.band | none => .sf

/-- The cell is active in the slot with ASN `a` (R162). -/
def SchedVer.activeAt (v : SchedVer) (a : Nat) (c : Cell) : Bool := 0 < v.size c && a % v.size c = c.slotOffset

/-- The default hopping sequences (R169). -/
def defaultHop (d : Dev) : Band → List Nat
  | .g => [16, 17, 23, 18, 26, 15, 25, 22, 19, 11, 12, 13, 24, 14, 20, 21]
  | .sf => if numN d 0x200001 = 1 then [3, 8, 1, 6, 9, 4, 0, 7, 2, 5] else [5, 0, 9, 3, 11, 7, 2, 10, 4, 8, 1, 6]

/-- The hopping sequence of a band (R168, R169). -/
def SchedVer.hop (v : SchedVer) (d : Dev) (b : Band) : List Nat :=
  let l := match b with | .sf => v.hopSf | .g => v.hopG
  if l.isEmpty then defaultHop d b else l

/-- The channel of a cell in the slot with ASN `a` (R168). -/
def hopChannel (l : List Nat) (a chOffset : Nat) : Nat := nth l ((a + chOffset) % l.length) 0

/-- T0 of the slot with ASN `a` (R160); the slots before ASN_REF keep the length they had (R161). -/
def t0Of (d : Dev) (a : Nat) : Int :=
  d.sched.asnRefTime + ((a : Int) - (d.sched.asnRef : Int)) * (if a < d.sched.asnRef then (d.sched.prevLen : Int) else (d.sched.ver.tmpl.slotLen : Int))

/-- ASN of the latest slot whose T0 is at or before a time (R195). -/
def asnAt (d : Dev) (t : Int) : Int :=
  (d.sched.asnRef : Int) + (t - d.sched.asnRefTime) / (if t < d.sched.asnRefTime then (d.sched.prevLen : Int) else (d.sched.ver.tmpl.slotLen : Int))

/-- The slot offsets a cell covers (R179). -/
def SchedVer.covers (v : SchedVer) (c : Cell) : List Nat :=
  (upTo (Nat.max 1 c.span)).map (fun k => (c.slotOffset + k) % Nat.max 1 (v.size c))

/-- Offsets `o1` of size `s1` and `o2` of size `s2` share a slot (R179). -/
def offsetsMeet (o1 s1 o2 s2 : Nat) : Bool := o1 % Nat.gcd s1 s2 = o2 % Nat.gcd s1 s2

/-- Two cells coincide in some slot (R179). -/
def SchedVer.meet (v : SchedVer) (a b : Cell) : Bool :=
  (v.covers a).any (fun x => (v.covers b).any (fun y => offsetsMeet x (v.size a) y (v.size b)))

/-! ## Deltas as octets (R183, R184) -/

/-- A signed 16-bit field. -/
def i16At (l : List Byte) (o : Nat) : Int := signedOf 2 (leAt l o 2)

/-- A cell record's octets (R163), or none where a reserved octet is set (R4). -/
def cellOf (p : List Byte) : Option Cell :=
  if p.length ≠ 32 || (p.drop 18).any (· ≠ 0) || 3 < leAt p 14 1 || 4095 < leAt p 6 2 then none
  else some { handle := leAt p 0 1, loc := leAt p 1 1, slotOffset := leAt p 2 2, chOffset := leAt p 4 1, cls := leAt p 5 1,
              options := leAt p 6 2, neighbour := leAt p 8 2, txPower := i16At p 10, maxPsdu := leAt p 12 2, spread := leAt p 14 1,
              span := leAt p 15 1, group := leAt p 16 2 }

/-- A cell record as octets (R163). -/
def cellOctets (c : Cell) : List Byte :=
  toLe 1 c.handle ++ toLe 1 c.loc ++ toLe 2 c.slotOffset ++ toLe 1 c.chOffset ++ toLe 1 c.cls ++ toLe 2 c.options
    ++ toLe 2 c.neighbour ++ toLe 2 (c.txPower % 65536).toNat ++ toLe 2 c.maxPsdu ++ toLe 1 c.spread ++ toLe 1 c.span
    ++ toLe 2 c.group ++ List.replicate 14 0

/-- The band of a BAND octet. -/
def bandOf (n : Nat) : Option Band := if n = 0 then some .sf else if n = 1 then some .g else none

/-- An operation from its opcode and payload (R184); none is reason FORMAT. -/
def deltaOp (code : Nat) (p : List Byte) : Option DeltaOp :=
  match code with
  | 1 =>
    if p.length ≠ 36 then none
    else some (.setTiming { slotLen := leAt p 0 4, txOffset := leAt p 4 4, ackDelay := leAt p 8 4, ackGuard := leAt p 12 4,
                            sharedGuard := leAt p 16 4, guardBudget := leAt p 20 4, slotTail := leAt p 24 4, ackPsdu := leAt p 28 2,
                            rescueLead := leAt p 30 4, minBe := leAt p 34 1, maxBe := leAt p 35 1 })
  | 2 => if p.length ≠ 4 then none else (bandOf (leAt p 1 1)).map (fun b => .addFrame ⟨leAt p 0 1, b, leAt p 2 2⟩)
  | 3 => if p.length ≠ 1 then none else some (.delFrame (leAt p 0 1))
  | 4 => (cellOf p).map .addCell
  | 5 => if p.length ≠ 4 then none else some (.delCell (leAt p 0 1) (leAt p 1 1) (leAt p 2 2))
  | 6 => (cellOf p).map .modCell
  | 7 =>
    if p.length < 2 || p.length ≠ 2 + leAt p 1 1 then none
    else (bandOf (leAt p 0 1)).map (fun b => .setHop b ((p.drop 2).map (fun x => x.toNat)))
  | _ => none

/-- The operations of a body as (opcode, reserved octet, payload), or none where the lengths do not fill it; the fuel is the
number of operations and one more. -/
def splitOps : Nat → List Byte → Option (List (Nat × Nat × List Byte))
  | 0, _ => none
  | n + 1, l =>
    if l.isEmpty then some []
    else if l.length < 4 + leAt l 2 2 then none
    else (splitOps n (l.drop (4 + leAt l 2 2))).map ((leAt l 0 1, leAt l 1 1, slice l 4 (leAt l 2 2)) :: ·)

/-- A delta whose layout is sound (R183). -/
structure DeltaMsg where
  district : Nat
  epoch : Nat
  seq : Nat
  align : Nat
  switchAsn : Nat
  ops : List (Nat × Nat × List Byte)
  deriving DecidableEq, Repr

/-- The layout of a delta: lengths, FORMAT and reserved fields (R183, first check of R185). -/
def deltaLayout (l : List Byte) : Option DeltaMsg :=
  if l.length < 100 || 65536 < l.length || leAt l 0 1 ≠ 1 || leAt l 1 1 ≠ 0 || leAt l 13 3 ≠ 0 || leAt l 26 2 ≠ 0 then none
  else if 1099511627776 ≤ leAt l 16 8 || leAt l 24 2 = 0 || 4096 < leAt l 24 2 || l.length ≠ 96 + leAt l 28 4 then none
  else
    match splitOps (leAt l 24 2 + 1) (slice l 32 (leAt l 28 4)) with
    | some ops =>
      if ops.length ≠ leAt l 24 2 || ops.any (fun o => o.2.1 ≠ 0) then none
      else some { district := leAt l 2 2, epoch := leAt l 4 4, seq := leAt l 8 4, align := leAt l 12 1, switchAsn := leAt l 16 8, ops := ops }
    | none => none

/-! ## The checks of an accepted schedule (R165-R181) -/

/-- The values of SET_TIMING are in range (R198). -/
def timingOk (t : Template) : Bool :=
  2000000 ≤ t.slotLen && t.slotLen ≤ 50000000 && t.slotLen % 100000 = 0 && 200000 ≤ t.txOffset && t.txOffset + 1000000 ≤ t.slotLen
    && 300000 ≤ t.ackDelay && t.ackDelay ≤ 4000000 && 50000 ≤ t.ackGuard && t.ackGuard ≤ 1000000 && t.ackGuard + 200000 ≤ t.ackDelay
    && 100000 ≤ t.sharedGuard && t.sharedGuard ≤ 4000000 && t.guardBudget ≤ 4000000 && 100000 ≤ t.slotTail && t.slotTail ≤ 1000000
    && 5 ≤ t.ackPsdu && t.ackPsdu ≤ 127 && 100000 ≤ t.rescueLead && t.rescueLead ≤ 2000000 && t.minBe ≤ 7 && t.minBe ≤ t.maxBe && t.maxBe ≤ 8

/-- Output power within the band's range, 0.5 dB units (R112). -/
def powerOk (b : Band) (p : Int) : Bool := decide (-40 ≤ p) && decide (p ≤ match b with | .sf => 44 | .g => 24)

/-- Each field of a cell lies in its range (R163, R185). -/
def cellOk (d : Dev) (v : SchedVer) (c : Cell) : Bool :=
  match v.frame c.handle with
  | none => false
  | some f =>
    c.handle ≤ 63 && c.loc ≤ 63 && c.slotOffset < f.size && c.chOffset < (v.hop d f.band).length && c.cls ≤ 5 && powerOk f.band c.txPower
      && 5 ≤ c.maxPsdu && c.maxPsdu ≤ 511 && c.spread ≤ 3 && 1 ≤ c.span && c.span ≤ 8 && c.options < 4096
      && (c.mcast || c.group = 0)

/-- One operation applied to a version; none is reason FORMAT (R184, R185), as it is where ADD_SLOTFRAME names a handle already present, or
DEL_SLOTFRAME, DEL_CELL or MOD_CELL what is not present (log 130). -/
def applyOp (d : Dev) (v : SchedVer) : DeltaOp → Option SchedVer
  | .setTiming t => if timingOk t then some { v with tmpl := t } else none
  | .addFrame f => if 63 < f.handle || f.size = 0 || (v.frame f.handle).isSome then none else some { v with frames := v.frames ++ [f] }
  | .delFrame h =>
    if (v.frame h).isNone then none
    else some { v with frames := v.frames.filter (fun f => f.handle ≠ h), cells := v.cells.filter (fun c => c.handle ≠ h) }
  | .addCell c => if !cellOk d v c || v.cells.any (fun x => x.same c) then none else some { v with cells := v.cells ++ [c] }
  | .delCell h l o =>
    if v.cells.any (fun x => x.handle = h && x.loc = l && x.slotOffset = o) then
      some { v with cells := v.cells.filter (fun x => !(x.handle = h && x.loc = l && x.slotOffset = o)) }
    else none
  | .modCell c =>
    if cellOk d v c && v.cells.any (fun x => x.same c) then some { v with cells := v.cells.map (fun x => if x.same c then c else x) }
    else none
  | .setHop b l =>
    if l.isEmpty || 64 < l.length || l.any (fun x => !(bandChannels d b).contains x) then none
    else some (match b with | .sf => { v with hopSf := l } | .g => { v with hopG := l })

/-- The operations applied in order (R184). -/
def applyOps (d : Dev) : List DeltaOp → SchedVer → Option SchedVer
  | [], v => some v
  | o :: t, v => match applyOp d v o with | some w => applyOps d t w | none => none

/-- The option rules (R165). -/
def optionsOk (d : Dev) (v : SchedVer) (c : Cell) : Bool :=
  let b := v.bandOf c
  (c.tx || c.rx) && (!c.allChannel || (c.rx && !c.tx)) && (!c.rescue || (c.allChannel && c.cls = 0))
    && (!(c.adv || c.rescueAdv) || (c.tx && c.cls = 0)) && (!c.rescueAdv || c.adv)
    && (!c.mcast || (c.tx && !c.rx && c.neighbour = 0xFFFF && c.cls = 3))
    && (!(c.expectedFirst || c.timekeeping) || (c.rx && c.neighbour ≠ 0xFFFF)) && spreadOk b c.spread
    && (!(127 < c.maxPsdu && c.rx) || flag d (bandLaneKey b 5))

/-- A delta may not place a cell inside another cell's span where the two can coincide (R167). -/
def spanOk (v : SchedVer) : Bool :=
  v.cells.all (fun a => v.cells.all (fun b =>
    a.same b || v.bandOf a ≠ v.bandOf b
      || !((v.covers a).tail.any (fun x => offsetsMeet x (v.size a) b.slotOffset (v.size b)))))

/-- The fit conditions (R176, R178). -/
def fitOk (v : SchedVer) (c : Cell) : Bool :=
  let t := v.tmpl
  let b := v.bandOf c
  let room := c.span * t.slotLen
  let ack := if c.mcast || c.adv then 0 else t.ackDelay + airNs b c.spread t.ackPsdu
  t.txOffset + t.guardBudget + airNs b c.spread c.maxPsdu + ack + t.slotTail ≤ room
    && (!c.rescue || t.rescueLead + 9000000 + t.slotTail ≤ room)

/-- The node record of a short address. -/
def nodeOf (d : Dev) (short : Nat) : Option Node := d.nbr.nodes.find? (fun n => n.short = short)

/-- The Pennant record of a short address (R202). -/
def pennantOf (d : Dev) (short : Nat) : Option Pennant := (nodeOf d short).bind Node.pennant

/-- Expected level of a cell of a band, 0.1 dBm at the ball (R110, R180). -/
def expectedLevel (d : Dev) (b : Band) (neighbour : Option Nat) : Int :=
  let base := match neighbour.bind (pennantOf d) with
    | some p => if p.rssiValid then p.rssi else num d (feKey b 9)
    | none => num d (feKey b 9)
  base + num d (feKey b 0x0A)

/-- The cell counts as a receive cell: it listens, or has an acknowledgement window (R180). -/
def Cell.receives (c : Cell) : Bool := c.rx || (c.tx && !c.mcast && !c.adv)

/-- The near-far check (R180). -/
def nearFarOk (d : Dev) (v : SchedVer) : Bool :=
  let rs := v.cells.filter Cell.receives
  rs.all (fun a => rs.all (fun b =>
    v.bandOf a ≠ v.bandOf b || !v.meet a b
      || (expectedLevel d (v.bandOf a) a.single - expectedLevel d (v.bandOf b) b.single).natAbs ≤ 450))

/-- The channels a cell can use (R181). -/
def reach' (d : Dev) (v : SchedVer) (c : Cell) : List Nat :=
  let b := v.bandOf c
  if c.allChannel then bandChannels d b
  else
    let h := v.hop d b
    ((upTo h.length).map (fun k => hopChannel h (c.slotOffset + k * v.size c) c.chOffset)).eraseDups

/-- The pairs of channel and spreading level a cell needs (R181). -/
def pairsOf (d : Dev) (v : SchedVer) (c : Cell) : List (Nat × Nat) := (reach' d v c).map (fun ch => (ch, c.spread))

/-- Some set of coinciding receive cells, those `chosen` among them, needs more than `limit` pairs (R179, R181). -/
def lanesShort (d : Dev) (v : SchedVer) (limit : Nat) : List Cell → List Cell → List (Nat × Nat) → Bool
  | [], _, ps => limit < ps.length
  | c :: t, chosen, ps =>
    (chosen.all (fun x => v.meet x c) && lanesShort d v limit t (c :: chosen) ((pairsOf d v c) ++ ps).eraseDups)
      || lanesShort d v limit t chosen ps

/-- The lane check (R181). -/
def lanesOk (d : Dev) (v : SchedVer) : Bool :=
  [Band.sf, Band.g].all (fun b =>
    let limit := ((bandLanes b).filter (fun n => (lane d n).state ≠ .quarantined)).length
    !lanesShort d v limit (v.cells.filter (fun c => c.receives && v.bandOf c = b)) [] [])

/-! ## Checking a delta (R185-R188) -/

/-- Reasons of R185. -/
def reasonOf (st : Status) (r : Nat) : Status × Nat := (st, r)

/-- The slotframe whose boundaries a late delta uses (R188): outer none is reason FORMAT, inner none no boundary. -/
def alignFrame (m : DeltaMsg) (ops : List DeltaOp) (v : SchedVer) : Option (Option Slotframe) :=
  if m.align ≤ 63 then (v.frame m.align).map some
  else if m.align ≠ 255 then none
  else
    let touched := ops.filterMap (fun o => match o with
      | .addFrame f => some f.handle | .delFrame h => some h | .addCell c => some c.handle | .delCell h _ _ => some h
      | .modCell c => some c.handle | _ => none)
    let lowest (l : List Slotframe) : Option Slotframe :=
      l.foldl (fun b f => match b with | none => some f | some x => if f.handle < x.handle then some f else some x) none
    match lowest (v.frames.filter (fun f => touched.contains f.handle)) with
    | some f => some (some f)
    | none => some (lowest v.frames)

/-- The first ASN from `a` on that is a boundary of the slotframe (R187). -/
def boundary (a : Nat) : Option Slotframe → Nat
  | none => a
  | some f => ceilDiv a (Nat.max 1 f.size) * Nat.max 1 f.size

/-- A delta accepted: what it becomes, and the schedule it leads to. -/
structure DeltaPlan where
  pd : PendingDelta
  own : Nat
  deriving DecidableEq, Repr

/-- The cells that operations leave by their identities, as far as each can be read (R162, R184). -/
def cellsLeft (l : List (Nat × Nat × Nat)) (o : Nat × Nat × List Byte) : List (Nat × Nat × Nat) :=
  let p := o.2.2
  let h := leAt p 0 1
  if o.1 = 4 && p.length = 32 then (let x := (h, leAt p 2 2, leAt p 1 1); if l.contains x then l else l ++ [x])
  else if o.1 = 5 && p.length = 4 then l.erase (h, leAt p 2 2, leAt p 1 1)
  else if o.1 = 3 && p.length = 1 then l.filter (fun x => x.1 ≠ h)
  else l

/-- The table limits (R162): 1,048,576 cells, and 64 of a slotframe at one slot offset. -/
def tableExceeded (l : List (Nat × Nat × Nat)) : Bool :=
  1048576 < l.length || l.any (fun x => 64 < (l.filter (fun y => y.1 = x.1 && y.2.1 = x.2.1)).length)

/-- The checks from the schedule on (R185, from the table limits), on the operations. -/
def checkOps (d : Dev) (m : DeltaMsg) (base : SchedVer) : Except (Status × Nat) (List DeltaOp × SchedVer × Option Slotframe) :=
  if tableExceeded (m.ops.foldl cellsLeft (base.cells.map (fun c => (c.handle, c.slotOffset, c.loc)))) then .error (.tableFull, 8)
  else
    match m.ops.mapM (fun o => deltaOp o.1 o.2.2) with
    | none => .error (.outOfRange, 1)
    | some ops =>
      match applyOps d ops base with
      | none => .error (.outOfRange, 1)
      | some v =>
        match alignFrame m ops v with
        | none => .error (.outOfRange, 1)
        | some f =>
          if !v.cells.all (cellOk d v) then .error (.outOfRange, 1)
          else if !v.cells.all (optionsOk d v) then .error (.outOfRange, 9)
          else if !spanOk v then .error (.outOfRange, 10)
          else if !v.cells.all (fitOk v) then .error (.outOfRange, 11)
          else if !nearFarOk d v then .error (.outOfRange, 12)
          else if !lanesOk d v then .error (.outOfRange, 13)
          else .ok (ops, v, f)

/-- The schedule as it will stand once every pending delta has applied. -/
def baseVersion (d : Dev) : SchedVer :=
  d.sched.pending.foldl (fun v p => (applyOps d p.ops v).getD v) d.sched.ver

/-- The checks of R185 in order; `sigOk` says whether SIG verifies under MANAGER_PUB. -/
def checkDelta (d : Dev) (sigOk : Bool) (l : List Byte) : Except (Status × Nat) DeltaPlan :=
  match deltaLayout l with
  | none => .error (.outOfRange, 1)
  | some m =>
    let last := d.sched.accepted
    if !sigOk then .error (.accessDenied, 2)
    else if m.district ≠ d.hier.district then .error (.outOfRange, 3)
    else if m.epoch ≠ d.sched.epoch then .error (.epochStale, 4)
    else if m.seq ≤ last then .error (.counterStale, 5)
    else if m.seq ≠ last + 1 then .error (.outOfRange, 5)
    else if d.sched.st ≠ .running then .error (.leaseExpired, 6)
    else if 16 ≤ d.sched.pending.length then .error (.busy, 7)
    else
      match checkOps d m (baseVersion d) with
      | .error e => .error e
      | .ok (ops, _, f) =>
        match d.sched.prepAsn with
        | none => .ok ⟨⟨m.seq, m.switchAsn, false, ops⟩, m.switchAsn⟩
        | some p =>
          let late := m.switchAsn ≤ p
          -- a late delta of lower SEQ that switches later takes this one with it (R187)
          let a := d.sched.pending.foldl (fun x q => if q.late then Nat.max x q.at_ else x) (if late then boundary (p + 64) f else m.switchAsn)
          .ok ⟨⟨m.seq, a, late, ops⟩, m.switchAsn⟩

/-- A report to the manager through P4 (R371). -/
def report (d : Dev) (kind bandNo arg0 arg1 : Nat) : Dev :=
  push' d (pq 4) ⟨0x0F, 0, 0, none, .hier kind bandNo d.hier.district d.sched.epoch arg0 arg1 none⟩

/-- A link to a device is up (R368). -/
def linkUp (d : Dev) (peer : Nat) : Bool := d.hier.links.any (fun l => l.peer = peer && l.up)

/-- The identifier of a request, by its message's type (R370). -/
def reqId : HlMsg → Option (Nat × Nat)
  | .heartbeat seq _ _ _ _ _ _ _ => some (0x10, seq)
  | .peerProbe id => some (0x12, id)
  | .witnessReq id _ => some (0x14, id)
  | .claim id _ _ _ _ => some (0x30, id)
  | .deltaPart id _ off _ => some (0x40, id * 4294967296 + off)
  | .takeover district _ epoch _ _ => some (0x42, district * 4294967296 + epoch)
  | .keyMsg l _ => some (0x50, leAt l 56 8)
  | .relayReq q _ _ => some (0x60, q)
  | _ => none

/-- The identifier of the request that a message answers (R370); a READY answers the TAKEOVER of the present epoch. -/
def ansId (epoch : Nat) : HlMsg → Option (Nat × Nat)
  | .hbAck seq _ _ _ _ _ => some (0x10, seq)
  | .peerAnswer id _ => some (0x12, id)
  | .witnessRsp id _ _ _ => some (0x14, id)
  | .verdict id _ _ => some (0x30, id)
  | .deltaResult id _ _ _ => some (0x40, id)
  | .ready district _ => some (0x42, district * 4294967296 + epoch)
  | .keyResult ctr _ => some (0x50, ctr)
  | .relayRsp q _ _ => some (0x60, q)
  | _ => none

/-- Relayed requests and responses keep the rules of R43 beside those of R369 (R394). -/
def relayed : HlMsg → Bool
  | .relayReq .. => true
  | .relayRsp .. => true
  | _ => false

/-- An answer kept for a repetition of its request (R370); the DELTA_RESULT of a DELTA_SUBMIT is not repeated (R185). -/
def noteAnswer (d : Dev) (peer : Nat) (m : HlMsg) : Dev :=
  match if relayed m then none else ansId d.sched.epoch m with
  | some i =>
    let rest := d.hier.answers.filter (fun a => !(a.1 = peer && a.2.1 = i.1 && a.2.2.1 = i.2))
    if i = (0x40, 0) then d else { d with hier := { d.hier with answers := rest ++ [(peer, i.1, i.2, some m)] } }
  | none => d

/-- A message sent on a hierarchy link that is up (R369, R370): SEQ rises and a request is kept until it is answered. An answer is kept for a
repetition of its request even where the link is down. -/
def hlSend (d : Dev) (peer : Nat) (m : HlMsg) : Dev :=
  let d1 := noteAnswer d peer m
  if !linkUp d peer then d1
  else
    let ls := d1.hier.links.map (fun l => if l.peer = peer then { l with txSeq := l.txSeq + 1 } else l)
    let rs := match reqId m with
      | some i => d1.hier.requests.filter (fun r => !(r.peer = peer && reqId r.msg = some i)) ++ [HlReq.mk peer m d1.clk.up]
      | none => d1.hier.requests
    emit { d1 with hier := { d1.hier with links := ls, requests := rs } } (.hl peer m)

/-- The number of a QDL status (R34). -/
def statusCode : Status → Nat
  | .ok => 0x0000 | .malformed => 0x0001 | .noSession => 0x0002 | .busy => 0x0003 | .unreachable => 0x0004 | .noEntry => 0x0101
  | .accessDenied => 0x0102 | .typeMismatch => 0x0103 | .outOfRange => 0x0104 | .wrongMode => 0x0105 | .holdupLow => 0x0201
  | .nvWorn => 0x0202 | .synthBusy => 0x0301 | .txLate => 0x0302 | .keyRevokedParent => 0x0401 | .keyExpired => 0x0402
  | .keyUseExhausted => 0x0403 | .counterStale => 0x0404 | .tamper => 0x0405 | .imageBadBlock => 0x0501 | .imageBadSignature => 0x0502
  | .migrationFailed => 0x0503 | .epochStale => 0x0601 | .leaseExpired => 0x0602 | .queueReset => 0x0701 | .tableFull => 0x0702
  | .budgetDenied => 0x0801

/-- A worker has seen a higher epoch of its district (R386, R387): FENCED, transmission stops, events 109 and 46, a report. -/
def fence (d : Dev) (epoch : Nat) : Dev :=
  if d.hier.st = .fenced then d
  else
    let d1 : Dev := { d with hier := { d.hier with st := .fenced, fenceEpoch := epoch }
                             sched := { d.sched with st := .stopped, stopCause := 2 } }
    let d2 := raise (if d.sched.st = .autonomous then raise d1 47 0 else d1) 109 epoch
    push' (raise d2 46 2) (pq 4) ⟨0x0F, 0, 0, none, .hier 5 255 d.hier.district epoch 0 0 none⟩

/-- The outcome of a delta recorded and told to the manager (R185, R187). -/
def deltaOutcome (d : Dev) (id : Nat) (st : Status) (reason asn : Nat) : Dev :=
  let d1 : Dev := { d with sched := { d.sched with lastStatus := statusCode st, lastReason := reason } }
  hlSend (if st = .ok then d1 else raise d1 42 (statusCode st * 256 + reason)) 0 (.deltaResult id (statusCode st) reason asn)

/-- An accepted delta becomes a pending version, late if need be (R186, R187). -/
def acceptDelta (d : Dev) (x : DeltaPlan) (id : Nat) : Dev :=
  let d1 : Dev := { d with sched := { d.sched with pending := d.sched.pending ++ [x.pd], accepted := x.pd.seq } }
  let d2 := if x.pd.late then
      report (raise (count d1 0x300008) 41 (Nat.min maxU32 (x.pd.at_ - x.own))) 4 255 x.own x.pd.at_
    else d1
  deltaOutcome d2 id .ok 0 x.pd.at_

/-- A delta placed in the runtime working space, of 16,384 blocks of 64 KiB, at a free block (R196, log 129): its store address. -/
def keepDelta (d : Dev) (l : List Byte) : Dev × Nat :=
  let at_ (k : Nat) : Nat := 0x38000000 + 65536 * k
  let k := (firstFrom (fun k => d.sched.working.all (fun x => x.1 ≠ at_ k)) 16384 (d.sched.working.length + 1) (Config.workPick d.free)).getD 0
  (drawn { d with sched := { d.sched with working := d.sched.working ++ [(at_ k, l)] } }, at_ k)

/-- The octets that a delta's descriptor names, and the working space without them (R196). -/
def takeDelta (d : Dev) (addr dlen : Nat) : Dev × List Byte :=
  ({ d with sched := { d.sched with working := d.sched.working.filter (fun x => x.1 ≠ addr) } },
   (match d.sched.working.find? (fun (x : Nat × List Byte) => x.1 = addr) with | some x => x.2 | none => []).take dlen)

/-- A delta checked under R185 to R188, accepted or rejected; a higher epoch also fences (R386). The status, and the switch ASN to be used. -/
def judgeDelta (sigOk : Bool) (id : Nat) (l : List Byte) (d : Dev) : Dev × Status × Nat :=
  match checkDelta d sigOk l with
  | .ok x => (acceptDelta d x id, .ok, x.pd.at_)
  | .error (st, r) =>
    let d2 := deltaOutcome d id st r 0
    (match deltaLayout l with
      | some m => if r = 4 ∧ d.sched.epoch < m.epoch then fence d2 m.epoch else d2
      | none => d2, st, 0)

/-- The runtime checks the next delta of P3 and frees its space (R185-R188, R196). -/
def checkNext (sigOk : Bool) (d : Dev) : Dev × Status × Nat :=
  match takeFrom d (pq 3) with
  | (d1, none) => (d1, .noEntry, 0)
  | (d1, some p) =>
    match p.body with
    | .delta _ id addr dlen _ => let x := takeDelta d1 addr dlen; judgeDelta sigOk id x.2 x.1
    | _ => (d1, .noEntry, 0)

/-- The runtime checks the next delta of P3 (R185). -/
def deltaCheck (sigOk : Bool) (d : Dev) : Dev := (checkNext sigOk d).1

/-- The deltas that wait in P3 before another, checked in their order (R196); their signatures are free here (log 4). -/
def checkWaiting : Nat → Dev → Dev
  | 0, d => d
  | n + 1, d => checkWaiting n (checkNext (Config.deltaSig d.free) (drawn d)).1

/-- DELTA_CHECK (R185). -/
def execDeltaCheck (sigOk : Bool) (s : State) : Host.Outcome State Fault Refusal :=
  onDevSettled s (fun d => if qdlServed d && d.pwr.mode ≠ .m9 then deltaCheck sigOk d else d)

/-! ## The staged delta and queries (R196, R200) -/

/-- Content staged for a BULK target (R55): offset and octet pairs. -/
def stagedOctets (d : Dev) (key : Nat) : List (Nat × Byte) :=
  match d.qdl.staged.find? (fun x => x.1 = key) with | some x => x.2 | none => []

/-- The staged content as a string of `n` octets; an octet never staged is free (log 29). -/
def stagedString (d : Dev) (key n : Nat) : List Byte :=
  let l := stagedOctets d key
  (upTo n).map (fun i => match l.find? (fun x => x.1 = i) with | some x => x.2 | none => Config.unstaged i)

/-- One past the highest offset staged. -/
def stagedEnd (d : Dev) (key : Nat) : Nat := (stagedOctets d key).foldl (fun m x => Nat.max m (x.1 + 1)) 0

/-- Staged content discarded. -/
def unstage (d : Dev) (key : Nat) : Dev := { d with qdl := { d.qdl with staged := d.qdl.staged.filter (fun x => x.1 ≠ key) } }

/-- The command DELTA_SUBMIT (R196, R200): the staged delta goes to P3 and is checked there, after those that wait before it; STATUS and RESULT
are the check's (R50). -/
def deltaSubmitCore (sigOk : Bool) : Core := fun arg d =>
  if !argLen arg 0 then answer d .malformed
  else
    let l := stagedString d 0x301001 (stagedEnd d 0x301001)
    let w := keepDelta d l
    let r := push w.1 (pq 3) ⟨0x0E, 0, 0, none, .delta 1 0 w.2 l.length (tbNs d)⟩
    if !r.2 then answer (takeDelta r.1 w.2 0).1 .busy
    else
      let x := checkNext sigOk (checkWaiting ((queue d (pq 3)).count + (if (queue d (pq 3)).taken.isSome then 1 else 0)) r.1)
      if x.2.1 = .ok then (x.1, .ok, toLe 8 x.2.2) else answer x.1 x.2.1

/-- DELTA_SUBMIT (R200). -/
def execDeltaSubmit (r : Req) (arg : List Byte) (sigOk : Bool) (s : State) : Host.Outcome State Fault Refusal :=
  onDevSettled s (serveExec r 0x301002 arg (deltaSubmitCore sigOk))

/-- The command DELTA_DISCARD (R200). -/
def deltaDiscardCore : Core := fun arg d =>
  if !argLen arg 0 then answer d .malformed else answer (unstage d 0x301001) .ok

/-- DELTA_DISCARD (R200). -/
def execDeltaDiscard (r : Req) (arg : List Byte) (s : State) : Host.Outcome State Fault Refusal :=
  onDev s (serveExec r 0x301003 arg deltaDiscardCore)

/-- The command CELL_QUERY: HANDLE, LOCAL, SLOT_OFFSET (R200). -/
def cellQueryCore : Core := fun arg d =>
  if !argLen arg 4 then answer d .malformed
  else
    match d.sched.ver.cells.find? (fun c => c.handle = leAt arg 0 1 && c.loc = leAt arg 1 1 && c.slotOffset = leAt arg 2 2) with
    | some c => (d, .ok, cellOctets c)
    | none => answer d .noEntry

/-- CELL_QUERY (R200). -/
def execCellQuery (r : Req) (arg : List Byte) (s : State) : Host.Outcome State Fault Refusal :=
  onDev s (serveExec r 0x308001 arg cellQueryCore)

end Sys2Proof.Machine
end

