-- ==== Sys2Proof/Machine/Nodes.lean ====
section
/-!
DEFINITION. Node records and the node table as operations that several families share (R202, R224, R225, R268-R288): lookup,
insertion with relocation, removal with its consequences, transmit lists, and the ends of a frame.
-/
namespace Sys2Proof.Machine

/-! ## Node records -/

/-- The node record of an EUI. -/
def nodeByEui (d : Dev) (eui : Nat) : Option Node := d.nbr.nodes.find? (fun n => n.eui = eui)

/-- The node record with an index. -/
def nodeAt (d : Dev) (i : Nat) : Option Node := findKey Node.index i d.nbr.nodes

/-- A node record changed. -/
def updNode (d : Dev) (i : Nat) (f : Node → Node) : Dev :=
  { d with nbr := { d.nbr with nodes := modKey Node.index i f d.nbr.nodes } }

/-- The Pennant of a node record changed, where it has one. -/
def updPennant (d : Dev) (i : Nat) (f : Pennant → Pennant) : Dev :=
  updNode d i (fun n => { n with pennant := n.pennant.map f })

/-- The security area of a node record changed. -/
def updSec (d : Dev) (i : Nat) (f : SecArea → SecArea) : Dev := updNode d i (fun n => { n with sec := f n.sec })

/-- STATE of a node's Pennant (R205); UNUSED where it has none. -/
def Node.state (n : Node) : NState := match n.pennant with | some p => p.state | none => .unused

/-- A node record listed by ascending short address. -/
def insertNode (n : Node) : List Node → List Node
  | [] => [n]
  | m :: t => if n.short < m.short then n :: m :: t else m :: insertNode n t

/-- The neighbours named in the cells of the schedule in force (R202, R214). -/
def namedNodes (d : Dev) : List Nat := ((d.sched.ver.cells.map Cell.neighbour).filter (· ≠ 0xFFFF)).eraseDups

/-- A neighbour is named in at least one cell (R214). -/
def named (d : Dev) (short : Nat) : Bool := d.sched.ver.cells.any (fun c => c.neighbour = short)

/-- Whole seconds of the time base, low 32 bits (R269). -/
def tbSec (d : Dev) : Nat := (tbNs d / 1000000000 % 4294967296).toNat

/-! ## The node table: places (R268, R271) -/

/-- One step of CRC-32C, reflected. -/
def crcStep (c : Nat) : Nat := if c % 2 = 1 then (c / 2) ^^^ 0x82F63B78 else c / 2

/-- One octet of CRC-32C. -/
def crcOctet (c : Nat) (b : Byte) : Nat :=
  crcStep (crcStep (crcStep (crcStep (crcStep (crcStep (crcStep (crcStep (c ^^^ b.toNat))))))))

/-- CRC-32C over octets with the register preset (R271). -/
def crc32c (seed : Nat) (l : List Byte) : Nat := (l.foldl crcOctet (seed % 4294967296)) ^^^ 0xFFFFFFFF

/-- H1 and H2 of an EUI (R271). -/
def hash1 (d : Dev) (eui : Nat) : Nat := crc32c (Config.hashSeed (2 * d.fwd.seedDraw)) (toLe 8 eui)
def hash2 (d : Dev) (eui : Nat) : Nat := crc32c (Config.hashSeed (2 * d.fwd.seedDraw + 1)) (toLe 8 eui)

/-- Home, alternate and overflow bucket (R271). -/
def bucket1 (d : Dev) (eui : Nat) : Nat := hash1 d eui % 262144
def bucket2 (d : Dev) (eui : Nat) : Nat :=
  let b := hash2 d eui % 262144
  if b = bucket1 d eui then bucket1 d eui ^^^ 1 else b
def bucketO (d : Dev) (eui : Nat) : Nat := hash1 d eui / 262144 % 16384

/-- The entry at a place. -/
def entryAt (l : List NtEntry) (ovf : Bool) (loc : Nat) : Option NtEntry := l.find? (fun e => e.ovf = ovf && e.loc = loc)

/-- The lowest free place of a bucket. -/
def freeWay (l : List NtEntry) (ovf : Bool) (b : Nat) : Option Nat :=
  ((upTo 4).map (fun w => b * 4 + w)).find? (fun x => (entryAt l ovf x).isNone)

/-- The other bucket of an entry of the main buckets. -/
def otherBucket (d : Dev) (e : NtEntry) : Nat :=
  if e.loc / 4 = bucket1 d e.eui then bucket2 d e.eui else bucket1 d e.eui

/-- The breadth-first search of R279: a path of places to vacate, deepest first, and the free place its deepest entry moves to. -/
def searchMoves (d : Dev) (l : List NtEntry) : Nat → List (List Nat) → Option (List Nat × Nat)
  | 0, _ => none
  | _, [] => none
  | n + 1, p :: q =>
    match p.head?.bind (entryAt l false) with
    | none => searchMoves d l n q
    | some e =>
      let ob := otherBucket d e
      match freeWay l false ob with
      | some x => some (p, x)
      | none => searchMoves d l n (q ++ (((upTo 4).map (fun w => ob * 4 + w)).filter (fun x => !p.contains x)).map (· :: p))

/-- The moves of a path carried out: each entry to the place of the one before it. -/
def applyMoves : List Nat → Nat → List NtEntry → List NtEntry
  | [], _, l => l
  | x :: t, dest, l => applyMoves t x (l.map (fun e => if !e.ovf && e.loc = x then { e with loc := dest } else e))

/-- A place for a new entry (R279): the table after relocation, the place, and whether it lies in the overflow store. -/
def placeFor (d : Dev) (eui : Nat) : Option (List NtEntry × Nat × Bool) :=
  let l := d.fwd.entries
  let b1 := bucket1 d eui
  let b2 := bucket2 d eui
  match freeWay l false b1 with
  | some x => some (l, x, false)
  | none =>
    match freeWay l false b2 with
    | some x => some (l, x, false)
    | none =>
      match searchMoves d l 500 ((upTo 4).map (fun w => [b1 * 4 + w]) ++ (upTo 4).map (fun w => [b2 * 4 + w])) with
      | some (p, dest) => some (applyMoves p dest l, p.getLast?.getD 0, false)
      | none => (freeWay l true (bucketO d eui)).map (fun x => (l, x, true))

/-! ## Lookups (R274, R275) -/

/-- All octets of an EUI ones: the key of a short-only lookup. -/
def allOnes : Nat := 0xFFFFFFFFFFFFFFFF

/-- The entry of an EUI. -/
def tableEntry (d : Dev) (eui : Nat) : Option NtEntry := d.fwd.entries.find? (fun e => e.eui = eui)

/-- The entry that a word of the short index leads to, which must still have that short address (R268, R274). -/
def shortEntry (d : Dev) (short : Nat) : Option NtEntry :=
  match findKey Prod.fst short d.fwd.sidx with
  | some w => d.fwd.entries.find? (fun e => e.eui = w.2 && e.short = short)
  | none => none

/-- The word of a short address set to an entry's place (R278); the manager keeps no short index (R268). -/
def setWord (p : Perm) (d : Dev) (short eui : Nat) : Dev :=
  if p.manager || short = 0xFFFF then d else { d with fwd := { d.fwd with sidx := putKey Prod.fst (short, eui) d.fwd.sidx } }

/-- The words of the short index that lead to an entry cleared (R278, R282). -/
def clearWords (d : Dev) (eui : Nat) : Dev := { d with fwd := { d.fwd with sidx := d.fwd.sidx.filter (fun w => w.2 ≠ eui) } }

/-- The cached EUIs of a set. -/
def cacheSet (d : Dev) (eui : Nat) : List Nat :=
  match findKey Prod.fst (hash1 d eui % 4096) d.fwd.cache with | some s => s.2 | none => []

/-- An EUI made the most recently used of its set of four ways (R275). -/
def cacheTouch (d : Dev) (eui : Nat) : Dev :=
  let s := (eui :: (cacheSet d eui).filter (· ≠ eui)).take 4
  { d with fwd := { d.fwd with cache := putKey Prod.fst (hash1 d eui % 4096, s) d.fwd.cache } }

/-- A lookup (R274): LOOKUPS, CACHE_HITS and MISSES follow it. -/
def lookup (d : Dev) (eui short : Nat) : Dev × Option NtEntry :=
  let d1 := count d 0x440005
  if eui = allOnes then
    match shortEntry d short with
    | some e => (d1, some e)
    | none => (count d1 0x440007, none)
  else
    match d.fwd.entries.find? (fun e => e.eui = eui && (short = 0xFFFF || e.short = short)) with
    | none => (count d1 0x440007, none)
    | some e => ((if (cacheSet d1 eui).contains eui then count (cacheTouch d1 eui) 0x440006 else cacheTouch d1 eui), some e)

/-- An entry of the table changed. -/
def updEntry (d : Dev) (eui : Nat) (f : NtEntry → NtEntry) : Dev :=
  { d with fwd := { d.fwd with entries := modKey NtEntry.eui eui f d.fwd.entries } }

/-- HIT set, with LAST_HIT (R269, R288). -/
def setHit (d : Dev) (eui : Nat) : Dev := updEntry d eui (fun e => { e with hit := true, lastHit := tbSec d })

/-! ## Insertion (R278-R280) -/

/-- ENTRY_MAX of the role (R297). -/
def entryMax (p : Perm) : Nat := if p.manager then 1048576 else 65533

/-- ENTRY_LIMIT: a value never written is the role's ENTRY_MAX (R297). -/
def entryLimit (p : Perm) (d : Dev) : Nat := match dictGet 0x440003 d.nv.rp with | some v => valNat v | none => entryMax p

/-- An insertion refused with TABLE_FULL (R280). -/
def tableFull (d : Dev) (second : Bool) : Dev :=
  raiseRate (count d 0x440008) 72 0 1 (sec 1) (fun _ => d.fwd.entries.length + (if second then 0x80000000 else 0))

/-- A candidate leaves the learn-pending store when its key is inserted (R284). -/
def clearCandidate (d : Dev) (eui short : Nat) : Dev :=
  { d with fwd := { d.fwd with lps := d.fwd.lps.filter (fun c => !(c.eui = eui || (c.eui = allOnes && c.short = short))) } }

/-- A node's routing area holds a route that has not expired (R270, R273). -/
def routeLive (d : Dev) (eui : Nat) : Bool :=
  match nodeByEui d eui with | some n => n.route.pathKnown && n.route.parent ≠ 0xFFFF && tbSec d < n.route.routeExpiry | none => false

/-- An entry inserted or updated, with its word of the short index (R278, R279); false where it is refused with TABLE_FULL (R280). ROUTE_VALID of a
new entry is as R270 has it: set while the record holds an unexpired route. -/
def insertEntry (p : Perm) (d : Dev) (eui short worker district record : Nat) (direct : Bool) : Dev × Bool :=
  match tableEntry d eui with
  | some _ =>
    (clearCandidate (setWord p (clearWords (updEntry d eui (fun e => { e with
      short := short, worker := worker, district := district, record := record, hit := true, stale := false, direct := direct
      lastHit := tbSec d })) eui) short eui) eui short, true)
  | none =>
    if entryLimit p d ≤ d.fwd.entries.length then (tableFull d false, false)
    else
      match placeFor d eui with
      | none => (tableFull d true, false)
      | some (l, loc, ovf) =>
        let e : NtEntry := { loc := loc, ovf := ovf, eui := eui, short := short, hit := true, stale := false, static := false
                             direct := direct, routeValid := routeLive d eui, swept := d.fwd.parity, worker := worker, depth := if direct then 1 else 0
                             district := district, record := record, insertTime := tbSec d, lastHit := tbSec d }
        (clearCandidate (setWord p { d with fwd := { d.fwd with entries := l ++ [e] } } short eui) eui short, true)

/-! ## The ends of a frame (R11, R195, R225, R420) -/

/-- A P0 descriptor returned on Q4 with its outcome (R195); a refused return is retried at each slot preparation. -/
def returnP0 (d : Dev) (x : Desc) (dstat : Nat) (stamp : Int) : Dev :=
  match x.body with
  | .p0 i =>
    let y : Desc := ⟨0x0B, dstat, x.len, x.buf, .p0Done stamp i⟩
    let r := push d 4 y
    if r.2 then r.1 else { r.1 with nbr := { r.1.nbr with returns := r.1.nbr.returns ++ [y] } }
  | _ => dropBuf d x.buf

/-- The sequencer's report to Bunting of an image block frame's end (R420): RKIND 1 sent, 2 acknowledged, 3 abandoned, 4
discarded. -/
def reportBlock (d : Dev) (x : Desc) (rkind : Nat) : Dev :=
  match x.body with
  | .image c _ target block part _ _ _ _ =>
    (produce d 36 ⟨0x09, rkind, 0, none, .blockReq (tbNs d) target 0 0 c block part⟩).1
  | _ => d

/-- How a frame of a list ends. -/
inductive TxEnd where
  | sent | acked | notAcked | expired | keyFail | refused | stopped | discarded
  deriving DecidableEq, Repr

/-- DSTAT of a returned P0 descriptor (R195). -/
def TxEnd.dstat : TxEnd → Nat
  | .sent => 1 | .acked => 2 | .notAcked => 3 | .expired => 0x0A | .keyFail => 9 | .refused => 7 | .stopped => 8 | .discarded => 7

/-- A frame of a list is done with: its buffer released, returned to the runtime, or reported to Bunting. -/
def endItem (d : Dev) (i : TxItem) (how : TxEnd) (stamp : Int) : Dev :=
  match i.desc.body with
  | .p0 _ => returnP0 d i.desc how.dstat stamp
  | .image _ bkind _ _ _ _ _ _ _ =>
    let rk := match how with
      | .discarded => 4
      | .acked => if bkind = 2 then 2 else 1
      | .sent => if bkind = 2 then 2 else 1
      | _ => if bkind = 2 then 3 else 4
    reportBlock (if i.inQ33 then d else dropBuf d i.desc.buf) i.desc rk
  | _ => if i.inQ33 then d else dropBuf d i.desc.buf

/-- A frame abandoned under R225: counted, event 50 at most once per second. -/
def abandonItem (d : Dev) (short : Nat) (i : TxItem) (how : TxEnd) : Dev :=
  raiseRate (count (endItem d i how 0) 0x310019) 50 0 1 (sec 1) (fun _ => short)

/-- A neighbour's transmit list (R224). -/
def txList (d : Dev) (short : Nat) : List TxItem :=
  match d.nbr.lists.find? (fun l => l.short = short) with | some l => l.items | none => []

/-- A neighbour's transmit list set; an empty one is not kept. -/
def setTxList (d : Dev) (short : Nat) (l : List TxItem) : Dev :=
  let rest := d.nbr.lists.filter (fun x => x.short ≠ short)
  { d with nbr := { d.nbr with lists := if l.isEmpty then rest else
      (if rest.length = d.nbr.lists.length then d.nbr.lists ++ [⟨short, l⟩]
       else d.nbr.lists.map (fun x => if x.short = short then ⟨short, l⟩ else x)) } }

/-- The head of a list removed: the next head starts without attempts and unsecured (R203, R204). -/
def popHead (d : Dev) (short : Nat) : Dev :=
  let d1 := setTxList d short (txList d short).tail
  match nodeOf d1 short with
  | some n => updPennant d1 n.index (fun p => { p with retry := 0, txSecured := false })
  | none => d1

/-- A neighbour's list emptied, its frames abandoned (R231, R282, R343). -/
def emptyList (d : Dev) (short : Nat) (how : TxEnd) : Dev :=
  (txList d short).foldl (fun x i => abandonItem x short i how) (popHead (setTxList d short []) short)

/-! ## Campaign states (R404, R416) -/

/-- A campaign. -/
def camp (d : Dev) (c : Nat) : Campaign := nth d.bunting.camps c {}

/-- A campaign changed. -/
def updCamp (d : Dev) (c : Nat) (f : Campaign → Campaign) : Dev :=
  { d with bunting := { d.bunting with camps := upd d.bunting.camps c f {} } }

/-- A campaign is in states 1-4. -/
def campActive (d : Dev) (c : Nat) : Bool := 1 ≤ (camp d c).st && (camp d c).st ≤ 4

/-- Bunting's report to the runtime (R421). -/
def reportP6 (d : Dev) (ckind c value short slot : Nat) : Dev :=
  push' d (pq 6) ⟨0x11, ckind, 0, none, .bunt c value short slot (tbNs d)⟩

/-- A campaign enters a state: event 105 (R404), and a report on P6 (R421). In ANNOUNCING and ROUND the time without a frame counts
from the entry (R417, log 159). -/
def setCamp (d : Dev) (c st : Nat) : Dev :=
  if (camp d c).st = st then d
  else reportP6 (raise (updCamp d c (fun x => { x with
      st := st, lastSent := if st = 1 || st = 2 then d.clk.up else x.lastSent })) 105 (c * 256 + st)) 1 c st 0xFFFF 0

/-- Targets of a campaign: node records whose Bunting area names it. -/
def targets (d : Dev) (c : Nat) : List Node := d.nbr.nodes.filter (fun n => n.bunt.campaign = c && n.bunt.state ≠ 0)

/-- A target still PENDING or RECEIVING. -/
def Node.open_ (n : Node) : Bool := n.bunt.state = 1 || n.bunt.state = 2

/-- When no target is PENDING or RECEIVING, the campaign is DONE (R416). -/
def campResolved (d : Dev) (c : Nat) : Dev :=
  if campActive d c && !(targets d c).any Node.open_ then setCamp (updCamp d c (fun x => { x with waiting := [] })) c 5 else d

/-! ## Removal (R282, R317) -/

/-- The frame's next hop, its later-fragment mark, its packet's tag. -/
def downOf (x : Desc) : Option DownInfo := match x.body with | .down i => some i | _ => none

/-- A held frame discarded, with the later fragments of its packet (R317). -/
def dropHeld (d : Dev) (h : Held) : Dev :=
  match downOf h.desc with
  | none => d
  | some i =>
    let same (x : Held) : Bool := match downOf x.desc with | some j => x = h || (j.neighbour = i.neighbour && j.pktTag = i.pktTag && i.frag ≤ j.frag) | none => false
    let gone := d.shp.hold.filter same
    if gone.isEmpty then d else
    let ended := gone.any (fun x => match downOf x.desc with | some j => j.lastFrag | none => false)
    let d1 := gone.foldl (fun x y => count (dropBuf x y.desc.buf) 0x480003) d
    { d1 with shp := { d1.shp with hold := d1.shp.hold.filter (fun x => !same x)
                                   cut := if ended then d1.shp.cut else d1.shp.cut ++ [(i.neighbour, i.pktTag)] } }

/-- The frames held for a neighbour whose table entry is removed (R317). -/
def dropHeldFor (d : Dev) (short : Nat) : Dev :=
  (d.shp.hold.filter (fun h => match downOf h.desc with | some i => i.neighbour = short | none => false)).foldl dropHeld d

/-- A hot slot that holds a node's key is emptied (R331). -/
def dropHot (d : Dev) (record : Nat) : Dev :=
  { d with can := { d.can with hot := d.can.hot.filter (fun h => h.holds ≠ .session record) } }

/-- A node record freed: its list abandoned, its key and wrapped record gone, its target LOST (R282, R331, R416); a JOIN_REQ that it repeats is then
one of an unknown node, decided as its first (R228, R229). -/
def freeNode (d : Dev) (n : Node) : Dev :=
  let d1 := dropHot (emptyList d n.short .refused) n.index
  let d2 : Dev := { d1 with nbr := { d1.nbr with nodes := dropKey Node.index n.index d1.nbr.nodes, rsps := d1.nbr.rsps.filter (fun m => m.eui ≠ n.eui) } }
  if n.open_ && campActive d n.bunt.campaign then
    campResolved (reportP6 (updCamp d2 n.bunt.campaign (fun c => { c with lostN := c.lostN + 1 })) 2 n.bunt.campaign 6 n.short 0) n.bunt.campaign
  else d2

/-- An entry removed from the table, the short index and the cache in one step (R282). -/
def dropEntry (d : Dev) (eui : Nat) : Dev :=
  { d with fwd := { d.fwd with
      entries := dropKey NtEntry.eui eui d.fwd.entries
      sidx := d.fwd.sidx.filter (fun w => w.2 ≠ eui)
      cache := d.fwd.cache.map (fun s => (s.1, s.2.filter (· ≠ eui))) } }

/-- A node removed (R282): its entry with the frames held for it, its record, its Pennant and wrapped key. -/
def removeNode (d : Dev) (eui : Nat) : Dev :=
  let d1 := match tableEntry d eui with | some e => dropHeldFor d e.short | none => d
  match nodeByEui d eui with
  | some n => freeNode (dropEntry d1 eui) n
  | none => dropEntry d1 eui

end Sys2Proof.Machine
end

