-- ==== Sys2Proof/Machine/KeyOps.lean ====
section
/-!
DEFINITION. Keys as operations (R324-R362): the key table, the checks of R353, hot slots, the uses of a session key, group
frames' counter, and the invalidation of a district's keys.
-/
namespace Sys2Proof.Machine

/-! ## The persistent key table (R329) -/

/-- Canton is in tamper state (R348, R349). -/
def tampered (d : Dev) : Bool := d.can.latch || d.can.flag

/-- The table's entry of a key. -/
def keyEntry (d : Dev) (kind id : Nat) : Option KeyEntry := d.can.table.find? (fun e => e.kind = kind && e.keyId = id)

/-- GEN of a key; 0 where it was never installed (R329). -/
def genOf (d : Dev) (kind id : Nat) : Nat := match keyEntry d kind id with | some e => e.gen | none => 0

/-- The key present under (KIND, KEY_ID). -/
def keyPresent (d : Dev) (kind id : Nat) : Option Nat :=
  match keyEntry d kind id with | some e => if e.present then some e.key else none | none => none

/-- The position of a key in the table, or the next free one. -/
def keySlot (d : Dev) (kind id : Nat) : Nat := d.can.table.findIdx (fun e => e.kind = kind && e.keyId = id)

/-- The table with an entry put in its place. -/
def putKeyEntry (d : Dev) (e : KeyEntry) : Dev :=
  { d with can := { d.can with table :=
      if (keyEntry d e.kind e.keyId).isSome then d.can.table.map (fun x => if x.kind = e.kind && x.keyId = e.keyId then e else x)
      else d.can.table ++ [e] } }

/-- The own district's DMK (R355), while Canton can use it. -/
def dmk (d : Dev) : Option Nat := if tampered d then none else keyPresent d 6 d.hier.district

/-- A node's session key as a term (R327). -/
def nodeKey (dmkKey : Nat) (n : Node) : Key := .sk dmkKey n.eui n.sec.keyGen n.sec.nonce

/-- The DMK generation in Canton's register for the own district (R343). -/
def dmkGen (d : Dev) : Nat := genOf d 6 d.hier.district

/-! ## The checks of a session key (R353 step 4) -/

/-- SECSTAT of the key checks before the load: 0 where they pass (R353). -/
def keyCheck (d : Dev) (n : Node) : Nat :=
  if n.sec.dmkGen = 0 then 4
  else if n.sec.dmkGen ≠ dmkGen d then 5
  else if n.sec.lost then 6
  else if n.sec.exhausted || n.sec.usesLeft = 0 then 7
  else if !n.sec.skValid then 4
  else 0

/-- Each specific cause clears SK_VALID (R353). -/
def noteKeyCause (d : Dev) (n : Node) (st : Nat) : Dev :=
  if st = 5 ∨ st = 6 ∨ st = 7 then updSec d n.index (fun s => { s with skValid := false }) else d

/-! ## Hot slots (R332-R334) -/

/-- The hot slot that holds a node's session key. -/
def hotOf (d : Dev) (record : Nat) : Option HotSlot := d.can.hot.find? (fun h => h.holds = .session record)

/-- The node's key is hot: its slot holds the present generations (R332). -/
def isHot (d : Dev) (n : Node) : Bool :=
  match hotOf d n.index with | some h => h.keyGen = n.sec.keyGen && h.dmkGen = n.sec.dmkGen | none => false

/-- The lowest free level-3 slot (R332). -/
def freeSlot (d : Dev) : Option Nat := firstFrom (fun s => d.can.hot.all (fun h => h.slot ≠ s)) 4096 4032 64

/-- The least recently used unpinned level-3 slot (R332). -/
def oldestSlot (d : Dev) : Option HotSlot :=
  (d.can.hot.filter (fun h => 64 ≤ h.slot && h.pins.isEmpty)).foldl
    (fun b h => match b with | none => some h | some x => if h.used < x.used then some h else some x) none

/-- The wrapped record of a node is usable (R331). -/
def wrappedOk (n : Node) : Bool :=
  match n.wrapped with | some w => w.good && w.keyGen = n.sec.keyGen && w.dmkGen = n.sec.dmkGen | none => false

/-- A damaged wrapped record is derived afresh and written anew: event 96 at most once per second (R331). -/
def rebuildKey (d : Dev) (n : Node) : Dev :=
  if wrappedOk n then d
  else
    raiseRate (updNode d n.index (fun m => { m with wrapped := some ⟨n.sec.keyGen, n.sec.dmkGen, true⟩ })) 96 0 1 (sec 1) (fun _ => n.index)

/-- A node's key loaded into a slot, with a pin if one is asked for (R332, R333): the device, and whether it is hot. -/
def loadKey (d : Dev) (n : Node) (pin : Option (Int × Int)) : Dev × Bool :=
  let pins := match pin with | some x => [x] | none => []
  if isHot d n then
    ({ d with can := { d.can with hot := d.can.hot.map (fun h =>
        if h.holds = .session n.index then { h with used := d.clk.up, pins := h.pins ++ pins } else h) } }, true)
  else
    let d1 := rebuildKey (dropHot d n.index) n
    let place (x : Nat) (keep : List HotSlot) : Dev × Bool :=
      let h : HotSlot := ⟨x, .session n.index, n.sec.keyGen, n.sec.dmkGen, pins, d.clk.up⟩
      (updSec { d1 with can := { d1.can with hot := keep ++ [h] } } n.index (fun s => { s with hotSlot := some x }), true)
    match freeSlot d1 with
    | some x => place x d1.can.hot
    | none =>
      match oldestSlot d1 with
      | some o => place o.slot (d1.can.hot.filter (fun h => h.slot ≠ o.slot))
      | none => (raiseRate d1 99 0 1 (sec 1) id, false)

/-! ## REJOIN_REQUIRED and the uses of a key (R343, R354) -/

/-- A record enters REJOIN_REQUIRED: its transmit list is emptied and SK_VALID cleared (R343, R354). -/
def requireRejoin (d : Dev) (i : Nat) : Dev :=
  match nodeAt d i with
  | none => d
  | some n =>
    updSec (updPennant (emptyList d n.short .keyFail) i (fun p => { p with state := .rejoinRequired })) i (fun s => { s with skValid := false })

/-- A session key is exhausted (R354): event 94, and the node must rejoin. -/
def exhaust (d : Dev) (i short : Nat) : Dev := raise (requireRejoin (updSec d i (fun s => { s with exhausted := true })) i) 94 short

/-- One successful CCM* operation under a node's SK (R354): USES_LEFT falls by one; event 93 once, exhaustion event 94. -/
def useKey (d : Dev) (i : Nat) (lastFc : Bool) : Dev :=
  match nodeAt d i with
  | none => d
  | some n =>
    let left := n.sec.usesLeft - 1
    let low := left ≤ numN d 0x50000F && !n.sec.usesLowSent
    let d1 := updSec d i (fun s => { s with usesLeft := left, usesLowSent := s.usesLowSent || low })
    let d2 := if low then raise d1 93 n.short else d1
    if left = 0 || lastFc then exhaust d2 i n.short else d2

/-- The next frame counter of a node taken (R356, R358): the counter, and the device after the use of the key. -/
def takeFc (d : Dev) (n : Node) : Dev × Nat :=
  let fc := n.sec.txFc
  (useKey (count (updSec d n.index (fun s => { s with txFc := fc + 1 })) 0x510005) n.index (fc = 0xFFFFFFFF), fc)

/-- A key failure counted (R364): SECSTAT 0x04 to 0x08 and 0x0B. -/
def countKeyFail (d : Dev) (st : Nat) : Dev := if (4 ≤ st ∧ st ≤ 8) ∨ st = 0x0B then count d 0x510008 else d

/-- Securing under a node's SK (R353, R356): SECSTAT (2 where secured) and the counter. -/
def secureFor (d : Dev) (short : Nat) : Dev × Nat × Nat :=
  if tampered d then (d, 0x0A, 0)
  else
    match nodeOf d short with
    | none => (countKeyFail d 4, 4, 0)
    | some n =>
      let k := keyCheck d n
      if k ≠ 0 then (countKeyFail (noteKeyCause d n k) k, k, 0)
      else
        let l := loadKey d n none
        if !l.2 then (countKeyFail l.1 0x0B, 0x0B, 0)
        else
          let f := takeFc l.1 n
          (f.1, 2, f.2)

/-! ## Group frames (R359, R361) -/

/-- A commit of the next mark, 2²⁴ ahead of GROUP_FC (R359); a refused one is retried in one second. -/
def commitMark (d : Dev) : Dev :=
  let r := commitNv d 1 8 [counterPage]
  if r.2 = .ok then
    { r.1 with can := { r.1.can with groupMark := Nat.min 0xFFFFFFFF (r.1.can.groupFc + 16777216), markDue := none } }
  else { r.1 with can := { r.1.can with markDue := some (r.1.clk.up + sec 1) } }

/-- The next mark committed once GROUP_FC comes within 2²³ of the present one, unless a refused commit waits (R359); at a start GROUP_FC stands at
its mark. A commit refused with GROUP_FC at the mark blocks the counter: event 98. -/
def advanceMark (d : Dev) : Dev :=
  if d.can.groupMark ≤ d.can.groupFc + 8388608 ∧ d.can.markDue.isNone then
    let d1 := commitMark d
    if d1.can.groupMark ≤ d1.can.groupFc then raise d1 98 0 else d1
  else d

/-- A group frame's counter (R359): SECSTAT (2 where secured) and the counter. -/
def secureGroup (d : Dev) : Dev × Nat × Nat :=
  if tampered d then (d, 0x0A, 0)
  else
    match d.can.group with
    | none => (countKeyFail d 4, 4, 0)
    | some _ =>
      let d0 := advanceMark d
      let fc := d0.can.groupFc
      if d0.can.groupMark ≤ fc ∨ fc = 0xFFFFFFFF then (countKeyFail d0 7, 7, 0)
      else
        let d1 := advanceMark (count { d0 with can := { d0.can with groupFc := fc + 1 } } 0x510005)
        let d2 := if d0.can.markDue.isSome ∧ d1.can.groupMark ≤ fc + 1 then raise d1 98 0 else d1
        (if fc + 1 = 0xF0000000 then raise d2 98 1 else d2, 2, fc)

/-- Group frames are refused (R226, R359): no DGK, the counter at a mark whose next commit waits, or at its end. -/
def groupRefused (d : Dev) : Bool :=
  tampered d || d.can.group.isNone || (d.can.groupMark ≤ d.can.groupFc && d.can.markDue.isSome) || d.can.groupFc = 0xFFFFFFFF

/-- A P0 descriptor pushed by the runtime; a refused one is kept and pushed again (R15, R229). -/
def pushP0 (d : Dev) (x : Desc) : Dev :=
  let r := push d (pq 0) x
  if r.2 then r.1 else { r.1 with nbr := { r.1.nbr with p0Owed := r.1.nbr.p0Owed ++ [x] } }

/-- A MAC frame that the runtime originates (R194): a granule of its own and its P0 descriptor. -/
def originate (d : Dev) (f : MacFrame) (len : Nat) (i : P0Info) : Dev :=
  let a := alloc d 9 len (.mac f)
  match a.2 with
  | none => a.1
  | some g => pushP0 a.1 ⟨0x0B, 0, len, some g, .p0 i⟩

/-- A data frame of the device, not yet secured, to a short address. -/
def dataFrame (dst : Addr) (ackReq : Bool) (payload : MacPayload) : MacFrame :=
  { ftype := .data, version := 2, src := .short 0, dst := dst, srcEnd := 9, seq := none, ackReq := ackReq, secured := false
    headerBad := false, level := 0, keyMode := 0, keyIndex := 0, fc := 0, key := .raw 0, intact := true, tc := none
    district := none, payload := payload }

/-- A frame whose payload is a Vendor Specific Payload IE with the OUI of VENDOR_OUI (R229, R361, R406). -/
def vendorFrame (d : Dev) (dst : Addr) (ackReq : Bool) (payload : MacPayload) : MacFrame :=
  { dataFrame dst ackReq payload with oui := octets d 0x310022 }

/-- A frame's message as the device knows it: one under another OUI is none of its own (R229, R406). -/
def messageOf (d : Dev) (f : MacFrame) : MacPayload :=
  match f.payload with
  | .joinReq _ => if f.oui = octets d 0x310022 then f.payload else .empty
  | .blockReq _ => if f.oui = octets d 0x310022 then f.payload else .empty
  | x => x

/-- The group address of a district (R360). -/
def groupAddress (d : Dev) (district : Nat) : List Byte := octets d 0x310022 ++ [0xFF, 0xFE, 0x00] ++ (toLe 2 district).reverse

/-- The address in the nonce of a frame that the device sends (R351, R359). -/
def ownNonce (d : Dev) (group : Bool) : NonceAddr := if group then .group (groupAddress d d.hier.district) else .device

/-- GROUP_KEY sent to a node (R361). -/
def sendGroupKey (d : Dev) (short : Nat) : Dev :=
  match keyEntry d 7 d.hier.district with
  | none => d
  | some e =>
    if !e.present then d
    else
      originate d (vendorFrame d (.short short) true (.groupKey (e.gen % 256) (.raw e.key))) 34
        { when_ := 0, neighbour := short, group := 0, secure := true, ackReq := true, band := .sf, channel := 0, spread := 0
          txPower := 0, pclass := 0, tag := 0 }

/-! ## Invalidation (R343) -/

/-- A DMK of a district is invalidated (R343): the sessions under it are zeroized and its records await the sweep. -/
def invalidateDmk (d : Dev) (district : Nat) : Dev :=
  let d1 := count d 0x500016
  let d2 : Dev := { d1 with can := { d1.can with hot := d1.can.hot.filter (fun h => match h.holds with | .session _ => district ≠ d1.hier.district | _ => true)
                                                 sweeps := d1.can.sweeps ++ [(district, d1.clk.up)] } }
  raise d2 91 (6 * 65536 + district)

/-- A DGK installed takes effect (R360, R361): the old one stays for verification, and secures the own district's group frames
until the overlap ends; the new one goes to every ACTIVE node. In a takeover the key sent secures from the start, under the counter of R384 (log 153). -/
def installDgk (d : Dev) (id : Nat) (old : Option KeyEntry) : Dev :=
  let till := d.clk.up + sec (numN d 0x51000E)
  let kept := match old with | some e => if e.present then [OldDgk.mk id e.gen e.key till] else [] | none => []
  let d1 : Dev := { d with can := { d.can with old := d.can.old.filter (fun o => o.district ≠ id) ++ kept } }
  if id ≠ d.hier.district then d1
  else
    let d2 : Dev := match d1.can.group, keyEntry d1 7 id with
      | _, none => d1
      | some _, some e =>
        if d.hier.st = .takingOver then { d1 with can := { d1.can with group := some (e.gen, e.key) } }
        else { d1 with can := { d1.can with overlapEnd := some till } }
      | none, some e =>
        if d.hier.st = .takingOver then { d1 with can := { d1.can with group := some (e.gen, e.key) } }
        else commitMark { d1 with can := { d1.can with group := some (e.gen, e.key), groupFc := 0, groupMark := 0 } }
    ((d2.nbr.nodes.filter (fun n => n.state = .active)).map Node.short).foldl sendGroupKey d2

/-- A DGK invalidated (R361): the own district's group frames stop at once. -/
def dropDgk (d : Dev) (id : Nat) : Dev :=
  let d1 : Dev := { d with can := { d.can with old := d.can.old.filter (fun o => o.district ≠ id) } }
  if id = d.hier.district then { d1 with can := { d1.can with group := none, overlapEnd := none } } else d1

end Sys2Proof.Machine
end

