-- ==== Sys2Proof/Machine/Restart.lean ====
section
/-!
DEFINITION. What a start keeps from before it (R478), and the entries into M4 and into the sleep modes that share it.
-/
namespace Sys2Proof.Machine

/-- A start with RESET_CAUSE 1 or 2 is cold (R478). -/
def coldCause (cause : Nat) : Bool := cause ≤ 2

/-- Clocks after a reset (R71, R478): a cold start has the time base at 0 and FREE; any other keeps it, on the slow tick. -/
def clkAfter (d : Dev) (cause : Nat) : ClkState :=
  if coldCause cause then { up := d.clk.up, slowPhase := d.clk.slowPhase, refOk := d.clk.refOk, slowOk := d.clk.slowOk }
  else { (endSlew d).clk with fast := false, refLostAt := none }

/-- Power state after a reset (R470, R472, R478): a cold start keeps the brown-out flag only. -/
def pwrAfter (d : Dev) (cause : Nat) : PwrState :=
  if coldCause cause then { brownFlag := d.pwr.brownFlag }
  else
    { mode := d.pwr.mode, baseFull := d.pwr.baseFull, fullOnly := d.pwr.fullOnly, spare := d.pwr.spare, domains := if d.pwr.mode.asleep then d.pwr.domains else 1, padHold := d.pwr.padHold
      wakeCause := d.pwr.wakeCause, wakeTime := d.pwr.wakeTime, lastSleep := d.pwr.lastSleep, sleepEntryTime := d.pwr.sleepEntryTime
      sleepDistrict := d.pwr.sleepDistrict, halyardForeign := d.pwr.halyardForeign, halyardLastId := d.pwr.halyardLastId
      sleepReq := if d.pwr.mode.asleep then d.pwr.sleepReq else none, wakeFails := d.pwr.wakeFails, wakeFailsSeen := d.pwr.wakeFailsSeen, brownFlag := d.pwr.brownFlag }

/-- Canton after a reset (R325-R361, R478): what the persistent store holds; the D0 latch and the retention bank in a warm start. -/
def canAfter (d : Dev) (cause : Nat) : CantonState :=
  let warm := !coldCause cause
  { table := d.can.table, ctrOperator := d.can.ctrOperator, ctrManager := d.can.ctrManager, exportCtr := d.can.exportCtr, flag := d.can.flag
    prevImage := d.can.prevImage, groupMark := d.can.groupMark, groupFc := d.can.groupMark, asserted := d.can.asserted
    latch := warm && d.can.latch, cause := if warm then d.can.cause else 0, time := if warm then d.can.time else 0
    flagDue := if warm && d.can.latch && !d.can.flag then some d.clk.up else none
    retention := if warm then d.can.retention else [] }

/-- A district's record as the manager's persistent store keeps it (R366, R383, R391): a takeover under way ends with no server, but for an ASSIGN. -/
def districtAfter (x : DistrictRec) : DistrictRec := { x with dstate := if x.dstate = 2 && !x.fresh then 3 else x.dstate, nodes := [] }

/-- The ASSIGNs that a restarted manager takes up again, with the reference committed (R383). -/
def assignsAfter (d : Dev) : List Takeover :=
  (d.hier.districts.filter DistrictRec.fresh).map (fun x =>
    { district := x.district, restart := true, assign := true, wanted := if x.server = 255 then none else some x.server, tried := [], old := 255
      committed := true, target := none, start := 0, due := d.clk.up, key := none })

/-- The device as a new start finds it (R478): what the persistent store, the balls and, but for a cold start, D0 hold. VCORE is
commanded on and power-good awaited. -/
def restart (d : Dev) (cause : Nat) : Dev :=
  let n : Dev := {}
  let warm := !coldCause cause
  let x : Dev := { n with
    clk := clkAfter d cause
    pps := { n.pps with since := d.clk.up }
    pwr := pwrAfter d cause
    start := { n.start with cause := cause, startCount := d.nv.saved.starts, watchdogResets := d.nv.saved.watchdogs, since := d.clk.up }
    nv := { d.nv with waiting := [], sense := [], lastNeed := 0 }
    ev := if warm then { n.ev with held := d.ev.held } else n.ev
    err := if warm then { n.err with lastFatal := d.err.lastFatal } else n.err
    store := { n.store with fbUnits := d.store.fbUnits, repoUnits := d.store.repoUnits, telemUnits := d.store.telemUnits }
    bandSf := { n.bandSf with ceilings := d.bandSf.ceilings }
    bandG := { n.bandG with ceilings := d.bandG.ceilings }
    shp := { n.shp with ports := d.shp.ports.map (fun y => { committed := y.committed }) }
    can := canAfter d cause
    hier := { n.hier with districts := d.hier.districts.map districtAfter, takeovers := assignsAfter d }
    fw := { n.fw with slots := d.fw.slots, floor := d.fw.floor, trialSince := d.fw.trialSince }
    gpio := d.gpio
    ifs := { n.ifs with rxLatency := d.ifs.rxLatency, txLatency := d.ifs.txLatency, cts := d.ifs.cts, pmicCopy := if warm then d.ifs.pmicCopy else none }
    free := d.free
    out := d.out }
  { x with gov := { x.gov with e := num x 0x110003 * 1000 * num x 0x110010 / 100, sensors := d.gov.sensors.map (fun s => { s with peak := s.temp, inService := true, offSince := none }) } }

/-- A reset: the sessions' requests, work and packets of before are gone, and M4 is entered (R451, R452). -/
def reset (d : Dev) (cause : Nat) : Dev :=
  setMode { restart (if coldCause cause then d else handover d false) cause with pwr := { pwrAfter d cause with domains := 1 } } .m4

end Sys2Proof.Machine
end

