-- ==== Sys2Proof/Machine/Canton.lean ====
section
/-!
DEFINITION. Canton (R324-R365): key update messages, export, replacement in the NQX-3310 manner, key requests and pins,
invalidation, tamper, and the group counter.
-/
namespace Sys2Proof.Machine

/-! ## Key update messages (R335-R338) -/

/-- A key update message by its fields (R335). -/
structure KeyUpdate where
  sound : Bool
  uop : Nat
  kind : Nat
  exportable : Bool
  keyId : Nat
  target : Nat
  nodeEui : Nat
  counter : Nat
  signer : Nat
  epub : List Byte
  proof : KeyProof
  deriving DecidableEq, Repr

/-- KIND is one that UOP takes (R336), and KEY_ID and NODE_EUI are zero where R335 says so. -/
def uopKindOk (uop kind keyId nodeEui : Nat) : Bool :=
  (nodeEui = 0 || kind = 9) && (keyId = 0 || kind = 6 || kind = 7) &&
  match uop with
  | 1 => kind = 5 || kind = 6 || kind = 7
  | 2 => kind = 6 || kind = 7 || kind = 9
  | 3 => kind = 0
  | 4 => kind = 0
  | _ => false

/-- The octets of a message read by R335. -/
def parseUpdate (l : List Byte) (proof : KeyProof) : KeyUpdate :=
  let uop := leAt l 1 1
  let kind := leAt l 2 1
  let ok := l.length = 240 && leAt l 0 1 = 1 && leAt l 3 1 ≤ 1 && leAt l 6 2 = 0 && leAt l 64 1 ≤ 1 && leAt l 65 7 = 0
    && uopKindOk uop kind (leAt l 4 2) (leAt l 16 8)
  { sound := ok, uop := uop, kind := kind, exportable := leAt l 3 1 = 1, keyId := leAt l 4 2, target := leAt l 8 8
    nodeEui := leAt l 16 8, counter := leAt l 56 8, signer := leAt l 64 1, epub := slice l 72 64, proof := proof }

/-- SIGNER permitted under R336 in the device's role. -/
def signerOk (p : Perm) (u : KeyUpdate) : Bool :=
  u.signer = 0 || (p.role = 2 && (u.uop = 1 || u.uop = 2) && u.kind ≠ 5)

/-- KEY_ID accepted (R337). -/
def keyIdOk (p : Perm) (d : Dev) (u : KeyUpdate) : Bool :=
  if u.kind ≠ 6 && u.kind ≠ 7 then true
  else if p.manager then 1 ≤ u.keyId && u.keyId ≤ 127
  else p.role = 2 && 1 ≤ u.keyId && u.keyId ≤ 127
    && (u.keyId = d.hier.district || u.keyId = d.hier.taking || (u.kind = 7 && u.signer = 1))

/-- An enabled tamper input is asserted (R345, R350). -/
def tamperAsserted (d : Dev) : Bool := d.can.asserted &&& numN d 0x500011 ≠ 0

/-- The checks of R337 in order, up to the table's space, and of R350. -/
def checkUpdate (p : Perm) (d : Dev) (u : KeyUpdate) : Status :=
  if !u.sound then .outOfRange
  else if u.target ≠ p.deviceEui || !u.proof.hashOk then .outOfRange
  else if !signerOk p u then .accessDenied
  else if !u.proof.sigOk then .accessDenied
  else if u.counter ≤ (if u.signer = 0 then d.can.ctrOperator else d.can.ctrManager) then .counterStale
  else if tampered d && u.uop ≠ 3 then .tamper
  else if !keyIdOk p d u then .wrongMode
  else if u.exportable && (p.role = 2 || u.signer = 1 || u.kind = 5) then .outOfRange
  else if u.uop = 2 && u.kind = 9 && (nodeByEui d u.nodeEui).isNone then .noEntry
  else if u.uop = 1 && u.proof.key.isNone then .outOfRange
  else if u.uop = 1 && (keyEntry d u.kind u.keyId).isNone && 384 ≤ d.can.table.length then .tableFull
  else if u.uop = 3 && tamperAsserted d then .wrongMode
  else .ok

/-- The counter of the signer set (R337). -/
def setCounter (d : Dev) (u : KeyUpdate) : Dev :=
  { d with can := if u.signer = 0 then { d.can with ctrOperator := u.counter } else { d.can with ctrManager := u.counter } }

/-- A key put in the table (R329): GEN rises by one. -/
def storeKey (d : Dev) (kind id key signer : Nat) (exportable : Bool) : Dev :=
  putKeyEntry d { kind := kind, keyId := id, exportable := exportable, present := true, gen := genOf d kind id + 1, key := key, signer := signer }

/-- An installed key takes effect (R338), with its events. -/
def installKey (d : Dev) (kind id key signer : Nat) (exportable : Bool) : Dev :=
  let old := keyEntry d kind id
  let replaced := match old with | some e => e.present | none => false
  let d1 := storeKey d kind id key signer exportable
  let d1 : Dev := if kind = 5 && replaced then { d1 with can := { d1.can with prevImage := old.map KeyEntry.gen } } else d1
  let d2 := if kind = 6 && replaced then invalidateDmk d1 id else if kind = 7 then installDgk d1 id old else d1
  raise d2 90 (kind * 65536 + id)

/-- A key removed from the table: GEN rises by one and stays (R329, R338). -/
def removeKey (d : Dev) (kind id signer : Nat) : Dev :=
  let d1 := putKeyEntry d { kind := kind, keyId := id, exportable := false, present := false, gen := genOf d kind id + 1, key := 0, signer := signer }
  if kind = 6 then invalidateDmk d1 id else raise (dropDgk d1 id) 91 (kind * 65536 + id)

/-- A node's SK invalidated: SK_VALID cleared, and the node must rejoin (R338). -/
def invalidateSk (d : Dev) (eui : Nat) : Dev :=
  match nodeByEui d eui with
  | some n => raise (requireRejoin (dropHot d n.index) n.index) 91 (9 * 65536)
  | none => d

/-- The reset 100 ms after the response (R350, R487, R488). -/
def scheduleReset (d : Dev) (cause : Nat) : Dev :=
  { d with start := { d.start with pendingReset := some (cause, d.clk.up + ms 100) } }

/-- The effect of a committed message (R336-R350). -/
def applyUpdate (d : Dev) (u : KeyUpdate) : Dev :=
  match u.uop with
  | 1 => installKey d u.kind u.keyId (u.proof.key.getD 0) u.signer u.exportable
  | 2 => if u.kind = 9 then invalidateSk d u.nodeEui else removeKey d u.kind u.keyId u.signer
  | 3 => scheduleReset (raise { d with can := { d.can with latch := false, flag := false, flagDue := none } } 89 0) 5
  | _ => raise (storeKey (putRp d 0x500014 (.bytes u.epub)) 4 0 0 u.signer false) 90 (4 * 65536)

/-- The pages and size of the commit of a message (R337; log 14): the key's entry, and the counter. -/
def updateCommit (d : Dev) (u : KeyUpdate) : Dev × Status :=
  if u.uop = 3 || u.kind = 9 then commitNv d 1 8 [cantonPage]
  else commitNv d 2 72 [keyPage (keySlot d (if u.uop = 4 then 4 else u.kind) u.keyId), cantonPage]

/-- A message checked, committed and applied, or rejected with its status (R337). -/
def keyUpdate (p : Perm) (d : Dev) (u : KeyUpdate) : Dev × Status :=
  let reject (x : Dev) (st : Status) : Dev × Status := (raise (count x 0x500017) 92 (statusCode st), st)
  match checkUpdate p d u with
  | .ok =>
    let c := updateCommit d u
    if c.2 = .ok then (applyUpdate (setCounter c.1 u) u, .ok) else reject c.1 c.2
  | st => reject d st

/-- The command KEY_UPDATE_APPLY on the staged message (R337, R363). -/
def keyApplyCore (p : Perm) (proof : KeyProof) : Core := fun arg d =>
  if !argLen arg 0 then answer d .malformed
  else
    let u := parseUpdate (octets d 0x500005) proof
    let r := keyUpdate p d u
    (r.1, r.2, if r.2 = .ok then toLe 8 u.counter else [])

/-- UOP of the staged message. -/
def stagedUop (d : Dev) : Nat := leAt (octets d 0x500005) 1 1

/-- KEY_UPDATE_APPLY where the staged message is of an operation that `f` accepts (R337). -/
def keyApply (p : Perm) (r : Req) (arg : List Byte) (proof : KeyProof) (f : Nat → Bool) (d : Dev) : Dev :=
  if f (stagedUop d) then serveExec r 0x500006 arg (keyApplyCore p proof) d else d

/-- INSTALL (R337): also every message whose UOP is reserved, which is refused. -/
def execInstall (r : Req) (arg : List Byte) (proof : KeyProof) (s : State) : Host.Outcome State Fault Refusal :=
  onDevSettled s (keyApply s.perm r arg proof (fun u => u ≠ 2 && u ≠ 3 && u ≠ 4))

/-- INVALIDATE (R338). -/
def execInvalidate (r : Req) (arg : List Byte) (proof : KeyProof) (s : State) : Host.Outcome State Fault Refusal :=
  onDevSettled s (keyApply s.perm r arg proof (fun u => u = 2))

/-- TAMPER_CLEAR (R350). -/
def execTamperClear (r : Req) (arg : List Byte) (proof : KeyProof) (s : State) : Host.Outcome State Fault Refusal :=
  onDevSettled s (keyApply s.perm r arg proof (fun u => u = 3))

/-- SET_AUTHORITY (R336). -/
def execSetAuthority (r : Req) (arg : List Byte) (proof : KeyProof) (s : State) : Host.Outcome State Fault Refusal :=
  onDevSettled s (keyApply s.perm r arg proof (fun u => u = 4))

/-! ## Export and replacement (R339-R342) -/

/-- The message an export gives (R335, R339); what Canton draws or computes is free (log 4). -/
def exportMessage (d : Dev) (kind id peer ctr : Nat) (pub : List Byte) : List Byte :=
  toLe 1 1 ++ toLe 1 1 ++ toLe 1 kind ++ toLe 1 0 ++ toLe 2 id ++ toLe 2 0 ++ toLe 8 peer ++ toLe 8 0
    ++ sha256 pub ++ toLe 8 ctr ++ toLe 1 1 ++ toLe 7 0 ++ toLe 64 (Config.exportEpub d.free)
    ++ toLe 40 (Config.exportWrapped d.free) ++ toLe 64 (Config.exportSig d.free)

/-- The command KEY_EXPORT: KEY_ID, KIND, one reserved octet, PEER_EUI, PEER_PUB (R339). -/
def keyExportCore (p : Perm) : Core := fun arg d =>
  if !argLen arg 76 then answer d .malformed
  else if leAt arg 3 1 ≠ 0 then answer d .outOfRange
  else if !p.manager then answer d .wrongMode
  else if tampered d then answer d .tamper
  else
    let id := leAt arg 0 2
    let kind := leAt arg 2 1
    match keyEntry d kind id with
    | some e =>
      if (kind ≠ 6 && kind ≠ 7) || !e.exportable || !e.present then answer d .accessDenied
      else
        let ctr := d.can.exportCtr + 1
        let c := commitNv d 1 8 [cantonPage]
        if c.2 ≠ .ok then answer c.1 c.2
        else
          let d1 : Dev := { c.1 with can := { c.1.can with exportCtr := ctr } }
          (raise (drawn d1) 95 id, .ok, exportMessage d1 kind id (leAt arg 4 8) ctr (slice arg 12 64))
    | none => answer d .accessDenied

/-- KEY_EXPORT (R339). -/
def execKeyExport (r : Req) (arg : List Byte) (s : State) : Host.Outcome State Fault Refusal :=
  onDev s (serveExec r 0x50000A arg (keyExportCore s.perm))

/-- The command KEY_REPLACE_COMPAT (R340, R341): `key` is what NEW_WRAPPED unwraps to under the present key. -/
def keyReplaceCore (key : Option Nat) : Core := fun arg d =>
  if !argLen arg 32 then answer d .malformed
  else if leAt arg 1 1 ≠ 0 || leAt arg 31 1 ≠ 0 then answer d .outOfRange
  else if tampered d then answer d .tamper
  else
    let kind := leAt arg 0 1
    let id := leAt arg 2 2
    match keyEntry d kind id with
    | some e =>
      if !flag d 0x50000B || (kind ≠ 6 && kind ≠ 7) || !e.present then answer d .accessDenied
      else
        match key with
        | none => answer d .outOfRange
        | some k =>
          if leAt arg 28 3 ≠ Config.kcv k % 16777216 then answer d .outOfRange
          else
            let c := commitNv d 1 64 [keyPage (keySlot d kind id)]
            if c.2 ≠ .ok then answer c.1 c.2
            else (installKey c.1 kind id k e.signer e.exportable, .ok, toLe 4 (e.gen + 1))
    | none => answer d .accessDenied

/-- KEY_REPLACE_COMPAT (R341). -/
def execKeyReplaceCompat (r : Req) (arg : List Byte) (key : Option Nat) (s : State) : Host.Outcome State Fault Refusal :=
  onDevSettled s (serveExec r 0x50000C arg (keyReplaceCore key))

/-- The command FORCE_REJOIN: EUI (R338, R363). -/
def forceRejoinCore : Core := fun arg d =>
  if !argLen arg 8 then answer d .malformed
  else if tampered d then answer d .tamper
  else if (nodeByEui d (leNat arg)).isNone then answer d .noEntry
  else answer (invalidateSk d (leNat arg)) .ok

/-- FORCE_REJOIN (R338). -/
def execForceRejoin (r : Req) (arg : List Byte) (s : State) : Host.Outcome State Fault Refusal :=
  onDev s (serveExec r 0x500018 arg forceRejoinCore)

/-- The security area as octets (R330). -/
def secOctets (s : SecArea) : List Byte :=
  toLe 2 s.keyGen
    ++ toLe 2 (boolNum s.skValid + 2 * boolNum s.expireAtReset + 4 * boolNum s.usesLowSent + 8 * boolNum s.exhausted)
    ++ toLe 2 (s.hotSlot.getD 0xFFFF) ++ toLe 2 0 ++ toLe 4 s.txFc ++ toLe 4 s.usesLeft ++ toLe 4 s.dmkGen ++ toLe 8 s.nonce ++ toLe 4 0

/-- The security area as it is read: HOT_SLOT only while the slot holds the node's key (R330). -/
def secNow (d : Dev) (n : Node) : SecArea := { n.sec with hotSlot := (hotOf d n.index).map HotSlot.slot }

/-- The command SEC_QUERY: SHORT (R364). -/
def secQueryCore : Core := fun arg d =>
  if !argLen arg 2 then answer d .malformed
  else match nodeOf d (leNat arg) with | some n => (d, .ok, secOctets (secNow d n)) | none => answer d .noEntry

/-- SEC_QUERY (R364). -/
def execSecQuery (r : Req) (arg : List Byte) (s : State) : Host.Outcome State Fault Refusal :=
  onDev s (serveExec r 0x510009 arg secQueryCore)

/-! ## Key requests (R333) -/

/-- The UNTIL of a key request. -/
def untilOf (x : Desc) : Int := match x.body with | .keyReq _ _ _ u _ => u | _ => 0

/-- The request of least UNTIL, the oldest of equals (R333). -/
def leastUntil (l : List Desc) : Option Desc :=
  l.foldl (fun b x => match b with | none => some x | some y => if untilOf x < untilOf y then some x else some y) none

/-- One load pin per request (R333). -/
def serveKeyReq (d : Dev) (x : Desc) : Dev :=
  match x.body with
  | .keyReq record 1 _ till pinEnd =>
    match nodeAt d record with
    | some n =>
      if tampered d then d
      else
        let k := keyCheck d n
        if k ≠ 0 then countKeyFail (noteKeyCause d n k) k
        else
          let l := loadKey d n (some (till, pinEnd))
          if l.2 then l.1 else countKeyFail l.1 0x0B
    | none => countKeyFail d 4
  | .keyReq record 2 _ till _ =>
    { d with can := { d.can with hot := d.can.hot.map (fun h =>
        if h.holds = .session record then { h with pins := h.pins.filter (fun q => q.1 ≠ till) } else h) } }
  | _ => d

/-- The runtime serves the P2 request of least UNTIL (R333). -/
def keyRequest (d : Dev) : Dev :=
  match leastUntil (queue d (pq 2)).drain with
  | none => d
  | some x =>
    let d1 := gateCores (updQueue d (pq 2) (fun q => { q with drain := q.drain.erase x, rd := (q.rd + 1) % (2 * slotsOf (pq 2)) }))
    let c := consumerCheck d1 (pq 2) x
    match c.2 with
    | some y => serveKeyReq c.1 y
    | none => c.1

/-- KEY_REQUEST (R333). -/
def execKeyRequest (s : State) : Host.Outcome State Fault Refusal :=
  onDev s (fun d => if runtimeUp d && (queue d (pq 2)).state = .openQ then keyRequest d else d)

/-- The earliest PIN_END (R333). -/
def firstPinEnd (d : Dev) : Option Int :=
  (d.can.hot.flatMap (fun h => h.pins.map Prod.snd)).foldl
    (fun b x => match b with | none => some x | some y => if x < y then some x else some y) none

/-- The earliest pins lapse at their PIN_END (R333). -/
def pinExpiry (d : Dev) : Dev :=
  match firstPinEnd d with
  | none => d
  | some t =>
    let d1 := reachTb d t
    { d1 with can := { d1.can with hot := d1.can.hot.map (fun h => { h with pins := h.pins.filter (fun q => tbNs d1 < q.2) }) } }

/-- PIN_EXPIRY (R333). -/
def execPinExpiry (s : State) : Host.Outcome State Fault Refusal := onDev s pinExpiry

/-- The sweep after an invalidation: every record of the district to REJOIN_REQUIRED, SK_VALID cleared (R343). -/
def rejoinSweep (d : Dev) : Dev :=
  match d.can.sweeps with
  | [] => d
  | (district, _) :: t =>
    let d1 : Dev := { d with can := { d.can with sweeps := t } }
    if district = d1.hier.district then (d1.nbr.nodes.map Node.index).foldl requireRejoin d1 else d1

/-- REJOIN_REQUIRED_SWEEP (R343). -/
def execRejoinRequiredSweep (s : State) : Host.Outcome State Fault Refusal := onDev s rejoinSweep

/-! ## Tamper (R345-R350) -/

/-- The stage of an assertion (R345, R348): 0 start-up before the first unwrap, 1 after it or running, 2 key operation, 3 sleep (log 151). -/
def tamperStage (d : Dev) (keyOp : Bool) : Nat :=
  if d.pwr.mode.asleep then 3 else if keyOp then 2 else if d.pwr.mode = .m4 && !d.start.unwrapped then 0 else 1

/-- A receive verification aborted (R346): SECSTAT TAMPER on Q2, no buffer. -/
def abortVerify (d : Dev) (q : Nat) : Dev :=
  match (queue d q).taken with
  | none => d
  | some x =>
    let d1 := dropBuf (updQueue d q (fun y => { y with taken := none })) x.buf
    match x.body with
    | .rx i => (produce d1 2 { x with buf := none, body := .rx { i with stage := { i.stage with secstat := 0x0A } } }).1
    | _ => d1

/-- A securing aborted (R346): its descriptor returns on Q34 with DSTAT TAMPER. -/
def abortSecure (d : Dev) : Dev :=
  match (queue d 33).taken with
  | none => d
  | some x => (produce (updQueue d 33 (fun y => { y with taken := none })) 34 { x with dtype := 0x07, dstat := 0x0A }).1

/-- An enabled input held at its active level for 1 µs (R345-R349), or gone back to its inactive level. -/
def tamper (input : Nat) (active keyOp : Bool) (d : Dev) : Dev :=
  if !active then { d with can := { d.can with asserted := clearBit d.can.asserted input } }
  else if d.pwr.mode = .m0 || d.can.asserted.testBit input then d
  else
    let d1 : Dev := { d with can := { d.can with asserted := setBit d.can.asserted input } }
    if !(numN d 0x500011).testBit input then d1
    else
      let st := tamperStage d keyOp
      let c := input * 256 + st
      let d2 := if keyOp then abortSecure (abortVerify (abortVerify d1 0) 1) else d1
      let d3 : Dev := { d2 with
        can := { d2.can with latch := true, hot := [], retention := [], kek := false, cause := c, time := tbNs d
                             flagDue := if d2.can.flag then none else some d.clk.up }
        pwr := if st = 3 then { d2.pwr with wakeCause := 16, wakeTime := tbNs d } else d2.pwr }
      let d4 := raise (if st = 3 then restart d3 3 else d3) 88 c
      if d4.pwr.mode = .m11 then d4 else enterFault d4 1

/-- TAMPER (R345). -/
def execTamper (input : Fin 2) (active keyOp : Bool) (s : State) : Host.Outcome State Fault Refusal :=
  onDevSettled s (tamper input active keyOp)

/-- The commit of the persistent tamper flag, at once and then once per second (R349). -/
def tamperFlagCommit (d : Dev) : Dev :=
  match d.can.flagDue with
  | none => d
  | some t =>
    let d1 := reach d t
    let c := commitNv d1 1 1 [cantonPage]
    if c.2 = .ok then { c.1 with can := { c.1.can with flag := true, flagDue := none } }
    else { c.1 with can := { c.1.can with flagDue := some (c.1.clk.up + sec 1) } }

/-- TAMPER_FLAG_COMMIT (R349). -/
def execTamperFlagCommit (s : State) : Host.Outcome State Fault Refusal := onDev s tamperFlagCommit

/-! ## The group counter (R359, R361) -/

/-- The retry of a refused mark commit (R359). -/
def markRetry (d : Dev) : Dev := match d.can.markDue with | some t => commitMark (reach d t) | none => d

/-- GROUP_FC_MARK_COMMIT (R359). -/
def execGroupFcMarkCommit (s : State) : Host.Outcome State Fault Refusal := onDev s markRetry

/-- The earliest end of an overlap (R360, R361). -/
def nextOverlap (d : Dev) : Option Nat :=
  (d.can.old.map OldDgk.until_ ++ d.can.overlapEnd.toList).foldl
    (fun b x => match b with | none => some x | some y => some (Nat.min x y)) none

/-- GROUP_OVERLAP ends: the new DGK takes over with GROUP_FC 0, superseded keys are dropped (R360, R361). -/
def overlapEnds (d : Dev) : Dev :=
  match nextOverlap d with
  | none => d
  | some t =>
    let d1 := reach d t
    let d2 : Dev := { d1 with can := { d1.can with old := d1.can.old.filter (fun o => d1.clk.up < o.until_) } }
    match d2.can.overlapEnd with
    | none => d2
    | some e =>
      if d2.clk.up < e then d2
      else
        match keyEntry d2 7 d2.hier.district with
        | some k =>
          if k.present then
            commitMark { d2 with can := { d2.can with overlapEnd := none, group := some (k.gen, k.key), groupFc := 0, groupMark := 0 } }
          else { d2 with can := { d2.can with overlapEnd := none, group := none } }
        | none => { d2 with can := { d2.can with overlapEnd := none, group := none } }

/-- GROUP_OVERLAP_END (R361). -/
def execGroupOverlapEnd (s : State) : Host.Outcome State Fault Refusal := onDev s overlapEnds

end Sys2Proof.Machine
end

