-- ==== Sys2Proof/Machine/Security.lean ====
section
/-!
DEFINITION. Frame security (R351-R360): verification of received frames, and securing of frames from Q33.
-/
namespace Sys2Proof.Machine

/-! ## Received frames (R352, R353) -/

/-- The lowest level accepted for a frame type (R353). -/
def minLevel (d : Dev) : FrameType → Nat
  | .ack => slotN d 0x510004
  | .beacon => slotN d 0x510002
  | _ => slotN d 0x510003

/-- The District IE of a frame: a Vendor Specific Header IE with the OUI of VENDOR_OUI (R227); one with another OUI is none. -/
def districtIe (d : Dev) (f : MacFrame) : Option DistrictIe := f.district.filter (fun ie => ie.oui = octets d 0x310022)

/-- The auxiliary header is malformed or unsupported (R351, R360). -/
def auxBad (d : Dev) (f : MacFrame) : Bool :=
  f.headerBad || 2 ≤ f.keyMode || (f.keyMode = 1 && f.ftype ≠ .beacon) || (f.ftype = .beacon && f.keyMode = 1 && (districtIe d f).isNone)

/-- The node whose key verifies a frame: by its source, or for an acknowledgement without one by the window it was heard in
(R351). -/
def senderNode (d : Dev) (f : MacFrame) (i : RxInfo) : Option Node :=
  match f.src with
  | .short a => nodeOf d a
  | .eui e => nodeByEui d e
  | .none =>
    if f.ftype = .ack then
      (d.nbr.awaits.find? (fun w => w.band = i.band && w.handle = i.handle && w.loc = i.loc && w.asn = i.asn)).bind (fun w => nodeOf d w.short)
    else none

/-- The MIC of a frame verifies under a key and a nonce (R351; log 4). -/
def micGood (f : MacFrame) (k : Key) (a : NonceAddr) : Bool := f.intact && f.key = k && f.nonce = a

/-- A MIC failure counted: event 97 at most once per second (R353). -/
def micFail (d : Dev) : Dev := raiseRate (count d 0x510006) 97 0 1 (sec 1) id

/-- The verification of a unicast frame or acknowledgement under its sender's SK (R353): SECSTAT, and KEY_FETCHED. -/
def verifyUnicast (d : Dev) (f : MacFrame) (i : RxInfo) : Dev × Nat × Bool :=
  match senderNode d f i with
  | none => (countKeyFail d 4, 4, false)
  | some n =>
    let k := keyCheck d n
    if k ≠ 0 then (countKeyFail (noteKeyCause d n k) k, k, false)
    else
      let hot := isHot d n
      let l := loadKey d n none
      if !l.2 then (countKeyFail l.1 0x0B, 0x0B, !hot)
      else
        let d1 := count (if hot then l.1 else count l.1 0x510007) 0x510005
        match dmk d1 with
        | some key => if micGood f (nodeKey key n) (.eui n.eui) then (useKey d1 n.index false, 2, !hot) else (micFail d1, 3, !hot)
        | none => (micFail d1, 3, !hot)

/-- The highest counter of a verified beacon under (DISTRICT, GEN) (R360). -/
def beaconTop (d : Dev) (district gen : Nat) : Option Nat :=
  (d.can.beacons.find? (fun b => b.1 = district && b.2.1 = gen)).map (fun b => b.2.2)

/-- A beacon whose MIC verified under a DGK of a generation: SECSTAT, and what is kept for the replay test (R360). -/
def beaconFresh (d : Dev) (district gen fc : Nat) : Dev × Nat :=
  let stale : Bool := match beaconTop d district gen with | some t => decide (fc ≤ t) | none => false
  if stale then (count d 0x51000F, 0x0C)
  else
    ({ d with can := { d.can with beacons :=
        (d.can.beacons.filter (fun b => !(b.1 = district && b.2.1 = gen))) ++ [(district, gen, fc)] } }, 2)

/-- The verification of a beacon secured with key identifier mode 1 (R360): the present DGK of its district first, then the
superseded one. -/
def verifyBeacon (d : Dev) (f : MacFrame) (ie : DistrictIe) : Dev × Nat :=
  let present := match keyEntry d 7 ie.district with | some e => if e.present then [(e.gen, e.key)] else [] | none => []
  let older := (d.can.old.filter (fun o => o.district = ie.district)).map (fun o => (o.gen, o.key))
  let keys := present ++ older
  if keys.isEmpty then (countKeyFail d 4, 4)
  else
    match keys.find? (fun k => micGood f (.raw k.2) (.group (groupAddress d ie.district))) with
    | some k => beaconFresh (count d 0x510005) ie.district k.1 f.fc
    | none => (micFail (countBy d 0x510005 keys.length), 3)

/-- The checks of R353 in order: SECSTAT, and KEY_FETCHED. -/
def verifyFrame (d : Dev) (f : MacFrame) (i : RxInfo) : Dev × Nat × Bool :=
  if tampered d then (d, 0x0A, false)
  else if !f.secured then (d, 1, false)
  else if auxBad d f then (d, 9, false)
  else if f.level = 0 || f.level = 4 || 7 < f.level || f.level < minLevel d f.ftype then (countKeyFail d 8, 8, false)
  else
    match f.keyMode, districtIe d f with
    | 1, some ie => let r := verifyBeacon d f ie; (r.1, r.2, false)
    | _, _ => verifyUnicast d f i

/-- The MAC frame a descriptor's buffer holds. -/
def macOf (d : Dev) (buf : Option Nat) : Option MacFrame :=
  match buf.bind (granule d) with
  | some g => match g.body with | .mac f => some f | _ => none
  | none => none

/-- A receive descriptor verified and pushed to Q2 (R352); one whose RXSTAT is not OK is not examined. -/
def verifyDesc (d : Dev) (x : Desc) : Dev :=
  match x.body with
  | .rx i =>
    if x.dstat ≠ 0 then (produce d 2 x).1
    else
      match macOf d x.buf with
      | some f =>
        let v := verifyFrame d f i
        let st : Stage := { secstat := v.2.1, level := if f.secured then f.level else 0, keyMode := if f.secured then f.keyMode else 0
                            fetched := v.2.2, ack := 0, verdict := 0 }
        (produce v.1 2 { x with body := .rx { i with stage := st } }).1
      | none => (produce d 2 { x with body := .rx { i with stage := { secstat := 9 } } }).1
  | _ => dropBuf d x.buf

/-- Frame security takes the next descriptor of Q0 or Q1 (R352). -/
def rxVerify (b : Band) (d : Dev) : Dev :=
  if !unitWorks d .frameSecurity || owesPush d 2 then d
  else
    let r := takeFrom d (bandNum b)
    match r.2 with
    | some x => verifyDesc r.1 x
    | none => r.1

/-- RX_VERIFY (R352). -/
def execRxVerify (band : Band) (s : State) : Host.Outcome State Fault Refusal := onDev s (rxVerify band)

/-! ## Frames sent (R356-R358) -/

/-- Octets of the MIC at a security level (R351). -/
def micLen (level : Nat) : Nat := match level with | 1 => 4 | 2 => 8 | 3 => 16 | 5 => 4 | 6 => 8 | 7 => 16 | _ => 0

/-- A frame secured (R351, R356): the auxiliary header and the nonce, under a node's SK or the DGK. -/
def securedFrame (d : Dev) (f : MacFrame) (level fc : Nat) (group : Option Nat) (seq : Nat) (key : Key) : MacFrame :=
  { f with secured := true, level := level, keyMode := if group.isSome then 1 else 0, keyIndex := group.getD 0, fc := fc
           seq := some seq, key := key, nonce := ownNonce d group.isSome, intact := true }

/-- The key of a frame to a neighbour, as a term. -/
def keyFor (d : Dev) (short : Nat) : Key :=
  match nodeOf d short, dmk d with | some n, some k => nodeKey k n | _, _ => .raw 0

/-- The key of group frames, as a term, and its Key Index (R351). -/
def groupKeyNow (d : Dev) : Key := match d.can.group with | some g => .raw g.2 | none => .raw 0
def groupIndex (d : Dev) : Nat := match d.can.group with | some g => g.1 % 256 | none => 0

/-- A Bunting frame's LEN is already its PSDU length (R419). -/
def isBlock (f : MacFrame) : Bool := match f.payload with | .block .. => true | .announce .. => true | _ => false

/-- Frame security secures a Q33 frame and returns it on Q34 (R356, R357); one whose buffer is poisoned goes back as not sent
(R246), with DSTAT 0, which the model chooses (log 24). -/
def secureDesc (d : Dev) (x : Desc) : Dev :=
  match x.body with
  | .down i =>
    if poisoned d x.buf then
      (produce (errBy d 2 4 0 0x11 x.buf (x.buf.map granuleAddr) 0x06 0 1) 34 ⟨0x07, 0, x.len, x.buf, .down { i with fc := 0 }⟩).1
    else
    let r := if i.group then secureGroup d else secureFor d i.neighbour
    let key := if i.group then groupKeyNow d else keyFor d i.neighbour
    let ok := r.2.1 = 2
    let d1 := match x.buf with
      | some g => if ok then
          updGranule r.1 g (fun y => match y.body with
            | .mac f => { y with body := .mac (securedFrame d f i.level r.2.2 (if i.group then some (groupIndex d) else none) i.seq key) }
            | _ => y)
        else r.1
      | none => r.1
    let grow := match macOf d x.buf with
      | some f => if isBlock f then 0 else 9 + (if i.group then 6 else 5) + micLen i.level
      | none => 0
    (produce d1 34 ⟨0x07, r.2.1, if ok then x.len + grow else x.len, x.buf, .down { i with fc := if ok then r.2.2 else 0 }⟩).1
  | _ => dropBuf d x.buf

/-- Frame security takes the next frame of Q33 (R356). -/
def secureFrame (d : Dev) : Dev :=
  if !unitWorks d .frameSecurity || owesPush d 34 then d
  else
    let r := takeFrom d 33
    match r.2 with
    | some x => secureDesc r.1 x
    | none => r.1

/-- SECURE_FRAME (R356). -/
def execSecureFrame (s : State) : Host.Outcome State Fault Refusal := onDev s secureFrame

end Sys2Proof.Machine
end

