-- ==== Sys2Proof/Machine/Neighbours.lean ====
section
/-!
DEFINITION. Neighbours and reliability (R202-R235): measurements, synchronization, guards, the judgement of received frames,
transmit lists and acknowledgements received, joins, and the commands on Pennant records.
-/
namespace Sys2Proof.Machine

/-! ## Measurements (R206, R207) -/

/-- A count held at 255. -/
def sat255 (n : Nat) : Nat := Nat.min n 255

/-- A value moved toward a sample by a part 1/2^w of the difference, rounded (log 16). -/
def fold (x s : Int) (w : Nat) : Int := x + roundDiv (s - x) (2 ^ w)

/-- A carrier sample that is an outlier (R206). -/
def cfoOutlier (p : Pennant) (s : Int) : Bool := p.cfoValid && 4 ≤ p.cfoN && 200 < (s - p.cfo).natAbs

/-- A carrier sample folded in (R206). -/
def foldCfo (w : Nat) (s : Int) (p : Pennant) : Pennant :=
  if !p.cfoValid then { p with cfo := s, cfoValid := true, cfoOut := 0, cfoN := sat255 (p.cfoN + 1) }
  else if cfoOutlier p s then
    if p.cfoOut + 1 < 3 then { p with cfoOut := p.cfoOut + 1 }
    else { p with cfo := s, cfoOut := 0, cfoN := 1 }
  else { p with cfo := fold p.cfo s w, cfoOut := 0, cfoN := sat255 (p.cfoN + 1) }

/-- RSSI and LQI folded in (R207). -/
def foldLevel (rssi : Int) (lqi : Nat) (p : Pennant) : Pennant :=
  if p.rssiValid then { p with rssi := fold p.rssi rssi 2, lqi := (fold p.lqi lqi 2).toNat }
  else { p with rssi := rssi, lqi := lqi, rssiValid := true }

/-- The measurements of a descriptor judged ACCEPTED or REPEAT (R206, R207). -/
def takeSample (d : Dev) (i : Nat) (x : RxInfo) : Dev :=
  match (nodeAt d i).bind Node.pennant with
  | none => d
  | some p =>
    let d1 := if cfoOutlier p x.cfo then count d 0x31001B else d
    updPennant d1 i (fun q => foldLevel x.rssi x.lqi (foldCfo (slotN d 0x310005) x.cfo q))

/-! ## Timing (R208-R216) -/

/-- The receive cell, or acknowledgement window, a frame was heard in (R166): as prepared. -/
def rxCellOf (d : Dev) (i : RxInfo) : Option RxPlan :=
  (d.sched.past.reverse.find? (fun c => c.1 = i.asn && c.2.1 = i.band && c.2.2.handle = i.handle && c.2.2.loc = i.loc)).map (fun c => c.2.2)

/-- OPTIONS of that cell. -/
def rxOptions (d : Dev) (i : RxInfo) : Nat := match rxCellOf d i with | some c => c.options | none => 0

/-- The template that a frame's cell runs by, and the T0 of its first slot (R161, R189, R208). -/
def tmplOf (d : Dev) (i : RxInfo) : Template := match rxCellOf d i with | some c => c.tmpl | none => d.sched.ver.tmpl
def cellT0 (d : Dev) (i : RxInfo) : Int := match rxCellOf d i with | some c => c.t0 | none => t0Of d i.asn

/-- The frame was heard in an acknowledgement window (R208). -/
def inAckWindow (d : Dev) (i : RxInfo) : Bool := match rxCellOf d i with | some c => c.ack | none => false

/-- The expected SFD instant of a frame of a cell (R208). -/
def expectedSfd (d : Dev) (i : RxInfo) : Int := cellT0 d i + ((tmplOf d i).txOffset : Int) + (shrNs i.band i.spread : Int)

/-- The timing error of a frame (R208). -/
def timingError (d : Dev) (i : RxInfo) : Int := i.sfdTime - expectedSfd d i

/-- The error that a frame's acknowledgement corrects: none is taken from a frame of an acknowledgement window (R208, log 131). -/
def errorOf (d : Dev) (i : RxInfo) : Int := if inAckWindow d i then 0 else timingError d i

/-- The Time Correction of an acknowledgement, µs (R210). -/
def correction (e : Int) : Int := clampInt (-2047) 2047 (roundDiv (-e) 1000)

/-- The drift sample of a synchronizing exchange, 0.01 ppm (R211). -/
def driftSample (e dt : Int) : Int := roundDiv (-e * 100000000) dt.toNat

/-- A drift sample taken before the record is overwritten, where the conditions hold (R211). -/
def foldDrift (d : Dev) (i : Nat) (sfd e : Int) : Dev :=
  match (nodeAt d i).bind Node.pennant with
  | none => d
  | some p =>
    let dt := sfd - p.syncTime
    if !p.syncValid || dt < slotNum d 0x31000A * 1000000000 then d
    else
      let s := driftSample e dt
      if 10000 < s.natAbs || (p.driftValid && 2000 < (s - p.drift).natAbs) then count d 0x31001C
      else
        updPennant d i (fun q => { q with
          drift := if q.driftValid then fold q.drift s (slotN d 0x310006) else s
          driftValid := true, driftN := sat255 (q.driftN + 1) })

/-- An exchange synchronizes a neighbour (R211). -/
def synchronize (d : Dev) (i : Nat) (sfd e : Int) (drift : Bool) : Dev :=
  updPennant (if drift then foldDrift d i sfd e else d) i
    (fun p => { p with syncTime := sfd, syncErr := e, slewMark := d.nbr.slewActive, syncValid := true })

/-- The acknowledgement of a frame with timing error `e` synchronizes its sender, and may end ADRIFT (R211, R216). -/
def syncByAck (d : Dev) (i : Nat) (sfd e : Int) (drift : Bool) : Dev :=
  match nodeAt d i with
  | none => d
  | some n =>
    if n.state = .adrift then
      if (e.natAbs : Int) ≤ slotNum d 0x31000C then
        raise (updPennant (synchronize d i sfd e false) i (fun p => { p with state := .active })) 49 n.short
      else d
    else synchronize d i sfd e drift

/-- A number divided and rounded up, as R213 does. -/
def ceilInt (a : Int) (b : Nat) : Int := -((-a) / (b : Int))

/-- The uncertainty of a neighbour at time `t` (R213); none while it has no synchronizing exchange. -/
def uncertainty (d : Dev) (p : Pennant) (t : Int) : Option Int :=
  if !p.syncValid then none
  else
    let rate : Int := (if p.driftValid then (p.drift.natAbs : Int) else slotNum d 0x310009) + slotNum d 0x310008
    let slew : Int := (((d.nbr.slewActive + 4294967296 - p.slewMark) % 4294967296 : Nat) : Int)
    some (slotNum d 0x310007 + ceilInt (rate * (t - p.syncTime)) 100000000 + ceilInt (num d 0x180007 * slew * 1000) 100000000)

/-- A neighbour enters ADRIFT (R214). -/
def enterAdrift (d : Dev) (n : Node) : Dev :=
  raise (updPennant d n.index (fun p => { p with state := .adrift, guard := 0xFFFFFFFF })) 48 n.short

/-- The test of R213 and R214 for one neighbour at time `t`. -/
def adriftTest (t : Int) (d : Dev) (short : Nat) : Dev :=
  match nodeOf d short with
  | none => d
  | some n =>
    match n.pennant.bind (fun p => uncertainty d p t) with
    | some u => if 4000000 < u && n.state = .active && named d short then enterAdrift d n else d
    | none => d

/-- The once-per-second guard test of every named neighbour (R214). -/
def adriftCheck (d : Dev) : Dev :=
  let d1 := reach d (d.nbr.adriftAt + sec 1)
  (namedNodes d1).foldl (adriftTest (tbNs d1)) { d1 with nbr := { d1.nbr with adriftAt := d1.clk.up } }

/-- The sequencer judges and tests while it is powered: D4 on (R202). -/
def sequencerOn (d : Dev) : Bool := domainOn d 4

/-- ADRIFT_CHECK (R214). -/
def execAdriftCheck (s : State) : Host.Outcome State Fault Refusal :=
  onDev s (fun d => if sequencerOn d then adriftCheck d else d)

/-! ## Judging a frame (R218-R223) -/

/-- The verdicts (R218). -/
inductive Verdict where
  | accepted | repeat_ | replay | conflict | notAuthentic | unsecuredRefused | unknownSender | rejoinRequired | rxNotOk | queueFull
  deriving DecidableEq, Repr

/-- Codes of the verdicts (R218). -/
def Verdict.code : Verdict → Nat
  | .accepted => 1 | .repeat_ => 2 | .replay => 3 | .conflict => 4 | .notAuthentic => 5 | .unsecuredRefused => 6
  | .unknownSender => 7 | .rejoinRequired => 8 | .rxNotOk => 9 | .queueFull => 10

/-- The node record of a frame's source (R219). -/
def sourceNode (d : Dev) (f : MacFrame) : Option Node :=
  let n := match f.src with | .short a => nodeOf d a | .eui e => nodeByEui d e | .none => none
  match n with | some x => if x.pennant.isSome then some x else none | none => none

/-- A join request (R219). -/
def isJoinReq (d : Dev) (f : MacFrame) (unsecuredOk : Bool) : Bool :=
  unsecuredOk && !f.secured && f.ftype = .data && (match f.src with | .eui _ => true | _ => false)
    && (match messageOf d f with | .joinReq _ => true | _ => false)

/-- The checks of a secured frame (R220). -/
def fcCheck (p : Pennant) (f : MacFrame) : Verdict :=
  if !p.fcValid || p.rxFc < f.fc then .accepted
  else if f.fc = p.rxFc then (if f.seq = some p.rxDsn then .repeat_ else .conflict)
  else .replay

/-- The checks of an unsecured frame (R221). -/
def dsnCheck (d : Dev) (p : Pennant) (f : MacFrame) (i : RxInfo) (len : Nat) : Verdict :=
  if p.dsnValid && f.seq = some p.rxDsn && len = p.rxLen && decide ((i.sfdTime - p.lastHeard).natAbs ≤ slotN d 0x31000F * 1000000000) then .repeat_
  else .accepted

/-- The verdict of R219 before its last line. -/
def verdictOf (d : Dev) (x : Desc) (i : RxInfo) (f : MacFrame) : Verdict :=
  let ok := (rxOptions d i).testBit 10
  let st := i.stage.secstat
  if x.dstat ≠ 0 then .rxNotOk
  else if 3 ≤ st then .notAuthentic
  else if st = 1 && !ok then .unsecuredRefused
  else
    match sourceNode d f with
    | none => .unknownSender
    | some n =>
      if n.state = .dropped || (n.state = .rejoinRequired && !isJoinReq d f ok) then .rejoinRequired
      else if isJoinReq d f ok then .accepted
      else match n.pennant with
        | some p => if st = 2 then fcCheck p f else dsnCheck d p f i x.len
        | none => .unknownSender

/-- Length of the MAC payload (R294): the PSDU without header, auxiliary header, MIC and FCS (log 12). -/
def payloadLen (x : Desc) (i : RxInfo) (f : MacFrame) : Nat :=
  x.len - f.srcEnd - (if f.secured then (if f.keyMode = 0 then 5 else 6) + micLen f.level else 0) - (if i.fcs32 then 4 else 2)

/-- REQ_OFF (R419, R420): where a vendor message begins in the granule of its frame, past the header, the auxiliary header and the
7 octets of its nested element. -/
def messageOff (d : Dev) (x : Desc) (f : MacFrame) : Nat :=
  (match x.buf.bind (granule d) with | some g => g.off | none => 0) + f.srcEnd + (if f.secured then (if f.keyMode = 0 then 5 else 6) else 0) + 7

/-- The descriptor that delivers a frame, and its queue (R218, R219, R294, R409); none where nothing is delivered. -/
def delivery (d : Dev) (x : Desc) (i : RxInfo) (f : MacFrame) (v : Verdict) (ackOut : Nat) : Option (Nat × Desc) :=
  let staged := { x with body := .rx { i with stage := { i.stage with verdict := v.code, ack := ackOut } } }
  match v with
  | .rxNotOk => some (4, staged)
  | .unknownSender => if isJoinReq d f ((rxOptions d i).testBit 10) then some (4, staged) else none
  | .accepted =>
    if isJoinReq d f ((rxOptions d i).testBit 10) || f.ftype = .command || f.ftype = .beacon then some (4, staged)
    else
      match messageOf d f, sourceNode d f with
      | .empty, _ => none
      | .blockReq _, some n => some (36, ⟨0x09, 0, payloadLen x i f, x.buf, .blockReq i.sfdTime n.short (messageOff d x f) i.lqi 0xFF 0 0⟩)
      | _, some n =>
        if f.ftype = .data then
          some (3, ⟨0x03, 0, payloadLen x i f, x.buf, .uplink i.sfdTime n.eui n.short i.lqi (i.lane + (if i.band = .g then 32 else 0))⟩)
        else none
      | _, none => none
  | _ => none

/-- Instant of the end of the last PSDU chip (R171). -/
def frameEnd (x : Desc) (i : RxInfo) : Int :=
  i.sfdTime + ((((if i.long then 2 else 1) + x.len) * byteNs i.band i.spread : Nat) : Int)

/-- Length of the acknowledgement of a frame (R210). -/
def ackLen (f : MacFrame) : Nat :=
  (match f.src with | .short _ => 11 | _ => 9) + (if f.secured then 5 + micLen f.level else 0)

/-- T0 of the slot that follows a cell's span, less SLOT_TAIL (R172). -/
def spanLimit (d : Dev) (asn span : Nat) : Int := t0Of d (asn + span) - (d.sched.ver.tmpl.slotTail : Int)

/-- That limit for a frame's cell, as prepared. -/
def limitOf (d : Dev) (i : RxInfo) : Int := match rxCellOf d i with | some c => c.limit | none => spanLimit d i.asn 1

/-- The acknowledgement outcome decided at the verdict (R18, R172, R218): 0 none requested, 1 to be sent, 2 overrun, 3 late,
4 by verdict, 5 where no transmission is allowed. -/
def ackOutcome (d : Dev) (x : Desc) (i : RxInfo) (f : MacFrame) (v : Verdict) : Nat :=
  let acks := match v with | .accepted => true | .repeat_ => true | .unknownSender => isJoinReq d f ((rxOptions d i).testBit 10) | _ => false
  let at_ := frameEnd x i + ((tmplOf d i).ackDelay : Int)
  if !f.ackReq then 0
  else if !acks then 4
  else if at_ - 150000 < tbNs d then 3
  else if limitOf d i < at_ + (airNs i.band i.spread (ackLen f) : Int) then 2
  else if !scheduleRuns d then 5
  else 1

/-- The carrier offset latched for a neighbour in the preparation of the slot with ASN `a` (R21, R23, R107); none where it was not latched. -/
def latchedOffset (d : Dev) (a short : Nat) : Option Int := (d.sched.latched.find? (fun x => x.1 = a && x.2.1 = short)).map (fun x => x.2.2)

/-- The acknowledgement to be sent (R107, R112, R210, R222). -/
def ackPlan (d : Dev) (x : Desc) (i : RxInfo) (f : MacFrame) (v : Verdict) : AckPlan :=
  let n := sourceNode d f
  let e := errorOf d i
  let tc := match v, n.bind Node.pennant with | .repeat_, some p => if p.ackCached then p.ackTc else correction e | _, _ => correction e
  { band := i.band, channel := i.channel, spread := i.spread, power := match rxCellOf d i with | some q => q.power | none => 0
    short := match n with | some m => m.short | none => 0xFFFF
    dest := match f.src with | .short a => .short a | _ => .none
    seq := f.seq, secured := f.secured, level := if f.secured then f.level else 0, tc := tc
    preoffset := (n.bind (fun m => latchedOffset d i.asn m.short)).getD i.cfo
    nominal := frameEnd x i + ((tmplOf d i).ackDelay : Int), limit := limitOf d i
    sfd := i.sfdTime, err := e, drift := v = .accepted && (rxOptions d i).testBit 3 && !inAckWindow d i
    join := match f.src with | .eui u => if isJoinReq d f ((rxOptions d i).testBit 10) then some u else none | _ => none
    buf := x.buf }

/-- The records on die: the named neighbours in ascending short address, at most 4,096, and the most recently heard others (R202). -/
def placeOnDie (d : Dev) : Dev :=
  let withRec := d.nbr.nodes.filter (fun n => n.pennant.isSome)
  let named_ := (withRec.filter (fun n => named d n.short)).map Node.short
  let heard (n : Node) : Int := match n.pennant with | some p => p.lastHeard | none => 0
  let others := sortBy (fun n => -heard n) (withRec.filter (fun n => !named d n.short))
  let on := (named_.take 4096) ++ ((others.map Node.short).take (4096 - Nat.min 4096 named_.length))
  { d with nbr := { d.nbr with nodes := d.nbr.nodes.map (fun n => { n with pennant := n.pennant.map (fun p => { p with onDie := on.contains n.short }) }) } }

/-- The record changes of an accepted or repeated frame (R206, R207, R220, R221). -/
def recordFrame (d : Dev) (n : Node) (x : Desc) (i : RxInfo) (f : MacFrame) (v : Verdict) : Dev :=
  if isJoinReq d f ((rxOptions d i).testBit 10) then updPennant d n.index (fun p => { p with lastHeard := i.sfdTime })
  else
    let d1 := takeSample d n.index i
    let d2 := updPennant d1 n.index (fun p =>
      if v = .accepted then
        { p with lastHeard := i.sfdTime, rxDsn := f.seq.getD p.rxDsn, dsnValid := p.dsnValid || f.seq.isSome, ackCached := true
                 ackTc := correction (errorOf d i), rxLen := x.len
                 rxFc := if i.stage.secstat = 2 then f.fc else p.rxFc, fcValid := p.fcValid || i.stage.secstat = 2 }
      else { p with lastHeard := i.sfdTime })
    { d2 with nbr := { d2.nbr with hitMarks := d2.nbr.hitMarks ++ [n.short] } }

/-- The first authentic frame judged ACCEPTED moves JOINING to ACTIVE (R230); the DGK follows (R361). -/
def activate (d : Dev) (n : Node) (i : RxInfo) : Dev :=
  if n.state = .joining && i.stage.secstat = 2 then
    sendGroupKey (raise (updPennant d n.index (fun p => { p with state := .active })) 53 n.short) n.short
  else d

/-- The verdict counted (R234), with events 51. -/
def countVerdict (d : Dev) (v : Verdict) (short : Nat) : Dev :=
  match v with
  | .accepted => count d 0x310013
  | .repeat_ => count d 0x310014
  | .replay => raiseRate (count d 0x310015) 51 0 1 (sec 1) (fun _ => short)
  | .conflict => raiseRate (count d 0x310015) 51 0 1 (sec 1) (fun _ => short)
  | .notAuthentic => count d 0x310016
  | .unsecuredRefused => count d 0x310016
  | .rejoinRequired => count d 0x310017
  | _ => d

/-- A frame that failed with KEY_REVOKED_PARENT sets its sender's record to REJOIN_REQUIRED at once (R344). -/
def noteRevoked (d : Dev) (f : MacFrame) (i : RxInfo) (v : Verdict) : Dev :=
  if v = .notAuthentic && (i.stage.secstat = 5 || i.stage.secstat = 7) then
    match sourceNode d f with
    | some n => if n.state = .rejoinRequired then d else requireRejoin d n.index
    | none => d
  else d

/-- What an authentic or other beacon tells of its district (R370, R386). -/
def noteBeacon (d : Dev) (f : MacFrame) (i : RxInfo) : Dev :=
  match f.ftype, districtIe d f with
  | .beacon, some ie =>
    let seen := d.hier.beacons.filter (fun b => b.1 ≠ ie.district) ++ [(ie.district, d.clk.up, ie.epoch)]
    let d1 : Dev := if i.stage.secstat = 2 then { d with hier := { d.hier with beacons := seen } } else d
    if ie.district = d1.hier.district && d1.sched.epoch < ie.epoch then
      if i.stage.secstat = 2 then
        (if d1.hier.st = .fenced then push' d1 (pq 4) ⟨0x0F, 0, 0, none, .hier 5 255 ie.district ie.epoch 0 0 none⟩ else fence d1 ie.epoch)
      else push' d1 (pq 4) ⟨0x0F, 0, 0, none, .hier 5 255 ie.district ie.epoch 0 1 none⟩
    else d1
  | _, _ => d

/-- A judged frame's delivery, record changes and acknowledgement (R219-R223): `v` is what R219 gives before its last line. -/
def judgeWith (d : Dev) (x : Desc) (i : RxInfo) (f : MacFrame) (v : Verdict) : Dev :=
  let out := ackOutcome d x i f v
  let r := match delivery d x i f v out with
    | some (q, y) => produce d q y
    | none => (dropBuf d x.buf, true)
  if !r.2 then r.1
  else
    let n := sourceNode d f
    let short := match n with | some m => m.short | none => 0xFFFF
    let d1 := countVerdict (noteRevoked (noteBeacon r.1 f i) f i v) v short
    let d2 := if out = 2 then raiseRate (count d1 0x30000A) 44 0 1 (sec 1) (fun _ => short) else d1
    let d3 : Dev := if out = 1 then { d2 with nbr := { d2.nbr with acks := d2.nbr.acks ++ [ackPlan d x i f v] } } else d2
    match v, n with
    | .accepted, some m => placeOnDie (activate (recordFrame d3 m x i f v) m i)
    | .repeat_, some m => placeOnDie (recordFrame d3 m x i f v)
    | _, _ => d3

/-! ## Acknowledgements received (R209, R224, R225) -/

/-- Backoff after an attempt in a shared cell (R174): the exponent kept for a destination, or macMinBe. -/
def backoffAfter (d : Dev) (short : Nat) (ok : Bool) : Dev :=
  let t := d.sched.ver.tmpl
  let rest := d.sched.backoff.filter (fun b => b.1 ≠ short)
  if ok then { d with sched := { d.sched with backoff := rest } }
  else
    let be := match d.sched.backoff.find? (fun b => b.1 = short) with | some b => Nat.min (b.2.1 + 1) t.maxBe | none => Nat.min (t.minBe + 1) t.maxBe
    let k := Config.backoff d.free be % 2 ^ be
    drawn { d with sched := { d.sched with backoff := rest ++ [(short, be, k)] } }

/-- The head frame that an awaited acknowledgement belongs to, while it still stands at the head of its list. -/
def awaitedHead (d : Dev) (w : AckWait) (short : Nat) : Option TxItem :=
  match (txList d short).head? with | some i => if w.item = some i.id then some i else none | none => none

/-- The timed frame that an awaited acknowledgement belongs to returns with an outcome (R195). -/
def timedDone (d : Dev) (w : AckWait) (id dstat : Nat) : Dev :=
  match d.nbr.timed.find? (fun i => i.id = id) with
  | some i => returnP0 { d with nbr := { d.nbr with timed := d.nbr.timed.filter (fun y => y.id ≠ id) } } i.desc dstat w.stamp
  | none => d

/-- An attempt went unacknowledged (R224, R225): one of a head frame is counted, and its frame abandoned after its last. -/
def attemptFailed (d : Dev) (w : AckWait) : Dev :=
  let d1 := if w.shared then backoffAfter d w.short false else d
  match w.kind with
  | .timed id => timedDone d1 w id 3
  | .frame short =>
    let d2 := count d1 0x310018
    match nodeOf d2 short, awaitedHead d2 w short with
    | some n, some i =>
      let tries := (match n.pennant with | some p => p.retry | none => 0) + 1
      if 1 + slotN d2 0x31000D ≤ tries then abandonItem (popHead d2 short) short i .notAcked
      else updPennant d2 n.index (fun p => { p with retry := tries })
    | _, _ => d2
  | _ => d1

/-- An attempt was acknowledged: the frame is done (R224). The backoff ends with a success in a shared cell, and in a dedicated cell with one
that leaves the list empty (R174). -/
def attemptDone (d : Dev) (w : AckWait) : Dev :=
  let d1 := match w.kind with
    | .timed id => timedDone d w id 2
    | .frame short => match awaitedHead d w short with | some i => endItem (popHead d short) i .acked w.stamp | none => d
    | _ => d
  if w.shared || (txList d1 w.short).isEmpty then backoffAfter d1 w.short true else d1

/-- The acknowledgement awaited in the window a frame was heard in. -/
def awaitOf (d : Dev) (i : RxInfo) : Option AckWait :=
  d.nbr.awaits.find? (fun w => w.band = i.band && w.handle = i.handle && w.loc = i.loc && w.asn = i.asn)

/-- An acknowledgement is awaited no longer. -/
def dropAwait (d : Dev) (w : AckWait) : Dev := { d with nbr := { d.nbr with awaits := d.nbr.awaits.erase w } }

/-- An acknowledgement heard in its window (R209, R211, R224): an acceptable one synchronizes and tells the timing error, whatever its sequence
number; it ends the attempt well only with the frame's number and without NACK. -/
def judgeAck (d : Dev) (x : Desc) (i : RxInfo) (a : MacFrame) (w : AckWait) : Dev :=
  let d1 := dropBuf (dropAwait d w) x.buf
  let acceptable := i.stage.secstat = 2 || (i.stage.secstat = 1 && !w.secured)
  if !acceptable then
    let d2 := match nodeOf d1 w.short with
      | some n => if (i.stage.secstat = 5 || i.stage.secstat = 7) && n.state ≠ .rejoinRequired then requireRejoin d1 n.index else d1
      | none => d1
    attemptFailed d2 w
  else
    let d2 := match nodeOf d1 w.short, a.tc with
      | some n, some t =>
        if n.state = .adrift then d1
        else synchronize d1 n.index i.sfdTime (t.1 * 1000) (w.timekeeping || (match w.kind with | .keepalive _ => true | _ => false))
      | _, _ => d1
    let nack := match a.tc with | some t => t.2 | none => false
    if a.seq = some w.seq && !nack then attemptDone d2 w else attemptFailed d2 w

/-- A lane of the band has acquired a preamble, or holds a frame, in the window of an awaited acknowledgement. -/
def laneHears (d : Dev) (w : AckWait) : Bool :=
  (bandLanes w.band).any (fun n =>
    let mine (x : Binding) : Bool := x.asn = w.asn && x.handle = w.handle && x.loc = w.loc
    match (lane d n).frame with
    | some f => mine f.bind
    | none => (lane d n).state = .preamble && (match (lane d n).bind with | some x => mine x | none => false))

/-- A descriptor of that window is on its way to the sequencer. -/
def ackOnWay (d : Dev) (w : AckWait) : Bool :=
  let mine (x : Desc) : Bool := match x.body with
    | .rx i => i.band = w.band && i.asn = w.asn && i.handle = w.handle && i.loc = w.loc
    | _ => false
  [0, 1, 2].any (fun q => (queue d q).packets.any mine || (match (queue d q).taken with | some x => mine x | none => false))
    || d.can.owed.any (fun x => mine x.2.1)

/-- An acknowledgement whose window has closed, which no lane hears and no descriptor brings: the attempt is unacknowledged (R173, R224). -/
def awaitOver (d : Dev) (w : AckWait) : Bool := decide (w.close ≤ tbNs d) && !laneHears d w && !ackOnWay d w

/-- The attempts whose acknowledgement can no longer come (R173, R224). -/
def failStale (d : Dev) : Dev :=
  (d.nbr.awaits.filter (awaitOver d)).foldl (fun x w => attemptFailed (dropAwait x w) w) d

/-! ## Acknowledgements sent (R211, R218, R230) -/

/-- The acknowledgement of a join request has been sent whole: the record it led to is synchronized through it, or the join that still waits
(R230). A record known before keeps its synchronization (R231). -/
def syncJoined (d : Dev) (eui : Nat) (sfd err : Int) : Dev :=
  let d1 : Dev := { d with hier := { d.hier with joins := d.hier.joins.map (fun j => if j.eui = eui && j.sfd = sfd then { j with acked := true } else j) } }
  match nodeByEui d1 eui with
  | some n => match n.pennant with
    | some p => if p.state = .joining && !p.syncValid && p.lastHeard = sfd then synchronize d1 n.index sfd err false else d1
    | none => d1
  | none => d1

/-- What the whole of a transmission brings about (R211, R230). -/
def afterTx (d : Dev) : TxAfter → Dev
  | .nothing => d
  | .sync short sfd err drift => match nodeOf d short with | some n => syncByAck d n.index sfd err drift | none => d
  | .joined eui sfd err => syncJoined d eui sfd err

/-- An acknowledgement whose sending failed under R102, R103, R115 or R358: the descriptor of the frame that it answers, if it waits in Q4, shows
outcome 5 (R218). -/
def ackFailed (d : Dev) (b : Band) (sfd : Int) (buf : Option Nat) : Dev :=
  let patch (x : Desc) : Desc := match x.body with
    | .rx i => if i.band = b && i.sfdTime = sfd && x.buf = buf then { x with body := .rx { i with stage := { i.stage with ack := 5 } } } else x
    | _ => x
  updQueue d 4 (fun q => { q with fill := q.fill.map patch, drain := q.drain.map patch, taken := q.taken.map patch })

/-! ## The judgement -/

/-- A frame heard in STOPPED (R376): a beacon is examined; every other frame is freed before it is judged, and counted. -/
def stoppedFrame (d : Dev) (x : Desc) (i : RxInfo) (f : Option MacFrame) : Dev :=
  let d1 := dropBuf d x.buf
  match f with
  | some m => if m.ftype = .beacon && x.dstat = 0 then noteBeacon d1 m i else count d1 0x70000E
  | none => count d1 0x70000E

/-- The sequencer takes the next descriptor of Q2 (R16, R219). -/
def frameJudgement (d : Dev) : Dev :=
  let r := takeFrom d 2
  match r.2 with
  | none => r.1
  | some x =>
    match x.body with
    | .rx i =>
      let f := macOf r.1 x.buf
      if r.1.sched.st = .stopped then stoppedFrame r.1 x i f
      else
        match f, awaitOf r.1 i with
        | some m, some w => if x.dstat = 0 && m.ftype = .ack then judgeAck r.1 x i m w else judgeWith r.1 x i m (verdictOf r.1 x i m)
        | some m, none => judgeWith r.1 x i m (verdictOf r.1 x i m)
        | none, _ =>
          -- no readable frame: an aborted or failed reception (RX_NOT_OK), or one aborted by tamper
          let v : Verdict := if x.dstat ≠ 0 then .rxNotOk else .notAuthentic
          let y := { x with body := .rx { i with stage := { i.stage with verdict := v.code } } }
          if v = .rxNotOk then (produce r.1 4 y).1 else countVerdict (dropBuf r.1 x.buf) v 0xFFFF
    | _ => dropBuf r.1 x.buf

/-- FRAME_JUDGEMENT (R219). -/
def execFrameJudgement (s : State) : Host.Outcome State Fault Refusal :=
  onDevSettled s (fun d => if sequencerOn d then frameJudgement d else d)

/-- The next hit mark, located through the short index (R277, R288). -/
def hitMark (d : Dev) : Dev :=
  match d.nbr.hitMarks with
  | [] => d
  | a :: t =>
    let d1 : Dev := { d with nbr := { d.nbr with hitMarks := t } }
    match shortEntry d1 a with
    | some e => setHit d1 e.eui
    | none => d1

/-- HIT_MARK (R277). -/
def execHitMark (s : State) : Host.Outcome State Fault Refusal := onDev s hitMark

/-- A received frame judged RX_NOT_OK. -/
def isNotOk : DescBody → Bool
  | .rx i => i.stage.verdict = 9
  | _ => false

/-- The record of an RX_NOT_OK descriptor in telemetry, and its granule freed (R223). -/
def rxNotOkRecord (d : Dev) : Dev :=
  match takeIf d 4 isNotOk with
  | (d1, some x) => dropBuf (stage d1 (.frame x []) (ceilDiv (48 + (if x.buf.isSome then x.len else 0)) 64 * 64)) x.buf
  | (d1, none) => d1

/-- RX_NOT_OK_RECORD (R223). -/
def execRxNotOkRecord (s : State) : Host.Outcome State Fault Refusal :=
  onDev s (fun d => if runtimeUp d then rxNotOkRecord d else d)

/-! ## Transmit lists (R20, R195, R224, R225, R357) -/

/-- A frame appended to a neighbour's transmit list. -/
def enlist (d : Dev) (short : Nat) (x : Desc) (ackReq secure : Bool) : Dev :=
  let i : TxItem := { id := d.nbr.nextId, desc := x, at_ := d.clk.up, ackReq := ackReq, secure := secure }
  setTxList { d with nbr := { d.nbr with nextId := d.nbr.nextId + 1 } } short (txList d short ++ [i])

/-- The multicast list of a GROUP (R414). -/
def mcastList (d : Dev) (g : Nat) : List TxItem := match findKey Prod.fst g d.nbr.mcast with | some x => x.2 | none => []

/-- A frame appended to a multicast list. -/
def enlistMcast (d : Dev) (g : Nat) (x : Desc) (secure : Bool) : Dev :=
  let i : TxItem := { id := d.nbr.nextId, desc := x, at_ := d.clk.up, ackReq := false, secure := secure }
  { d with nbr := { d.nbr with nextId := d.nbr.nextId + 1, mcast := putKey Prod.fst (g, mcastList d g ++ [i]) d.nbr.mcast } }

/-- The broadcast list of a band (R195). -/
def bcastList (d : Dev) (b : Band) : List TxItem := match d.nbr.bcast.find? (fun x => x.1 = b) with | some x => x.2 | none => []

/-- The broadcast list of a band set. -/
def setBcast (d : Dev) (b : Band) (l : List TxItem) : Dev :=
  { d with nbr := { d.nbr with bcast := d.nbr.bcast.filter (fun x => x.1 ≠ b) ++ [(b, l)] } }

/-- A Q32 frame joins its neighbour's transmit list (R20, R224), a broadcast the list of Band SF (log 28); one for a neighbour without
a Pennant record is discarded. -/
def downlinkFrame (d : Dev) : Dev :=
  let r := takeFrom d 32
  match r.2 with
  | none => r.1
  | some x =>
    match x.body with
    | .down i =>
      if i.neighbour = 0xFFFF then
        let y : TxItem := { id := r.1.nbr.nextId, desc := x, at_ := r.1.clk.up, ackReq := false, secure := true }
        setBcast { r.1 with nbr := { r.1.nbr with nextId := r.1.nbr.nextId + 1 } } .sf (bcastList r.1 .sf ++ [y])
      else if (pennantOf r.1 i.neighbour).isSome then enlist r.1 i.neighbour x true true else dropBuf r.1 x.buf
    | _ => dropBuf r.1 x.buf

/-- DOWNLINK_FRAME (R20). -/
def execDownlinkFrame (s : State) : Host.Outcome State Fault Refusal :=
  onDev s (fun d => if sequencerOn d then downlinkFrame d else d)

/-- A Q35 frame joins its group's multicast list or its neighbour's transmit list (R414, R415). -/
def imageBlock (d : Dev) : Dev :=
  let r := takeFrom d 35
  match r.2 with
  | none => r.1
  | some x =>
    match x.body with
    | .image _ bkind target _ _ _ _ group _ =>
      if bkind = 2 then
        if (pennantOf r.1 target).isSome then enlist r.1 target x true true else reportBlock (dropBuf r.1 x.buf) x 3
      else enlistMcast r.1 group x true
    | _ => dropBuf r.1 x.buf

/-- IMAGE_BLOCK (R414). -/
def execImageBlock (s : State) : Host.Outcome State Fault Refusal :=
  onDev s (fun d => if sequencerOn d then imageBlock d else d)

/-- Octets of the FCS: 4 in a long frame, which is one of more than 127 octets with a 2-octet FCS (R128). -/
def fcsLen (n : Nat) : Nat := if 125 < n then 4 else 2

/-- Octets a P0 frame takes on air beyond LEN: auxiliary header, MIC, FCS (R194). -/
def p0Psdu (d : Dev) (x : Desc) (i : P0Info) : Nat :=
  let n := x.len + (if i.secure then (if i.neighbour = 0xFFFF then 6 else 5) + micLen (slotN d 0x510001) else 0)
  n + fcsLen n

/-- A timed frame lies within the limits of its slot (R195). -/
def timedOk (d : Dev) (x : Desc) (i : P0Info) : Bool :=
  let a := asnAt d i.when_
  let t := d.sched.ver.tmpl
  let fin := i.when_ + (airNs i.band i.spread (p0Psdu d x i) : Int)
    + (if i.ackReq then (t.ackDelay : Int) + (t.ackGuard : Int) + (airNs i.band i.spread t.ackPsdu : Int) else 0)
  let t0 := t0Of d a.toNat
  decide (0 ≤ a) && decide (t0 + 100000 ≤ i.when_) && decide (fin + (t.slotTail : Int) ≤ t0Of d (a.toNat + 1))
    && (match d.sched.prepAsn with | some p => decide ((p : Int) < a) | none => true) && decide (tbNs d < t0 - 900000)

/-- The sequencer takes a P0 descriptor (R195). -/
def takeP0 (d : Dev) (x : Desc) : Dev :=
  match x.body with
  | .p0 i =>
    if !scheduleRuns d then returnP0 d x 8 0
    else if i.when_ = 0 then
      if i.group ≠ 0 then enlistMcast d i.group x i.secure
      else if i.neighbour = 0xFFFF then
        setBcast { d with nbr := { d.nbr with nextId := d.nbr.nextId + 1 } } i.band
          (bcastList d i.band ++ [{ id := d.nbr.nextId, desc := x, at_ := d.clk.up, ackReq := false, secure := i.secure }])
      else if (pennantOf d i.neighbour).isSome then enlist d i.neighbour x i.ackReq i.secure
      else returnP0 d x 7 0
    else if d.pwr.mode = .m9 then returnP0 d x 8 0
    else if !timedOk d x i || (i.neighbour ≠ 0xFFFF && (pennantOf d i.neighbour).isNone) then returnP0 d x 7 0
    else
      { d with nbr := { d.nbr with nextId := d.nbr.nextId + 1, timed := d.nbr.timed ++
          [{ id := d.nbr.nextId, desc := x, at_ := d.clk.up, ackReq := i.ackReq, secure := i.secure }] } }
  | _ => dropBuf d x.buf

/-- The runtime's owed P0 descriptors are pushed again, oldest first (R15). -/
def pushOwed (d : Dev) : Dev :=
  match d.nbr.p0Owed with
  | [] => d
  | x :: t =>
    let r := push d (pq 0) x
    if r.2 then { r.1 with nbr := { r.1.nbr with p0Owed := t } } else r.1

/-- TIMED_TRANSMIT (R195). -/
def timedTransmit (d : Dev) : Dev :=
  let r := takeFrom d (pq 0)
  match r.2 with
  | none => pushOwed r.1
  | some x => pushOwed (takeP0 r.1 x)

/-- TIMED_TRANSMIT (R195). -/
def execTimedTransmit (s : State) : Host.Outcome State Fault Refusal :=
  onDev s (fun d => if sequencerOn d then timedTransmit d else d)

/-- A P0 descriptor returned on Q4. -/
def isReturned : DescBody → Bool
  | .p0Done _ _ => true
  | _ => false

/-- The runtime takes back a P0 descriptor returned on Q4: its buffer is its own again, and freed (R195). -/
def p0Returned (d : Dev) : Dev :=
  match takeIf d 4 isReturned with
  | (d1, some x) => dropBuf d1 x.buf
  | (d1, none) => d1

/-- P0_DESCRIPTOR_RETURNED (R195). -/
def execP0DescriptorReturned (s : State) : Host.Outcome State Fault Refusal :=
  onDev s (fun d => if runtimeUp d then p0Returned d else d)

/-- A list's item that waits in frame security, found by its buffer. -/
def waitingFor (buf : Option Nat) (l : List TxItem) : Option TxItem := l.find? (fun i => i.inQ33 && i.desc.buf = buf)

/-- An item back from frame security, secured (R357). -/
def markSecured (buf : Option Nat) (fc level len : Nat) (l : List TxItem) : List TxItem :=
  l.map (fun i => if i.inQ33 && i.desc.buf = buf then { i with inQ33 := false, secured := some (fc, level), desc := { i.desc with len := len } } else i)

/-- A Q34 descriptor: the frame is kept for its cell, or abandoned on a failure (R20, R344, R357). -/
def securedDownlink (d : Dev) (x : Desc) : Dev :=
  match x.body with
  | .down i =>
    if i.group then
      let keep (l : List TxItem) : List TxItem :=
        if x.dstat = 2 then markSecured x.buf i.fc i.level x.len l else l.filter (fun y => !(y.inQ33 && y.desc.buf = x.buf))
      match (d.nbr.mcast.flatMap Prod.snd ++ d.nbr.bcast.flatMap Prod.snd).find? (fun y => y.inQ33 && y.desc.buf = x.buf) with
      | none => dropBuf d x.buf
      | some y =>
        let d1 : Dev := { d with nbr := { d.nbr with
          mcast := d.nbr.mcast.map (fun m => (m.1, keep m.2)), bcast := d.nbr.bcast.map (fun m => (m.1, keep m.2)) } }
        if x.dstat = 2 then d1 else abandonItem d1 0xFFFF { y with inQ33 := false } .keyFail
    else
      match waitingFor x.buf (txList d i.neighbour) with
      | none => dropBuf d x.buf
      | some y =>
        if x.dstat = 2 then
          let d1 := setTxList d i.neighbour (markSecured x.buf i.fc i.level x.len (txList d i.neighbour))
          match nodeOf d1 i.neighbour with
          | some n => updPennant d1 n.index (fun p => { p with txSecured := true })
          | none => d1
        else
          let d1 := abandonItem (popHead d i.neighbour) i.neighbour { y with inQ33 := false } .keyFail
          match nodeOf d1 i.neighbour with
          | some n => if x.dstat = 5 || x.dstat = 7 then requireRejoin d1 n.index else d1
          | none => d1
  | _ => dropBuf d x.buf

/-- SECURED_DOWNLINK (R357). -/
def execSecuredDownlink (s : State) : Host.Outcome State Fault Refusal :=
  onDev s (fun d => if sequencerOn d then (match takeFrom d 34 with | (d1, some x) => securedDownlink d1 x | (d1, none) => d1) else d)

/-- A frame has been on its list longer than TX_HOLD_MAX (R225). -/
def heldTooLong (d : Dev) (i : TxItem) : Bool := sec (slotN d 0x31000E) ≤ since d i.at_

/-- The head frames of a list that have passed TX_HOLD_MAX are abandoned; the fuel is the list's length (R225). -/
def expireHeads : Nat → Dev → Nat → Dev
  | 0, d, _ => d
  | n + 1, d, short =>
    match (txList d short).head? with
    | some i => if heldTooLong d i then expireHeads n (abandonItem (popHead d short) short i .expired) short else d
    | none => d

/-- P0 frames that have waited too long on a broadcast or multicast list return EXPIRED (R195). -/
def expireGroup (d : Dev) : Dev :=
  let old (i : TxItem) : Bool := heldTooLong d i && (match i.desc.body with | .p0 _ => true | _ => false)
  let gone := (d.nbr.bcast.flatMap (fun x => x.2.filter old)) ++ (d.nbr.mcast.flatMap (fun x => x.2.filter old))
  let d1 : Dev := { d with nbr := { d.nbr with
    bcast := d.nbr.bcast.map (fun x => (x.1, x.2.filter (fun i => !old i)))
    mcast := d.nbr.mcast.map (fun x => (x.1, x.2.filter (fun i => !old i))) } }
  gone.foldl (fun x i => endItem x i .expired 0) d1

/-- The once-per-second test of TX_HOLD_MAX (R225). -/
def txHoldCheck (d : Dev) : Dev :=
  let d1 := reach d (d.nbr.holdAt + sec 1)
  let d2 : Dev := { d1 with nbr := { d1.nbr with holdAt := d1.clk.up } }
  expireGroup ((d2.nbr.lists.map (fun l => (l.short, l.items.length))).foldl (fun x l => expireHeads l.2 x l.1) d2)

/-- TX_HOLD_CHECK (R225). -/
def execTxHoldCheck (s : State) : Host.Outcome State Fault Refusal :=
  onDev s (fun d => if sequencerOn d then txHoldCheck d else d)

end Sys2Proof.Machine
end

