-- ==== Sys2Proof/Machine/Governor.lean ====
section
/-!
DEFINITION. The energy and thermal governor (R425-R449): refill, reconciliation, sensors, its states, and the grants.
-/
namespace Sys2Proof.Machine

/-! ## Books -/

/-- Energy of an mJ figure in µJ. -/
def mj (n : Int) : Int := n * 1000

/-- E in mJ, rounded toward zero (R425). -/
def eCredit (d : Dev) : Int := if d.gov.e < 0 then -((-d.gov.e) / 1000) else d.gov.e / 1000

/-- E_CAP in µJ. -/
def eCap (d : Dev) : Int := mj (num d 0x110003)

/-- The sensors in service. -/
def inService (d : Dev) : List Sensor := d.gov.sensors.filter Sensor.inService

/-- T_MAX, 0.1 °C (R430, R431). -/
def tMax (d : Dev) : Int :=
  if (inService d).length < 4 then num d 0x114001 else (inService d).foldl (fun m s => if m < s.temp then s.temp else m) (-32768)

/-- H_PENDING, µJ (R432). -/
def hPending (d : Dev) : Int := ((d.gov.granted.filter (fun g => tbNs d < g.fin)).map GrantedCost.heat).foldl (· + ·) 0

/-- H, µJ (R432). -/
def hCredit (d : Dev) : Int := num d 0x114004 * (num d 0x114001 - tMax d) * 100 - hPending d

/-- The governor's report to the runtime (R444); asleep there is neither P7 nor runtime (R459). -/
def reportP7 (d : Dev) (gkind : Nat) : Dev :=
  if d.pwr.mode.asleep then d
  else push' d (pq 7) ⟨0x12, gkind, 0, none, .gov d.gov.st d.gov.grantMask (boolNum d.gov.night) (eCredit d) (tbNs d) (tMax d)⟩

/-- DATA of an event that carries E (R436). -/
def eData (d : Dev) : Nat := u32Of (satI32 (eCredit d))

/-! ## States and modes (R439-R441, R451, R452) -/

/-- The base mode (R451). -/
def baseMode (d : Dev) : Mode := if d.pwr.baseFull then .m7 else .m6

/-- The mode that DUTY_MODE and GOV_STATE ask for, taken in M6 to M8 (R439, R452). -/
def followGovernor (d : Dev) : Dev :=
  if d.pwr.mode = .m6 || d.pwr.mode = .m7 || d.pwr.mode = .m8 then
    let d1 : Dev := { d with pwr := { d.pwr with baseFull := d.pwr.fullOnly || numN d 0x100003 = 0 } }
    modeBands (gateCores (setMode d1 (if d1.gov.st = 0 then baseMode d1 else .m8)))
  else d

/-- GOV_STATE after a test of the conditions (R439). -/
def nextGovState (d : Dev) : Nat :=
  let t := tMax d
  let shed := num d 0x114001
  let hyst := num d 0x114002
  let crit := num d 0x114003
  let pct (k : Nat) : Int := eCap d * num d k / 100
  let st := d.gov.st
  if (if st = 4 then crit - hyst < t else crit ≤ t) then 4
  else
    let low := if st = 1 ∨ st = 3 then d.gov.e < pct 0x110010 else d.gov.e < pct 0x11000F
    let hot := if st = 2 ∨ st = 3 then shed - hyst < t else shed ≤ t
    (if low then 1 else 0) + (if hot then 2 else 0)

/-- GOV_STATE changed: event 8, GKIND 1, and hold or resume of deferrable work (R439, R440). -/
def setGov (d : Dev) (st : Nat) : Dev :=
  if d.gov.st = st then d
  else
    let old := d.gov.st
    let d1 := reportP7 (raise { d with gov := { d.gov with st := st } } 8 st) 1
    let d2 := if st = 4 then raise d1 12 (u32Of (tMax d1)) else d1
    let d3 := if old = 0 then reportP7 d2 2 else if st = 0 then reportP7 d2 3 else d2
    if preparesSlots d3 then d3 else followGovernor d3

/-! ## Refill (R425-R427) -/

/-- Local second of the day (R426). -/
def localSecond (d : Dev) : Nat := ((tbNs d / 1000000000 - d.ptp.utcOffset + num d 0x11000B) % 86400).toNat

/-- The night profile applies now (R426). -/
def nightNow (d : Dev) : Bool :=
  match numN d 0x110006 with
  | 0 =>
    let t := localSecond d
    let day := numN d 0x110009
    let night := numN d 0x11000A
    if night = day then false else if night < day then night ≤ t && t < day else night ≤ t || t < day
  | 1 => d.gov.lamp
  | _ => numN d 0x11000E = 1

/-- The lamp's level sampled and filtered over 100 ms (R426). -/
def sampleLamp (d : Dev) : Dev :=
  let lit := d.gpio.input.testBit (numN d 0x11000C) = (numN d 0x11000D = 1)
  if d.gov.lampRaw ≠ lit then { d with gov := { d.gov with lampRaw := lit, lampSince := d.clk.up } }
  else if ms 100 ≤ since d d.gov.lampSince then { d with gov := { d.gov with lamp := lit } } else d

/-- A new profile: event 13 and GKIND 4 (R426). -/
def updateProfile (d : Dev) : Dev :=
  let d1 := sampleLamp d
  let n := nightNow d1
  if n = d1.gov.night then d1 else reportP7 (raise { d1 with gov := { d1.gov with night := n } } 13 (boolNum n)) 4

/-- The day rate is reduced (R427). -/
def lowRate (d : Dev) : Bool := !d.gov.night && (d.gov.battStale || num d 0x110018 < num d 0x11001A)

/-- One millisecond's refill in hundredths of a µJ (R425-R427). -/
def refillHundredths (d : Dev) : Nat :=
  if d.gov.night then numN d 0x110008 * 100
  else if lowRate d then numN d 0x110007 * numN d 0x11001B
  else numN d 0x110007 * 100

/-- The refill of one millisecond (R425), the profile, and the test of the conditions of GOV_STATE (R439). -/
def refill (d : Dev) : Dev :=
  let d1 := reach d (d.gov.refillAt + ms 1)
  let h := d1.gov.frac + refillHundredths d1
  let e := d1.gov.e + ((h / 100 : Nat) : Int)
  let d2 := updateProfile { d1 with gov := { d1.gov with e := if eCap d1 < e then eCap d1 else e, frac := h % 100, refillAt := d1.clk.up } }
  setGov d2 (nextGovState d2)

/-- REFILL (R425). -/
def execRefill (s : State) : Host.Outcome State Fault Refusal := onDevSettled s (fun d => if d.pwr.mode = .m0 then d else refill d)

/-- BATT_SOC becomes stale (R427): event 10 and GKIND 5, at most once per BATT_AGE_MAX. -/
def becomeStale (d : Dev) : Dev :=
  if d.gov.battStale then d
  else
    let age := match d.gov.battAt with | some t => since d t / 64000000000 | none => 0xFFFFFFFF
    let d1 : Dev := { d with gov := { d.gov with battStale := true } }
    let due : Bool := match d.gov.battRaised with | some t => decide (sec (numN d 0x110019) ≤ since d t) | none => true
    if due then reportP7 (raise { d1 with gov := { d1.gov with battRaised := some d1.clk.up } } 10 age) 5 else d1

/-- BATT_SOC goes unwritten for BATT_AGE_MAX (R427). -/
def battStale (d : Dev) : Dev :=
  if d.gov.battStale then d
  else match d.gov.battAt with | some t => becomeStale (reach d (t + sec (numN d 0x110019))) | none => d

/-- BATT_STALE (R427). -/
def execBattStale (s : State) : Host.Outcome State Fault Refusal := onDev s battStale

/-! ## Reconciliation (R428, R429) -/

/-- Typical power of a sleep mode, µW (R597). -/
def sleepPower : Mode → Nat
  | .m1 => 45 | .m2 => 900 | _ => 6000

/-- Input energy of the samples of one second, µJ (R428): shunt voltage in µV, ISENSE_V in mV, 100 µs each. -/
def measuredEnergy (d : Dev) (l : List (Nat × Nat)) : Nat :=
  sumNat (l.map (fun s => s.1 * s.2)) * numN d 0x110016 * 100 / (Nat.max 1 (numN d 0x110015) * 1000000)

/-- The books reconciled with one second's energy (R428, R429). -/
def reconcile (samples : List (Nat × Nat)) (d : Dev) : Dev :=
  let d1 := reach d (d.gov.reconAt + sec 1)
  let ended := d1.gov.granted.filter (fun g => g.fin ≤ tbNs d1)
  let fore := (ended.map GrantedCost.energy).foldl (· + ·) 0
  let used : Int :=
    if d1.pwr.mode.asleep then (sleepPower d1.pwr.mode : Int)
    else if flag d1 0x110014 then (measuredEnergy d1 samples : Int)
    else mj (num d1 0x110017) + fore
  let part := d1.gov.inputPart + used.toNat
  { d1 with gov := { d1.gov with
      e := d1.gov.e - used + fore, reconAt := d1.clk.up, granted := d1.gov.granted.filter (fun g => tbNs d1 < g.fin)
      inputPower := (used / 1000).toNat, inputEnergy := d1.gov.inputEnergy + part / 1000, inputPart := part % 1000
      unattributed := (used - fore) / 1000 } }

/-- RECONCILIATION (R428). -/
def execReconciliation (samples : List (Nat × Nat)) (s : State) : Host.Outcome State Fault Refusal :=
  onDev s (fun d => if d.pwr.mode = .m0 then d else reconcile samples d)

/-! ## Sensors (R430, R431) -/

/-- A sensor read (R430, R431): its value, peak, and service. `others` is the sum and number of the other readings in service. -/
def readSensor (d : Dev) (s : Sensor) (t : Int) (others : Int × Nat) : Sensor :=
  let far := others.2 ≠ 0 && 250 * others.2 < (t * (others.2 : Int) - others.1).natAbs
  let off := if far then some (s.offSince.getD d.clk.up) else none
  let gone := t < -400 || 1500 < t || (match off with | some x => decide (sec 1 ≤ since d x) | none => false)
  { s with temp := t, peak := if s.peak < t then t else s.peak, offSince := off, inService := s.inService && !gone }

/-- The eight sensors read; one taken out of service raises event 11 (R431). -/
def readSensors (d : Dev) (temps : List Int) : Dev :=
  let pairs := (d.gov.sensors.zip temps)
  let live := pairs.filter (fun x => x.1.inService)
  let total := (live.map Prod.snd).foldl (· + ·) 0
  let news := pairs.map (fun x =>
    let self : Int × Nat := if x.1.inService then (x.2, 1) else (0, 0)
    readSensor d x.1 x.2 (total - self.1, live.length - self.2))
  let lost := (upTo 8).filter (fun i => (nth d.gov.sensors i {}).inService && !(nth news i {}).inService)
  lost.foldl (fun x i => raise x 11 i) { d with gov := { d.gov with sensors := if news.length = 8 then news else d.gov.sensors } }

/-- Die temperature nearest a band, 0.1 °C, by the governor's sensor (R100). -/
def bandTemp (d : Dev) (b : Band) : Int := (nth d.gov.sensors (bandNum b) {}).temp

/-- A temperature change since LAST_CAL_TEMP sets CAL_PENDING (R100, R101). -/
def calTrigger (p : Perm) (d : Dev) (b : Band) : Dev :=
  if p.manager || d.pwr.mode.asleep || (band d b).calPending.isSome || (band d b).cal.isSome then d
  else if numN d (feKey b 0x10) * 10 ≤ (bandTemp d b - (band d b).lastTemp).natAbs then
    updBand d b (fun x => { x with calPending := some (d.clk.up, false) })
  else d

/-- A millisecond sample of the sensors and, in M4-M11, of HOLDUP_SENSE (R430, R431, R439-R441, R499). In sleep the books are kept all the
same (R8), and at 125.0 °C the device wakes into M11 (R452; log 139). -/
def sensorSample (p : Perm) (temps : List Int) (holdup : Nat) (d : Dev) : Dev :=
  let d0 := reach d (d.gov.sampleAt + ms 1)
  let d1 : Dev := { d0 with
    gov := { d0.gov with sampleAt := d0.clk.up }
    nv := if d0.pwr.mode.asleep then d0.nv else { d0.nv with sense := lastN 8 (d0.nv.sense ++ [holdup]) } }
  let d2 := readSensors d1 temps
  let d3 := calTrigger p (calTrigger p (setGov d2 (nextGovState d2)) .sf) .g
  if 1250 ≤ tMax d3 && d3.pwr.mode ≠ .m11 then
    enterFault (raise (if d3.pwr.mode.asleep then restart d3 3 else stopTransmission d3) 15 (u32Of (tMax d3))) 3
  else d3

/-- SENSOR_SAMPLE (R430): in every mode but M0, sleep included (R8). -/
def execSensorSample (temps : List Int) (holdup : Nat) (s : State) : Host.Outcome State Fault Refusal :=
  onDevSettled s (fun d => if d.pwr.mode = .m0 then d else sensorSample s.perm temps holdup d)

/-- The runtime takes a P7 report (R440, R444). -/
def governorCommand (d : Dev) : Dev :=
  let r := takeFrom d (pq 7)
  match r.2 with
  | none => r.1
  | some x => if x.dstat = 2 then { r.1 with gov := { r.1.gov with hold := true } }
    else if x.dstat = 3 then { r.1 with gov := { r.1.gov with hold := false } } else r.1

/-- GOVERNOR_COMMAND (R444). -/
def execGovernorCommand (s : State) : Host.Outcome State Fault Refusal :=
  onDev s (fun d => if runtimeUp d then governorCommand d else d)

/-! ## Grants (R433-R438) -/

/-- A candidate activity (R435). `part` is 0 for Band SF, 1 for Band G, 2 for a task; `pairs` are the channel and spreading
pairs it needs lanes for, at `laneCost` µJ for each newly bound. -/
structure Cand where
  cls : Nat
  part : Nat
  handle : Nat
  loc : Nat
  task : Nat
  energy : Int
  heat : Int
  pairs : List (Nat × Nat)
  laneCost : Int
  overhead : Int
  fin : Int
  deriving DecidableEq, Repr

/-- The order of R435: class, band, handle, local, task number. -/
def Cand.rank (c : Cand) : Nat := ((((c.cls * 4 + c.part) * 64 + c.handle) * 64 + c.loc) * 1024) + c.task

/-- Candidates in ascending order. -/
def insertCand (c : Cand) : List Cand → List Cand
  | [] => [c]
  | x :: t => if c.rank < x.rank then c :: x :: t else x :: insertCand c t

/-- The books while the loop of R435 runs. -/
structure Books where
  e : Int
  h : Int
  bound : List (Nat × Nat × Nat)
  started : List Nat
  granted : List Cand
  costs : List GrantedCost
  deferred : List Cand

/-- Cost of a candidate at this point of the loop (R433): lanes not yet bound, and the band's overhead if it is the first. -/
def candCost (b : Books) (c : Cand) : Int :=
  let new := (c.pairs.filter (fun p => !b.bound.contains (c.part, p.1, p.2))).length
  (new : Int) * c.laneCost + (if c.part < 2 && !b.started.contains c.part then c.overhead else 0)

/-- A candidate granted. -/
def Books.grant (b : Books) (c : Cand) : Books :=
  let x := candCost b c
  { b with e := b.e - (c.energy + x), h := b.h - (c.heat + x), granted := b.granted ++ [c]
           costs := b.costs ++ [⟨c.fin, c.energy + x, c.heat + x⟩]
           bound := b.bound ++ c.pairs.map (fun p => (c.part, p.1, p.2)), started := c.part :: b.started }

/-- The loop of R435; once a candidate cannot be paid, it and all after it are deferred. -/
def grantLoop (d : Dev) : List Cand → Books → Books
  | [], b => b
  | c :: t, b =>
    let x := candCost b c
    if d.gov.st = 4 then
      if c.cls = 0 then grantLoop d t (b.grant c) else { b with deferred := b.deferred ++ (c :: t) }
    else if 1 ≤ d.gov.st && 3 ≤ c.cls then { b with deferred := b.deferred ++ (c :: t) }
    else if b.e - (c.energy + x) < num d ((0x1120 + c.cls) * 256 + 1) * eCap d / 100
        ∨ b.h - (c.heat + x) < num d 0x114004 * num d ((0x1120 + c.cls) * 256 + 2) * 100 then
      { b with deferred := b.deferred ++ (c :: t) }
    else grantLoop d t (b.grant c)

/-- Counts GRANTED and DEFERRED by class (R435). -/
def countClasses (d : Dev) (sub : Nat) (l : List Cand) : Dev := l.foldl (fun x c => count x ((0x1120 + c.cls) * 256 + sub)) d

/-- Event 9 for classes 1 to 3 (R449): deferred in every slot for 60 s, once per episode. -/
def starve (deferred : List Cand) (d : Dev) (k : Nat) : Dev :=
  if deferred.any (fun c => c.cls = k) then
    match d.gov.starved.find? (fun x => x.1 = k) with
    | none => { d with gov := { d.gov with starved := d.gov.starved ++ [(k, d.clk.up, false)] } }
    | some (_, t, done) =>
      if !done && sec 60 ≤ since d t then
        raise { d with gov := { d.gov with starved := d.gov.starved.map (fun x => if x.1 = k then (k, t, true) else x) } } 9 k
      else d
  else { d with gov := { d.gov with starved := d.gov.starved.filter (fun x => x.1 ≠ k) } }

/-- The governor's answer to a list of candidates (R435, R436): those granted; E, H_PENDING and the counts follow. -/
def grants (d : Dev) (l : List Cand) : Dev × List Cand :=
  let b := grantLoop d (l.foldl (fun x c => insertCand c x) []) ⟨d.gov.e, hCredit d, [], [], [], [], []⟩
  let mask := b.granted.foldl (fun m c => setBit m c.cls) 0
  let d1 : Dev := { d with gov := { d.gov with e := b.e, granted := d.gov.granted ++ b.costs, grantMask := mask } }
  let d2 := countClasses (countClasses d1 3 b.granted) 4 b.deferred
  let d3 := if b.deferred.any (fun c => c.cls = 0) then raiseRate d2 14 0 1 (sec 1) (fun _ => eData d2) else d2
  ([1, 2, 3].foldl (starve b.deferred) d3, b.granted)

/-- Output power in µW of a cell power in 0.5 dB units (R433): 1000 × 10^(p/20), from the table of one decade in twenty steps
(log 18). -/
def microWatt (p : Int) : Int :=
  let k := (p + 200) % 20
  let e := (p + 200) / 20 - 10
  let m : Int := nth [1000000, 1122018, 1258925, 1412538, 1584893, 1778279, 1995262, 2238721, 2511886, 2818383, 3162278, 3548134, 3981072,
    4466836, 5011872, 5623413, 6309573, 7079458, 7943282, 8912509] k.toNat 1000000
  if e < 0 then roundDiv m (1000 * 10 ^ e.natAbs) else roundDiv (m * 10 ^ e.toNat) 1000

/-- Cost keys by band (R446). -/
def costKey (b : Band) (sub : Nat) : Nat := 0x111000 + sub + bandNum b

/-- Energy of a transmission of `ns` at power `p`, and the heat of it (R433, R434), µJ. -/
def txEnergy (d : Dev) (b : Band) (p : Int) (len : Nat) : Int :=
  (num d (costKey b 5) + microWatt p * 100 / Nat.max 1 (numN d (costKey b 7))) * (len : Int) / 1000000000
def txHeat (d : Dev) (b : Band) (p : Int) (len : Nat) : Int :=
  let out := microWatt p
  let ext : Int := if flag d (feKey b 0x0B) then out * 100 / Nat.max 1 (numN d (costKey b 7)) - out else 0
  txEnergy d b p len - (out + ext) * (len : Int) / 1000000000

/-- A command accepted with MODE 1 whose first slot of work was deferred (R438): noted once. -/
def noteDeferred (d : Dev) (key : Nat) : Dev :=
  if d.gov.deferred.any (fun x => x.1 = key) then d else { d with gov := { d.gov with deferred := d.gov.deferred ++ [(key, d.clk.up)] } }

/-- A command of task 6 accepted while no slots are prepared and the governor withholds the task (R437, R438). -/
def noteAccepted (d : Dev) (key : Nat) : Dev := if preparesSlots d || d.gov.st = 0 then d else noteDeferred d key

/-- Its work has begun. -/
def noteBegun (d : Dev) (key : Nat) : Dev := { d with gov := { d.gov with deferred := d.gov.deferred.filter (fun x => x.1 ≠ key) } }

end Sys2Proof.Machine
end

