-- ==== Sys2Proof/Machine/Memory.lean ====
section
/-!
DEFINITION. The store's bytes (R236): one list in canonical form, addresses strictly rising and no byte listed that an
unlisted address already reads as, which is 0, the value the store clear writes (R238).
-/
namespace Sys2Proof.Machine

/-- The byte at an address (R238: a word not written since the clear reads zero). -/
def memGet (a : Nat) : Memory → Byte
  | [] => 0
  | (k, b) :: t => if k = a then b else memGet a t

/-- A byte written: listed in its place, or unlisted where it is 0. -/
def memPut (a : Nat) (b : Byte) : Memory → Memory
  | [] => if b = 0 then [] else [(a, b)]
  | (k, c) :: t =>
    if k = a then (if b = 0 then t else (a, b) :: t)
    else if a < k then (if b = 0 then (k, c) :: t else (a, b) :: (k, c) :: t)
    else (k, c) :: memPut a b t

/-- Octets written from an address upward. -/
def memWrite (a : Nat) : List Byte → Memory → Memory
  | [], m => m
  | b :: t, m => memWrite (a + 1) t (memPut a b m)

/-- `n` octets read from an address upward. -/
def memRead (m : Memory) (a n : Nat) : List Byte := (List.range n).map (fun i => memGet (a + i) m)

/-- The canonical form: addresses strictly rising above `lo`, no zero byte listed. -/
def memWfFrom (lo : Nat) : Memory → Bool
  | [] => true
  | (k, b) :: t => decide (lo ≤ k) && b ≠ 0 && memWfFrom (k + 1) t

/-- The canonical form of the store. -/
def Memory.wf (m : Memory) : Bool := memWfFrom 0 m

end Sys2Proof.Machine
end

