-- ==== Sys2Proof/Machine/Bunting.lean ====
section
/-!
DEFINITION. Bunting, the distribution of node images (R399-R424): the repository, the campaigns, their rounds and repairs.
-/
namespace Sys2Proof.Machine

/-! ## The repository (R400-R403) -/

/-- An entry of campaign `c`. -/
def campKey (c sub : Nat) : Nat := (0x6110 + c) * 256 + sub

/-- REPO_BASE (R237, R400), and the store address of a slot. -/
def repoBase (d : Dev) : Nat := 0x78000000 + d.store.fbUnits * 67108864
def slotBase (d : Dev) (i : Nat) : Nat := repoBase d + 1048576 * i

/-- REPO_SLOTS (R400). -/
def repoSlots (d : Dev) : Nat := d.store.repoUnits * 64

/-- The directory record of a slot that is not empty. -/
def imageAt (d : Dev) (slot : Nat) : Option ImageRec := findKey ImageRec.slot slot d.bunting.images

/-- C_IMAGE of a campaign. -/
def campSlot (d : Dev) (c : Nat) : Nat := numN d (campKey c 2)

/-- The campaigns in states 1-4 that use a slot (R400 USERS). -/
def slotUsers (d : Dev) (slot : Nat) : List Nat := (upTo 8).filter (fun c => campActive d c && campSlot d c = slot)

/-- The command IMAGE_COMMIT: SLOT, KIND, VERSION, SIZE, DIGEST; accepted with MODE 1 (R401). -/
def imageCommitCore : Core := fun arg d =>
  if !argLen arg 44 then answer d .malformed
  else
    let slot := leAt arg 0 2
    let x : Nat × Nat × Nat × Nat × Nat := (slot, leAt arg 2 2, leAt arg 4 4, leAt arg 8 4, leAt arg 12 32)
    if repoSlots d ≤ slot || leAt arg 8 4 = 0 || 1048576 < leAt arg 8 4 then answer d .outOfRange
    else
      let bad := match imageAt d slot with
        | some i => if i.st = 2 then !(x = (slot, i.kind, i.version, i.size, i.digest)) else !(slotUsers d slot).isEmpty
        | none => !(slotUsers d slot).isEmpty
      if bad then answer d .wrongMode
      else answer (noteAccepted (accept { d with bunting := { d.bunting with committing := some x } } 0x610004) 0x610004) .ok

/-- IMAGE_COMMIT (R401). -/
def execImageCommit (r : Req) (arg : List Byte) (s : State) : Host.Outcome State Fault Refusal :=
  onDev s (serveExec r 0x610004 arg imageCommitCore)

/-- The campaigns paused for a damaged image return to the state held before (R403). -/
def resumeDamaged (d : Dev) (slot : Nat) : Dev :=
  (upTo 8).foldl (fun x c =>
    if (camp x c).st = 4 && (camp x c).pauseCause = 2 && campSlot x c = slot then
      if (camp x c).heldPause then updCamp x c (fun k => { k with pauseCause := 1, heldPause := false })
      else setCamp (updCamp x c (fun k => { k with pauseCause := 0 })) c (camp x c).prior
    else x) d

/-- Bursts of an interval of the store are no longer marked poisoned, having been written whole. -/
def cleanBursts (d : Dev) (a n : Nat) : Dev :=
  { d with store := { d.store with poisoned := d.store.poisoned.filter (fun b => !(a ≤ b * 64 && b * 64 < a + n)) } }

/-- The digest check and copy of an IMAGE_COMMIT completes (R401): the device, and the octets copied with their address. -/
def imageCommitted (d : Dev) : Dev × Option (Nat × List Byte) :=
  match d.bunting.committing with
  | none => (d, none)
  | some (slot, kind, version, size, digest) =>
    if !taskRuns d 6 then (d, none)
    else
      let img := stagedString d 0x610003 size
      let d1 := finish { d with bunting := { d.bunting with committing := none } } 0x610004
      if leNat (sha256 img) ≠ digest then (raise d1 104 (slot * 256 + 1), none)
      else
        let x : ImageRec := { slot := slot, st := 1, kind := kind, blocks := ceilDiv size 256, version := version, size := size
                              time := tbNs d, digest := digest }
        let d2 := cleanBursts (unstage d1 0x610003) (slotBase d slot) 1048576
        let d3 : Dev := { d2 with bunting := { d2.bunting with images := insertBy (fun i => (i.slot : Int)) x (dropKey ImageRec.slot slot d2.bunting.images) } }
        (resumeDamaged (raise d3 104 (slot * 256)) slot, some (slotBase d slot, img))

/-- IMAGE_COMMITTED (R401). -/
def execImageCommitted (s : State) : Host.Outcome State Fault Refusal :=
  let r := imageCommitted s.d
  match r.2 with
  | none => .next { s with d := r.1 }
  | some (a, img) => .next { s with d := r.1, mem := memWrite a img s.mem }

/-- The command IMAGE_DELETE (R422). -/
def imageDeleteCore : Core := fun arg d =>
  if !argLen arg 2 then answer d .malformed
  else if repoSlots d ≤ leNat arg then answer d .outOfRange
  else if !(slotUsers d (leNat arg)).isEmpty then answer d .wrongMode
  else answer { d with bunting := { d.bunting with images := dropKey ImageRec.slot (leNat arg) d.bunting.images } } .ok

/-- IMAGE_DELETE (R422). -/
def execImageDelete (r : Req) (arg : List Byte) (s : State) : Host.Outcome State Fault Refusal :=
  onDev s (serveExec r 0x610005 arg imageDeleteCore)

/-- The command IMAGE_DISCARD (R401). -/
def imageDiscardCore : Core := fun arg d => if !argLen arg 0 then answer d .malformed else answer (unstage d 0x610003) .ok

/-- IMAGE_DISCARD (R401). -/
def execImageDiscard (r : Req) (arg : List Byte) (s : State) : Host.Outcome State Fault Refusal :=
  onDev s (serveExec r 0x610007 arg imageDiscardCore)

/-- A poisoned word of a slot's image has been found: the slot is damaged, event 106, its campaigns pause (R403). One that a command
paused before is paused by that command again once the damage is gone. -/
def damageImage (d : Dev) (slot : Nat) : Dev :=
  match imageAt d slot with
  | none => d
  | some _ =>
    let d1 : Dev := { d with bunting := { d.bunting with images := modKey ImageRec.slot slot (fun x => { x with st := 2 }) d.bunting.images } }
    let d2 := reportP6 (raise d1 106 slot) 3 0xFF 0 0xFFFF slot
    (slotUsers d2 slot).foldl (fun x c =>
      let k := camp x c
      setCamp (updCamp x c (fun y => { y with
        pauseCause := 2, prior := if k.st = 4 then k.prior else k.st, heldPause := k.st = 4 && (k.pauseCause = 1 || k.heldPause) })) c 4) d2

/-- The slot of the repository that holds a store address. -/
def slotOf (d : Dev) (a : Nat) : Option Nat :=
  if repoBase d ≤ a ∧ a < repoBase d + repoSlots d * 1048576 then some ((a - repoBase d) / 1048576) else none

/-! ## Campaign commands (R405, R417) -/

/-- Whether a command's argument, which a campaign command has none of, is empty. -/
def campCommand (c : Nat) (ok : Dev → Bool) (f : Dev → Dev) : Core := fun arg d =>
  if !argLen arg 0 then answer d .malformed else if ok d && c < 8 then answer (f d) .ok else answer d .wrongMode

/-- The nodes a campaign may take (R405): those ACTIVE, or those staged. -/
def candidates (d : Dev) (c : Nat) : List Node :=
  if numN d (campKey c 4) = 0 then d.nbr.nodes.filter (fun n => n.state = .active)
  else
    let len := stagedEnd d 0x61000C
    let l := stagedString d 0x61000C len
    ((upTo (len / 8)).map (fun i => leAt l (8 * i) 8)).eraseDups.filterMap (nodeByEui d)

/-- A node is a target of another campaign in states 1-4 (R405). -/
def takenElsewhere (d : Dev) (c : Nat) (n : Node) : Bool := n.bunt.campaign ≠ c && n.bunt.state ≠ 0 && campActive d n.bunt.campaign

/-- A campaign started: its targets' areas set, its counts cleared, ANNOUNCING entered (R405, R413). -/
def startCampaign (d : Dev) (c : Nat) : Dev × Nat :=
  let l := candidates d c
  let chosen := l.filter (fun n => !takenElsewhere d c n)
  let area : BuntArea := { campaign := c, state := 1, tag := numN d (campKey c 3), lastReq := tbNs d }
  let nodes := d.nbr.nodes.map (fun n =>
    if chosen.any (fun m => m.index = n.index) then { n with bunt := area }
    else if n.bunt.campaign = c then { n with bunt := {} } else n)
  let d1 : Dev := { d with nbr := { d.nbr with nodes := nodes } }
  let d2 := updCamp d1 c (fun k => { k with
    prior := 0, pauseCause := 0, heldPause := false, round := 0, announce := numN d (campKey c 9), plan := [], annDue := false, sinceAnn := 0, waiting := []
    lastSent := d.clk.up, stalled := false, targetsN := chosen.length, skipped := l.length - chosen.length
    doneN := 0, refusedN := 0, failedN := 0, lostN := 0 })
  (setCamp d2 c 1, chosen.length)

/-- The command C_START (R405, R418). -/
def cStartCore (p : Perm) (c : Nat) : Core := fun arg d =>
  if !argLen arg 0 then answer d .malformed
  else
    let idle := (camp d c).st = 0 || 5 ≤ (camp d c).st
    let held := match imageAt d (campSlot d c) with | some i => i.st = 1 | none => false
    if p.manager || spareIdle d || !idle || !held then answer d .wrongMode
    else
      let r := startCampaign d c
      (r.1, .ok, toLe 4 r.2)

/-- C_START (R405). -/
def execCStart (r : Req) (c : Fin 8) (arg : List Byte) (s : State) : Host.Outcome State Fault Refusal :=
  onDev s (serveExec r (campKey c 0x0D) arg (cStartCore s.perm c))

/-- The command C_PAUSE (R417). -/
def cPauseCore (c : Nat) : Core :=
  campCommand c (fun d => 1 ≤ (camp d c).st && (camp d c).st ≤ 3)
    (fun d => setCamp (updCamp d c (fun k => { k with prior := k.st, pauseCause := 1, heldPause := false })) c 4)

/-- C_PAUSE (R417). -/
def execCPause (r : Req) (c : Fin 8) (arg : List Byte) (s : State) : Host.Outcome State Fault Refusal :=
  onDev s (serveExec r (campKey c 0x0E) arg (cPauseCore c))

/-- The command C_RESUME (R417). -/
def cResumeCore (c : Nat) : Core :=
  campCommand c (fun d => (camp d c).st = 4) (fun d => setCamp (updCamp d c (fun k => { k with pauseCause := 0, heldPause := false })) c (camp d c).prior)

/-- C_RESUME (R417). -/
def execCResume (r : Req) (c : Fin 8) (arg : List Byte) (s : State) : Host.Outcome State Fault Refusal :=
  onDev s (serveExec r (campKey c 0x0F) arg (cResumeCore c))

/-- The command C_ABORT: repairs that wait are discarded; the next slot preparation empties the multicast list (R417). -/
def cAbortCore (c : Nat) : Core :=
  campCommand c (fun d => campActive d c)
    (fun d => setCamp (updCamp d c (fun k => { k with waiting := [], plan := [], announce := 0, annDue := false, pauseCause := 0, heldPause := false, dropList := true })) c 6)

/-- C_ABORT (R417). -/
def execCAbort (r : Req) (c : Fin 8) (arg : List Byte) (s : State) : Host.Outcome State Fault Refusal :=
  onDev s (serveExec r (campKey c 0x10) arg (cAbortCore c))

/-- A node's Bunting area, as offsets 192-511 of its record (R410). -/
def areaOctets (b : BuntArea) : List Byte :=
  toLe 1 b.campaign ++ toLe 1 b.state ++ toLe 2 b.tag ++ toLe 2 b.base ++ toLe 2 b.held ++ toLe 8 (b.lastReq % 18446744073709551616).toNat
    ++ toLe 2 b.repairs ++ toLe 1 b.verify ++ toLe 1 b.cause ++ toLe 44 0 ++ toLe 256 b.map

/-- The command BUNTING_QUERY (R422). -/
def buntingQueryCore : Core := fun arg d =>
  if !argLen arg 2 then answer d .malformed
  else match nodeOf d (leNat arg) with
    | some n => (d, .ok, areaOctets n.bunt)
    | none => answer d .noEntry

/-- BUNTING_QUERY (R422). -/
def execBuntingQuery (r : Req) (arg : List Byte) (s : State) : Host.Outcome State Fault Refusal :=
  onDev s (serveExec r 0x61000D arg buntingQueryCore)

/-! ## Demand and requests (R410-R412) -/

/-- A node holds a block, as its area says (R411). -/
def BuntArea.holds (b : BuntArea) (k : Nat) : Bool := k < b.base || (k < b.base + 2048 && b.map.testBit (k - b.base))

/-- The targets in RECEIVING that do not hold a block (R412). -/
def demand (d : Dev) (c block : Nat) : Nat := ((targets d c).filter (fun n => n.bunt.state = 2 && !n.bunt.holds block)).length

/-- BLOCKS of a campaign's image. -/
def campBlocks (d : Dev) (c : Nat) : Nat := match imageAt d (campSlot d c) with | some i => i.blocks | none => 0

/-- The window slid while its first 256 bits are set (R411); the fuel covers 4,096 blocks. -/
def slide (blocks : Nat) : Nat → BuntArea → BuntArea
  | 0, b => b
  | n + 1, b =>
    if b.map % 2 ^ 256 = 2 ^ 256 - 1 ∧ b.base + 2048 < blocks then slide blocks n { b with base := b.base + 256, map := b.map / 2 ^ 256 } else b

/-- Blocks known to be held (R410 B_HELD). -/
def heldBlocks (blocks : Nat) (b : BuntArea) : Nat := ((upTo blocks).filter b.holds).length

/-- A report applied: blocks below BASE held, those described held or missing (R409, R412). -/
def applyReport (blocks : Nat) (q : BlockReq) (b : BuntArea) : BuntArea :=
  let map := (upTo 2048).foldl (fun m i =>
    let k := b.base + i
    if k < q.base then setBit m i
    else if k < q.base + q.count ∧ k < blocks then putBit m i (!q.missing.contains k) else m) b.map
  let b1 := slide blocks 8 { b with map := map }
  { b1 with held := heldBlocks blocks b1 }

/-- A target's area changed. -/
def updArea (d : Dev) (i : Nat) (f : BuntArea → BuntArea) : Dev := updNode d i (fun n => { n with bunt := f n.bunt })

/-- A target resolved: its state, its count, the report on P6, and DONE when it was the last (R416, R421). -/
def resolve (d : Dev) (n : Node) (st cause : Nat) : Dev :=
  let c := n.bunt.campaign
  let d1 := updArea d n.index (fun b => { b with state := st, cause := cause })
  let d2 := updCamp d1 c (fun k => { k with
    doneN := k.doneN + (if st = 3 then 1 else 0), refusedN := k.refusedN + (if st = 4 then 1 else 0), failedN := k.failedN + (if st = 5 then 1 else 0) })
  campResolved (reportP6 d2 2 c st n.short (campSlot d c)) c

/-- The parts of a block that hold data, in quarter form (R407). -/
def blockParts (d : Dev) (c b : Nat) : List Nat :=
  match imageAt d (campSlot d c) with
  | some i => (upTo 4).filter (fun k => 256 * b + 64 * k < i.size)
  | none => []

/-- A repair of a block for a node is outstanding or waits (R412). -/
def repairOpen (k : Campaign) (node b : Nat) : Bool := (k.repairs ++ k.waiting).any (fun x => x.node = node && x.block = b)

/-- Repairs queued for the blocks a request misses (R412): `sent` counts those of the request. -/
def queueRepairs (c src node : Nat) : List Nat → Nat → Dev → Dev
  | [], _, d => d
  | b :: t, sent, d =>
    let k := camp d c
    if k.st = 2 && k.plan.any (fun x => x.1 = b) then queueRepairs c src node t sent d
    else if numN d (campKey c 6) ≤ demand d c b && k.round < numN d (campKey c 7) then queueRepairs c src node t sent d
    else if k.st = 4 || sent = numN d (campKey c 0x0A) then d
    else if repairOpen k node b then queueRepairs c src node t sent d
    else queueRepairs c src node t (sent + 1)
      (updCamp d c (fun x => { x with waiting := x.waiting ++ (blockParts d c b).map (fun p => { nbr := src, node := node, block := b, part := p }) }))

/-- A request that reports blocks: applied to the target's area, and its repairs queued (R412). -/
def progress (d : Dev) (n : Node) (src : Nat) (q : BlockReq) : Dev :=
  let c := n.bunt.campaign
  let blocks := campBlocks d c
  let d1 := updArea d n.index (fun b => applyReport blocks q { b with state := 2 })
  let missing := (upTo q.count).map (· + q.base) |>.filter (fun k => k < blocks && q.missing.contains k)
  queueRepairs c src n.short missing 0 d1

/-- A block request handled (R412). -/
def handleRequest (d : Dev) (src : Nat) (q : BlockReq) : Dev :=
  let short := if q.forNode = 0xFFFF then src else q.forNode
  match nodeOf d short with
  | none => count d 0x610009
  | some n =>
    if n.bunt.state = 0 || n.bunt.tag ≠ q.tag || 2 < n.bunt.state || !campActive d n.bunt.campaign then count d 0x610009
    else
      let d1 := updArea d n.index (fun b => { b with lastReq := tbNs d })
      if q.done then resolve d1 n 3 0
      else if q.refuse then resolve d1 n 4 0
      else if q.verifyFail then
        let d2 := updArea d1 n.index (fun b => { b with verify := b.verify + 1 })
        if 2 < n.bunt.verify + 1 then resolve d2 n 5 3
        else progress (updArea d2 n.index (fun b => { b with map := 0, base := 0 })) n src q
      else progress d1 n src q

/-- Bunting takes the next descriptor of Q36, where it is of the kind awaited. -/
def takeReport (d : Dev) (kind : Nat) : Dev × Option Desc :=
  if !queuesOn d || !unitWorks d .bunting then (d, none)
  else match front d 36 with
    | some x => if x.dstat = kind then takeFrom d 36 else (d, none)
    | none => (d, none)

/-- BLOCK_REQ: Bunting takes a node's request (R412); a poisoned one is not used (R246). -/
def blockRequest (d : Dev) : Dev :=
  let r := takeReport d 0
  match r.2 with
  | none => r.1
  | some x =>
    if poisoned r.1 x.buf then dropPoisoned r.1 8 x
    else
      let d1 := count (dropBuf r.1 x.buf) 0x610008
      match x.body, (macOf r.1 x.buf).map (messageOf d1) with
      | .blockReq _ src _ _ _ _ _, some (.blockReq q) => handleRequest d1 src q
      | _, _ => d1

/-- BLOCK_REQ (R412). -/
def execBlockReq (s : State) : Host.Outcome State Fault Refusal := onDev s blockRequest

/-! ## Reports of the sequencer (R413-R415, R420) -/

/-- The last frame of a round's plan has been sent: GAP (R413). -/
def roundEnd (d : Dev) (c : Nat) : Dev :=
  let k := camp d c
  if k.st = 2 && k.plan.isEmpty && !k.annDue && k.outN = 0 then setCamp (updCamp d c (fun x => { x with gapAt := d.clk.up })) c 3 else d

/-- MULTICAST_FRAME_SENT (R414, R420). -/
def multicastSent (d : Dev) : Dev :=
  let r := takeReport d 1
  match r.2 with
  | some ⟨_, _, _, _, .blockReq _ _ _ _ c _ _⟩ =>
    roundEnd (updCamp (count r.1 0x61000A) c (fun k => { k with outN := k.outN - 1, lastSent := r.1.clk.up, stalled := false })) c
  | _ => r.1

/-- MULTICAST_FRAME_SENT (R420). -/
def execMulticastFrameSent (s : State) : Host.Outcome State Fault Refusal := onDev s multicastSent

/-- A repair frame is no longer outstanding (R415). -/
def repairOver (d : Dev) (c src block part : Nat) : Dev :=
  updCamp d c (fun k => { k with repairs := k.repairs.eraseP (fun x => x.nbr = src && x.block = block && x.part = part) })

/-- REPAIR_ACKNOWLEDGED (R415). -/
def repairAcked (d : Dev) : Dev :=
  let r := takeReport d 2
  match r.2 with
  | some ⟨_, _, _, _, .blockReq _ src _ _ c block part⟩ =>
    updCamp (repairOver (count r.1 0x61000B) c src block part) c (fun k => { k with lastSent := r.1.clk.up, stalled := false })
  | _ => r.1

/-- REPAIR_ACKNOWLEDGED (R415). -/
def execRepairAcknowledged (s : State) : Host.Outcome State Fault Refusal := onDev s repairAcked

/-- REPAIR_ABANDONED (R415). -/
def repairAbandoned (d : Dev) : Dev :=
  let r := takeReport d 3
  match r.2 with
  | some ⟨_, _, _, _, .blockReq _ src _ _ c block part⟩ => repairOver r.1 c src block part
  | _ => r.1

/-- REPAIR_ABANDONED (R415). -/
def execRepairAbandoned (s : State) : Host.Outcome State Fault Refusal := onDev s repairAbandoned

/-- FRAME_DISCARDED: a multicast frame that is not sent, of an aborted campaign (R417, R420) or without a key (R20). -/
def frameDiscarded (d : Dev) : Dev :=
  let r := takeReport d 4
  match r.2 with
  | some ⟨_, _, _, _, .blockReq _ _ _ _ c _ _⟩ => roundEnd (updCamp r.1 c (fun k => { k with outN := k.outN - 1 })) c
  | _ => r.1

/-- FRAME_DISCARDED (R420). -/
def execFrameDiscarded (s : State) : Host.Outcome State Fault Refusal := onDev s frameDiscarded

/-! ## Frames built (R406-R408, R413-R415, R419) -/

/-- The image octets of a frame: a whole block or a quarter of it, shortened at the image's end (R407). -/
def blockSpan (i : ImageRec) (b part : Nat) (quarter : Bool) : Nat × Nat :=
  let off := 256 * b + (if quarter then 64 * part else 0)
  (off, Nat.min (if quarter then 64 else 256) (i.size - off))

/-- An interval of the store holds a burst marked poisoned (R244). -/
def spanPoisoned (d : Dev) (a n : Nat) : Bool := d.store.poisoned.any (fun b => decide (a < b * 64 + 64 ∧ b * 64 < a + n))

/-- A Bunting frame put into a granule and pushed to Q35 (R419): whether it was. -/
def pushBlock (d : Dev) (payload : MacPayload) (msg : Nat) (c bkind target block part forNode : Nat) : Dev × Bool :=
  let repair := bkind = 2
  let len := 9 + (if repair then 5 else 6) + 7 + msg + micLen (numN d 0x510001)
  let a := alloc d 8 len (.mac (vendorFrame d (.short target) repair payload))
  match a.2 with
  | none => (a.1, false)
  | some g =>
    let x : Desc := ⟨0x08, 0, len, some g, .image c bkind target block part (camp d c).round forNode (0xB000 + c) (tbNs d)⟩
    ((produce a.1 35 x).1, true)

/-- The next ANNOUNCE of a campaign (R408). -/
def pushAnnounce (d : Dev) (c : Nat) (i : ImageRec) : Dev × Bool :=
  pushBlock d (.announce (flag d (campKey c 5)) (numN d (campKey c 3)) i.kind (camp d c).round i.version i.size i.blocks i.digest) 52 c 1 0xFFFF 0 0 0xFFFF

/-- A BLOCK frame (R407); a poisoned word of the image stops it (R403). -/
def pushData (m : Memory) (d : Dev) (c : Nat) (i : ImageRec) (b part : Nat) (quarter : Bool) (bkind target forNode : Nat) : Dev × Bool :=
  let sp := blockSpan i b part quarter
  let a := slotBase d i.slot + sp.1
  if spanPoisoned d a sp.2 then (damageImage d i.slot, false)
  else
    pushBlock d (.block (numN d (campKey c 3)) b forNode (if quarter then part else 0) quarter (b + 1 = i.blocks) (memRead m a sp.2)) (8 + sp.2)
      c bkind target b (if quarter then part else 0) forNode

/-- The plan of a round over the given blocks (R407, R413). -/
def planOf (d : Dev) (c : Nat) (blocks : List Nat) : List (Nat × Nat) :=
  if flag d (campKey c 5) then blocks.flatMap (fun b => (blockParts d c b).map (fun p => (b, p))) else blocks.map (fun b => (b, 0))

/-- A round begins (R413): its plan, and its first ANNOUNCE. -/
def beginRound (d : Dev) (c : Nat) (blocks : List Nat) : Dev :=
  setCamp (updCamp d c (fun k => { k with round := k.round + 1, plan := planOf d c blocks, annDue := true, sinceAnn := 0 })) c 2

/-- An announcement was pushed in ANNOUNCING; the last one leads to round 1 (R413). -/
def announced (d : Dev) (c : Nat) : Dev :=
  let d1 := updCamp d c (fun k => { k with announce := k.announce - 1, outN := k.outN + 1 })
  if (camp d1 c).announce = 0 then beginRound d1 c (upTo (campBlocks d1 c)) else d1

/-- A frame of the plan was pushed: an ANNOUNCE is due after every 64th block (R413). -/
def planned (d : Dev) (c : Nat) : Dev :=
  updCamp d c (fun k =>
    let rest := k.plan.tail
    let blockDone := (rest.head?.map Prod.fst) ≠ (k.plan.head?.map Prod.fst)
    let n := if blockDone then k.sinceAnn + 1 else k.sinceAnn
    { k with plan := rest, outN := k.outN + 1, sinceAnn := if n = 64 then 0 else n, annDue := n = 64 })

/-- The next multicast frame of a campaign (R413, R414). -/
def pushMulticast (m : Memory) (d : Dev) (c : Nat) : Dev :=
  let k := camp d c
  match imageAt d (campSlot d c) with
  | none => d
  | some i =>
    if 4 ≤ k.outN then d
    else if k.st = 1 then
      let r := pushAnnounce d c i
      if r.2 then announced r.1 c else r.1
    else if k.st = 2 then
      if k.annDue then
        let r := pushAnnounce d c i
        if r.2 then updCamp r.1 c (fun x => { x with annDue := false, outN := x.outN + 1 }) else r.1
      else match k.plan.head? with
        | none => d
        | some (b, p) =>
          let r := pushData m d c i b p (flag d (campKey c 5)) 0 0xFFFF 0xFFFF
          if r.2 then planned r.1 c else r.1
    else d

/-- Repair frames outstanding for a neighbour, of all campaigns (R415). -/
def outstanding (d : Dev) (nbr : Nat) : Nat := ((d.bunting.camps.flatMap Campaign.repairs).filter (fun x => x.nbr = nbr)).length

/-- The next repair frame of a campaign, for the first waiting repair whose neighbour has fewer than four outstanding (R415). -/
def pushRepair (m : Memory) (d : Dev) (c : Nat) : Dev :=
  let k := camp d c
  match imageAt d (campSlot d c), k.waiting.find? (fun x => outstanding d x.nbr < 4) with
  | some i, some x =>
    if !campActive d c || k.st = 4 then d
    else
      let r := pushData m d c i x.block x.part true 2 x.nbr (if x.node = x.nbr then 0xFFFF else x.node)
      if r.2 then
        let d1 := updCamp r.1 c (fun y => { y with waiting := y.waiting.erase x, repairs := y.repairs ++ [x] })
        match nodeOf d1 x.node with
        | some n => if x.part = 0 then updArea d1 n.index (fun b => { b with repairs := Nat.min 65535 (b.repairs + 1) }) else d1
        | none => d1
      else r.1
  | _, _ => d

/-- BUNTING_FRAME_PUSH (R414, R415): Q35 has space and Bunting works. -/
def framePush (m : Memory) (c : Nat) (repair : Bool) (d : Dev) : Dev :=
  if !queuesOn d || !unitWorks d .bunting || !(queue d 35).space 35 then d
  else if repair then pushRepair m d c else pushMulticast m d c

/-- BUNTING_FRAME_PUSH (R414). -/
def execBuntingFramePush (c : Fin 8) (repair : Bool) (s : State) : Host.Outcome State Fault Refusal := onDev s (framePush s.mem c repair)

/-! ## Rounds, checks and reports (R413, R416, R417, R421) -/

/-- The end of a gap (R413). -/
def gapEnd (c : Nat) (d : Dev) : Dev :=
  if (camp d c).st ≠ 3 then d
  else
    let d1 := reach d ((camp d c).gapAt + sec (numN d (campKey c 8)))
    if !(targets d1 c).any Node.open_ then campResolved d1 c
    else
      let k := camp d1 c
      let blocks := if k.round = numN d1 (campKey c 7) then []
        else (upTo (campBlocks d1 c)).filter (fun b => numN d1 (campKey c 6) ≤ demand d1 c b)
      if blocks.isEmpty then updCamp d1 c (fun x => { x with gapAt := d1.clk.up }) else beginRound d1 c blocks

/-- ROUND_GAP_END (R413). -/
def execRoundGapEnd (c : Fin 8) (s : State) : Host.Outcome State Fault Refusal := onDev s (gapEnd c)

/-- A target that the check finds silent or late (R416): its cause. -/
def lateCause (d : Dev) (n : Node) : Option Nat :=
  let c := n.bunt.campaign
  if !n.open_ || !campActive d c then none
  else if n.bunt.lastReq + num d (campKey c 0x0B) * nsPerSec < tbNs d then some 1
  else if num d (campKey c 0x0C) ≠ 0 && decide (num d (campKey c 0x0C) < tbNs d) then some 2
  else none

/-- The once-per-second check of the targets (R416). -/
def targetCheck (d : Dev) : Dev :=
  let d1 := reach d (d.bunting.lastCheck + sec 1)
  let d2 : Dev := { d1 with bunting := { d1.bunting with lastCheck := d1.clk.up } }
  let d3 := d2.nbr.nodes.foldl (fun x n => match lateCause d2 n with | some cause => resolve x n 5 cause | none => x) d2
  (upTo 8).foldl campResolved d3

/-- TARGET_CHECK (R416). -/
def execTargetCheck (s : State) : Host.Outcome State Fault Refusal :=
  onDev s (fun d => if queuesOn d && unitWorks d .bunting then targetCheck d else d)

/-- A campaign in ANNOUNCING or ROUND with no cell of its GROUP, or that has sent no frame for STALL_TIME (R417). -/
def campStalled (c : Nat) (d : Dev) : Dev :=
  let k := camp d c
  if (k.st ≠ 1 && k.st ≠ 2) || k.stalled then d
  else
    let stall (x : Dev) (cause : Nat) : Dev := raise (updCamp x c (fun y => { y with stalled := true })) 107 (c * 256 + cause)
    if !d.sched.ver.cells.any (fun x => x.mcast && x.group = 0xB000 + c) then stall d 1
    else
      let d1 := reach d (k.lastSent + sec (numN d 0x610010))
      if sec (numN d 0x610010) ≤ since d1 k.lastSent then stall d1 2 else d1

/-- CAMPAIGN_STALLED (R417). -/
def execCampaignStalled (c : Fin 8) (s : State) : Host.Outcome State Fault Refusal := onDev s (campStalled c)

/-- BUNTING_CONTROL: the runtime takes a report from P6 (R421). -/
def execBuntingControl (s : State) : Host.Outcome State Fault Refusal :=
  onDev s (fun d => if runtimeUp d then (takeFrom d (pq 6)).1 else d)

end Sys2Proof.Machine
end

