-- ==== Sys2Proof/Machine/Rest.lean ====
section
/-!
DEFINITION. A band between its activities (R95-R98, R116, R133, R173): what the schedule brings next, the state its front end keeps, the ends of
transmissions and windows that the clock brings, and the pushes that frame security owes.
-/
namespace Sys2Proof.Machine

/-! ## Cells that are active (R162, R167, R175, R193, R233) -/

/-- A slotframe is suspended (R193). -/
def suspended (d : Dev) (h : Nat) : Bool := flag d ((0x3040 + h) * 256 + 4)

/-- A neighbour is Adrift. -/
def isAdrift (d : Dev) (short : Nat) : Bool := match nodeOf d short with | some n => n.state = .adrift | none => false

/-- The band has an Adrift neighbour, named in its cells, that has no rescue cell of its own (R175). -/
def orphanAdrift (d : Dev) (b : Band) : Bool :=
  let v := d.sched.ver
  let cs := v.cells.filter (fun c => v.bandOf c = b)
  d.nbr.nodes.any (fun n => n.state = .adrift && cs.any (fun c => c.neighbour = n.short)
    && !cs.any (fun c => c.rescue && c.neighbour = n.short))

/-- A RESCUE cell is active (R175). -/
def rescueActive (d : Dev) (b : Band) (c : Cell) : Bool :=
  c.rescue && (if c.neighbour = 0xFFFF then orphanAdrift d b else isAdrift d c.neighbour)

/-- A rescue is active on a band (R175): RESCUE_ACTIVE. -/
def bandRescue (d : Dev) (b : Band) : Bool :=
  d.sched.ver.cells.any (fun c => d.sched.ver.bandOf c = b && rescueActive d b c)

/-- The band lies inside a span in the slot with ASN `a` (R167). -/
def inSpan (d : Dev) (b : Band) (a : Nat) : Bool := d.sched.spans.any (fun s => s.band = b && a ≤ s.last)

/-- A burst has begun on the band, with `k` as the slots it covers (R233). -/
def burstOn (d : Dev) (b : Band) (k : Nat → Nat → Bool) : Bool :=
  match d.nbr.burst with
  | some x => x.band = b && (match x.begun with | some (f, n) => k f n | none => false)
  | none => false

/-- The band lies inside a burst in the slot with ASN `a` (R233). -/
def inBurst (d : Dev) (b : Band) (a : Nat) : Bool := burstOn d b (fun f n => decide (f ≤ a) && decide (a < f + n))

/-- A burst is under way on the band. -/
def bursting (d : Dev) (b : Band) : Bool := burstOn d b (fun _ _ => true)

/-- ASN of the next slot, from `a` on, in which a cell is active (R162). -/
def nextAsn (v : SchedVer) (a : Nat) (c : Cell) : Nat := if v.size c = 0 then a else a + (c.slotOffset + v.size c - a % v.size c) % v.size c

/-- Cells of a band of slotframes not suspended whose rescue, if they belong to one, is active (R170, R175, R193). -/
def liveCells (d : Dev) (b : Band) : List Cell :=
  let v := d.sched.ver
  v.cells.filter (fun c => v.bandOf c = b && 0 < v.size c && !suspended d c.handle && (!c.rescue || rescueActive d b c) && (!c.rescueAdv || bandRescue d b))

/-- Slots of the prefetch (R190): 64 at least (log 128). -/
def prefetchSlots : Nat := Nat.max 64 Config.prefetch

/-! ## What a band has to do (R97) -/

/-- A band's part of a slot. -/
def SlotPlan.part (s : SlotPlan) : Band → BandPlan
  | .sf => s.sf | .g => s.g

/-- A band's part of a slot set. -/
def SlotPlan.setPart (s : SlotPlan) (b : Band) (p : BandPlan) : SlotPlan :=
  match b with | .sf => { s with sf := p } | .g => { s with g := p }

/-- A band's part has an activity that was granted. -/
def BandPlan.busy (p : BandPlan) : Bool := p.tx.isSome || !p.rx.isEmpty || p.cal.isSome || p.burst

/-- When the band's next activity starts (R97): the prepared slot's, else its next active cell within the prefetch. -/
def nextActivity (d : Dev) (b : Band) : Option Int :=
  let now := (asnAt d (tbNs d)).toNat + 1
  let base := match d.sched.prepAsn with | some a => Nat.max (a + 1) now | none => now
  let soonest := (liveCells d b).foldl (fun (m : Option Nat) c =>
    let k := nextAsn d.sched.ver base c
    if base + prefetchSlots ≤ k then m else match m with | some x => some (Nat.min x k) | none => some k) none
  match d.sched.prep with
  | some s => if (s.part b).busy then some s.t0 else soonest.map (t0Of d)
  | none => soonest.map (t0Of d)

/-- The state a band is kept in until its next activity (R97): never below STANDBY in M7. -/
def restState (d : Dev) (b : Band) : RadioState :=
  let st : RadioState := match nextActivity d b with
    | some t => if t - tbNs d ≤ slotNum d (feKey b 0x1A) then .ready else if t - tbNs d ≤ slotNum d (feKey b 0x1B) then .standby else .sleep
    | none => .sleep
  match d.sched.prep with
  | some s => if (s.part b).busy then .ready else if st = .sleep && d.pwr.baseFull then .standby else st
  | none => if st = .sleep && d.pwr.baseFull then .standby else st

/-- A receive window planned for the band is still to open. -/
def windowAhead (d : Dev) (b : Band) (soon : Int → Bool) : Bool :=
  d.sched.past.any (fun c => c.2.1 = b && decide (tbNs d < c.2.2.closes) && soon c.2.2.opens
    && !d.sched.windows.any (fun w => w.band = b && w.asn = c.1 && w.handle = c.2.2.handle && w.loc = c.2.2.loc))

/-- The slot in progress still has work for the band: a window to open, a transmission, an acknowledgement to send or to hear. -/
def workAhead (d : Dev) (b : Band) : Bool :=
  (match d.sched.now with | some s => (s.part b).tx.isSome | none => false)
    || d.nbr.acks.any (fun a => a.band = b) || d.nbr.awaits.any (fun w => w.band = b) || windowAhead d b (fun _ => true)

/-- A lane of the band listens or receives, or its window is open. -/
def listening (d : Dev) (b : Band) : Bool :=
  !(openWindows d b).isEmpty || (bandLanes b).any (fun n => (lane d n).holds || (lane d n).state = .preamble)

/-- LNA_EN as R116 has it: asserted from LNA_LEAD before reception on, never while PA_EN is asserted nor for 1 µs after it fell. -/
def driveLna (d : Dev) (b : Band) : Dev :=
  let x := band d b
  let pa := match b with | .sf => d.pwr.paSf | .g => d.pwr.paG
  let rested := match x.paFell with | some t => decide (t + 1000 ≤ tbNs d) | none => true
  let lead := slotNum d (feKey b 0x0F)
  let soon := match x.unblankAt with
    | some t => decide (t - lead ≤ tbNs d) && (!(openWindows d b).isEmpty || windowAhead d b (fun o => decide (o - lead ≤ tbNs d)))
    | none => x.state = .ready && !x.blanked && windowAhead d b (fun o => decide (o - lead ≤ tbNs d))
  setLna d b (!pa && rested && (x.state = .rx || soon))

/-- Unbound lanes of a band under LANE_ECONOMY false stay in IDLE while the band is in READY, RX or TX; in STANDBY and SLEEP its lanes are off
(R95, R126). -/
def settleLanes (d : Dev) (b : Band) : Dev :=
  let st := (band d b).state
  if st = .standby || st = .sleep then
    (bandLanes b).foldl (fun x n => updLane x n (fun l => match l.state with
      | .idle => { l with state := .off, bind := none } | .search => { l with state := .off, bind := none } | _ => l)) d
  else if !slotFlag d (bandLaneKey b 6) && st ≠ .cal then
    (bandLanes b).foldl (fun x n => updLane x n (fun l => if l.state = .off then { l with state := .idle } else l)) d
  else d

/-- The domains of a band follow it (R95, R149, R459): the front end's is on unless it sleeps, the lanes' while one of them is powered; what the
base mode M7 powers stays powered in M8 and M9 (R455). -/
def settleDomains (d : Dev) (b : Band) : Dev :=
  let front := decide ((band d b).state ≠ .sleep) || d.pwr.baseFull
  let lanes := (bandLanes b).any (fun n => (lane d n).powered) || d.pwr.baseFull
  powerBand d b front lanes

/-- A band neither transmits, nor comes back from it, nor calibrates, while the sequencer runs it. -/
def settles (d : Dev) (b : Band) : Bool :=
  preparesSlots d && !slotsHeld d && (band d b).tx.isNone && (band d b).unblankAt.isNone && (band d b).cal.isNone && !bursting d b

/-- The state of a band as its work has it now (R95, R97): RX while it listens, READY with work ahead in the slot, else the state it is kept in. -/
def chooseState (d : Dev) (b : Band) : Dev :=
  if !settles d b then d
  else
    let st : RadioState := if listening d b then .rx else if workAhead d b then .ready else restState d b
    settleDomains (settleLanes (setRadio d b st) b) b

/-- The same, but a band at rest in STANDBY or SLEEP stays there until the next preparation (R97). -/
def settleRest (d : Dev) (b : Band) : Dev :=
  let st := (band d b).state
  if (st = .standby || st = .sleep) && !listening d b && !workAhead d b then d else chooseState d b

/-! ## What the clock brings (R98, R116, R133, R173) -/

/-- TX1 of a transmission has passed (R98, R116): PA_EN falls PA_LAG later, and the lanes come back within 40 µs (log 133). -/
def txEnds (d : Dev) (b : Band) : Dev :=
  match (band d b).tx with
  | some t =>
    if tbNs d < t.fin || bursting d b then d
    else afterTx (updBand d b (fun x => { x with
      tx := none, state := .ready, paFall := some (t.fin + slotNum d (feKey b 0x0E)), unblankAt := some (t.fin + 40000) })) t.after
  | none => d

/-- PA_EN falls (R116). -/
def paFalls (d : Dev) (b : Band) : Dev :=
  match (band d b).paFall with
  | some t => if tbNs d < t then d else setPa (updBand d b (fun x => { x with paFall := none, paFell := some t })) b false
  | none => d

/-- Blanking ends with the transition to reception (R98). -/
def blankingEnds (d : Dev) (b : Band) : Dev :=
  match (band d b).unblankAt with
  | some t => if tbNs d < t then d else unblank (updBand d b (fun x => { x with unblankAt := none })) b
  | none => d

/-- Frames without an acknowledgement request are done when their transmission has ended (R225). -/
def endingDone (d : Dev) (b : Band) : Dev :=
  if (band d b).tx.isSome then d
  else
    let l := d.nbr.ending.filter (fun x => x.1 = b)
    l.foldl (fun x y => endItem x y.2.1 .sent y.2.2) { d with nbr := { d.nbr with ending := d.nbr.ending.filter (fun x => x.1 ≠ b) } }

/-- A window closes on a lane (R133): SEARCH goes to IDLE when no other window it serves is open; a preamble or frame goes on. -/
def closeLane (d : Dev) (n : Nat) (l : Lane) : Lane := if l.state = .search && !listens d n l.bind then { l with state := .idle } else l

/-- The windows of a band whose close has come are over (R133, R171). -/
def windowsDue (d : Dev) (b : Band) : Dev :=
  if (openWindows d b).all (fun w => tbNs d < w.closes) then d
  else
    let d1 : Dev := { d with sched := { d.sched with windows := d.sched.windows.map (fun w =>
      if w.band = b && w.closes ≤ tbNs d then { w with shut := true } else w) } }
    (bandLanes b).foldl (fun x n => updLane x n (closeLane x n)) d1

/-- What has come due on a band. -/
def bandDue (d : Dev) (b : Band) : Dev :=
  driveLna (settleRest (endingDone (windowsDue (blankingEnds (paFalls (txEnds d b) b) b) b) b) b) b

/-- What has come due on the bands, and the acknowledgements that cannot come any more. -/
def radioDue (d : Dev) : Dev := failStale (bandDue (bandDue d .sf) .g)

/-- The clock comes to an instant of the time base, and what was due by then is done. -/
def comeTo (d : Dev) (t : Int) : Dev := radioDue (reachTb d t)

/-! ## Pushes that frame security owes (R15) -/

/-- An owed push is tried again; after 2 µs the frame is discarded, and a downlink frame is reported to the sequencer as not sent. -/
def retryPush (d : Dev) (x : Nat × Desc × Nat) : Dev :=
  if (queue d x.1).space x.1 then push' d x.1 x.2.1
  else if since d x.2.2 < ns 2000 then { d with can := { d.can with owed := d.can.owed ++ [x] } }
  else if x.1 = 34 then securedDownlink d { x.2.1 with dstat := 0 }
  else dropBuf d x.2.1.buf

/-- The pushes owed are tried again, oldest first. -/
def retryOwed (d : Dev) : Dev := d.can.owed.foldl retryPush { d with can := { d.can with owed := [] } }

end Sys2Proof.Machine
end

