-- ==== Sys2Proof/Machine/Joins.lean ====
section
/-!
DEFINITION. Joins, the commands on Pennant records, and Halyard bursts (R228-R234).
-/
namespace Sys2Proof.Machine

/-! ## Joins (R228-R231) -/

/-- The node table and the short addresses can take one more node (R228). -/
def roomForNode (p : Perm) (d : Dev) : Bool := d.fwd.entries.length < entryLimit p d && d.nbr.nodes.length < 65533

/-- Joins are open (R228): JOIN_EFFECTIVE. -/
def joinsOpen (p : Perm) (d : Dev) : Bool := flag d 0x310010 && d.sched.st = .running && roomForNode p d

/-- A JOIN_RSP handed to the sequencer for the next SHARED transmit cell of the band (R229). -/
def pushJoinRsp (d : Dev) (dmkKey : Nat) (b : Band) (m : JoinMemo) : Dev :=
  originate d (vendorFrame d (.eui m.eui) false (.joinRsp m.result m.short m.epoch m.keyGen m.nonce (.nlk dmkKey m.eui))) 46
    { when_ := 0, neighbour := 0xFFFF, group := 0, secure := false, ackReq := false, band := b, channel := 0, spread := 0
      txPower := 0, pclass := 0, tag := 0 }

/-- The response to a JOIN_REQ, remembered for a repeated request with the same NONCE (R229). -/
def sendJoinRsp (d : Dev) (dmkKey eui : Nat) (b : Band) (req : JoinReq) (result short keyGen : Nat) : Dev :=
  let m : JoinMemo := { eui := eui, nonce := req.nonce, result := result, short := short, epoch := d.sched.epoch, keyGen := keyGen }
  pushJoinRsp { d with nbr := { d.nbr with rsps := putKey JoinMemo.eui m d.nbr.rsps } } dmkKey b m

/-- The response that a request with this NONCE had before (R229); for a record that came with replicated state, its admission. -/
def joinAnswered (d : Dev) (eui nonce : Nat) : Option JoinMemo :=
  match d.nbr.rsps.find? (fun m => m.eui = eui && m.nonce = nonce) with
  | some m => some m
  | none => match nodeByEui d eui with
    | some n => if n.sec.skValid && n.sec.nonce = nonce then some { eui := eui, nonce := nonce, result := 0, short := n.short, epoch := d.sched.epoch, keyGen := n.sec.keyGen }
      else none
    | none => none

/-- A join refused (R229): the response, and event 54. -/
def refuseJoin (d : Dev) (dmkKey eui : Nat) (b : Band) (req : JoinReq) (result : Nat) : Dev :=
  raise (sendJoinRsp d dmkKey eui b req result 0xFFFF 0) 54 result

/-- The security area after a join with a nonce (R355): the next KEY_GEN, counters begun afresh. -/
def joinedSec (d : Dev) (s : SecArea) (nonce : Nat) : SecArea :=
  { keyGen := (s.keyGen + 1) % 65536, skValid := true, expireAtReset := numN d 0x50000D = 1, usesLowSent := false, exhausted := false
    hotSlot := none, txFc := 0, usesLeft := numN d 0x50000E, dmkGen := dmkGen d, nonce := nonce, lost := false }

/-- The lowest number from `lo` on, below `hi`, that is not taken. -/
def lowestFree (taken : List Nat) (lo : Nat) : Nat := (firstFrom (fun k => !taken.contains k) 1048576 (taken.length + 1) lo).getD lo

/-- The short address of a new node (R230): LAST_SHORT if it is free and usable, else the lowest free one. -/
def pickShort (d : Dev) (last : Nat) : Nat :=
  let used := d.nbr.nodes.map Node.short
  if 1 ≤ last && last ≤ 0xFFFD && !used.contains last then last else lowestFree used 1

/-- A new node admitted (R230): record, table entry, keys, response. -/
def admitNew (p : Perm) (d : Dev) (dmkKey : Nat) (j : HeldJoin) : Dev :=
  let short := pickShort d j.req.lastShort
  let i := lowestFree (d.nbr.nodes.map Node.index) 0
  let ins := insertEntry p d j.eui short p.workerId d.hier.district i true
  if !ins.2 then refuseJoin ins.1 dmkKey j.eui j.band j.req 2
  else
    let sec := joinedSec d {} j.req.nonce
    let pn : Pennant := { short := short, eui := j.eui, cfo := j.cfo, cfoValid := true, cfoN := 1, rssi := j.rssi, lqi := j.lqi
                          rssiValid := true, state := .joining, lastHeard := j.sfd }
    let n : Node := { index := i, eui := j.eui, short := short, pennant := some pn, sec := sec
                      route := { psduMax := if j.req.caps.testBit 4 then 511 else 127 }
                      wrapped := some ⟨sec.keyGen, sec.dmkGen, true⟩, joiningAt := d.clk.up }
    let d1 : Dev := { ins.1 with nbr := { ins.1.nbr with nodes := insertNode n ins.1.nbr.nodes } }
    let d2 := if j.acked then synchronize d1 i j.sfd j.err false else d1
    sendJoinRsp (placeOnDie d2) dmkKey j.eui j.band j.req 0 short sec.keyGen

/-- A known EUI admitted as a rejoin (R231): its SHORT, CFO, DRIFT, RSSI and sync fields stay, and its table entry is inserted again (R230). -/
def admitAgain (p : Perm) (d : Dev) (dmkKey : Nat) (n : Node) (j : HeldJoin) : Dev :=
  let ins := insertEntry p d j.eui n.short p.workerId d.hier.district n.index true
  if !ins.2 then refuseJoin ins.1 dmkKey j.eui j.band j.req 2
  else
    let sec := joinedSec d n.sec j.req.nonce
    let d1 := dropHot (emptyList ins.1 n.short .refused) n.index
    let d2 := updNode d1 n.index (fun m => { m with
      sec := sec, wrapped := some ⟨sec.keyGen, sec.dmkGen, true⟩, joiningAt := d.clk.up
      route := { m.route with psduMax := if j.req.caps.testBit 4 then 511 else 127 }
      pennant := m.pennant.map (fun q => { q with state := .joining, fcValid := false, dsnValid := false, ackCached := false }) })
    sendJoinRsp d2 dmkKey j.eui j.band j.req 0 n.short sec.keyGen

/-- A join decided: an unknown EUI is admitted anew, a known one again (R230, R231). -/
def admitNode (p : Perm) (d : Dev) (dmkKey : Nat) (j : HeldJoin) : Dev :=
  match nodeByEui d j.eui with
  | some n => admitAgain p d dmkKey n j
  | none => admitNew p d dmkKey j

/-- A known EUI's entry and record are there, so that a rejoin needs no room (R228). -/
def roomFor (p : Perm) (d : Dev) (eui : Nat) : Bool :=
  match nodeByEui d eui with | some _ => (tableEntry d eui).isSome || d.fwd.entries.length < entryLimit p d | none => roomForNode p d

/-- A JOIN_REQ whose MIC verifies (R228-R231, R389). -/
def handleJoin (p : Perm) (d : Dev) (dmkKey : Nat) (j : HeldJoin) : Dev :=
  match joinAnswered d j.eui j.req.nonce with
  | some m => pushJoinRsp d dmkKey j.band m
  | none =>
    if !flag d 0x310010 || d.sched.st ≠ .running then refuseJoin d dmkKey j.eui j.band j.req 1
    else if !roomFor p d j.eui then refuseJoin d dmkKey j.eui j.band j.req 2
    else
      match nodeByEui d j.eui with
      | some n => admitAgain p d dmkKey n j
      | none =>
        if d.hier.joins.any (fun h => h.eui = j.eui && h.req.nonce = j.req.nonce) then d
        else
          let id := d.hier.nextId
          hlSend { d with hier := { d.hier with joins := d.hier.joins ++ [{ j with id := id }], nextId := id + 1 } } 0
            (.claim id j.eui j.lqi j.req.lastShort j.sfd)

/-- A frame that the runtime takes from Q4 as control: one that is neither RX_NOT_OK nor a P0 descriptor returned. -/
def isControl : DescBody → Bool
  | .rx i => i.stage.verdict ≠ 9
  | _ => false

/-- The acknowledgement of a frame has been sent whole: it was to be sent, and is neither owed nor still on the air (R218, R230). -/
def ackSent (d : Dev) (i : RxInfo) : Bool :=
  i.stage.ack = 1 && !d.nbr.acks.any (fun a => a.band = i.band && a.sfd = i.sfdTime)
    && (match (band d i.band).tx with | some t => (match t.after with | .joined _ s _ => s ≠ i.sfdTime | _ => true) | none => true)

/-- The runtime takes a received frame from Q4 that is not RX_NOT_OK: a join request is handled, another control frame is
freed; its buffer is freed in any case (R229). -/
def joinReq (p : Perm) (d : Dev) : Dev :=
  match takeIf d 4 isControl with
  | (d0, none) => d0
  | (d0, some x) =>
    match x.body with
    | .rx i =>
      let d1 := dropBuf d0 x.buf
      match macOf d x.buf with
      | none => d1
      | some f =>
        match messageOf d1 f, f.src with
        | .joinReq req, .eui eui =>
          match dmk d1 with
          | none => count d1 0x510008
          | some k =>
            if req.mic ≠ .nlk k eui then d1
            else
              handleJoin p d1 k { id := 0, eui := eui, band := i.band, sfd := i.sfdTime, err := errorOf d1 i, acked := ackSent d1 i
                                  lqi := i.lqi, cfo := i.cfo, rssi := i.rssi, req := req, at_ := d1.clk.up }
        | _, _ => d1
    | _ => d0

/-- JOIN_REQ (R229). -/
def execJoinReq (s : State) : Host.Outcome State Fault Refusal :=
  onDev s (fun d => if runtimeUp d then joinReq s.perm d else d)

/-- The record that has been JOINING longest. -/
def oldestJoining (d : Dev) : Option Node :=
  (d.nbr.nodes.filter (fun n => n.state = .joining)).foldl
    (fun b n => match b with | none => some n | some m => if n.joiningAt < m.joiningAt then some n else some m) none

/-- JOIN_TIMEOUT passes (R230): the record and its table entry go. -/
def joinTimeout (d : Dev) : Dev :=
  match oldestJoining d with
  | none => d
  | some n => let d1 := reach d (n.joiningAt + sec (numN d 0x310012)); removeNode d1 n.eui

/-- JOIN_TIMEOUT (R230). -/
def execJoinTimeout (s : State) : Host.Outcome State Fault Refusal := onDev s joinTimeout

/-! ## Pennant records (R203-R205, R234) -/

/-- The number of a STATE (R205). -/
def stateNum : NState → Nat
  | .unused => 0 | .joining => 1 | .active => 2 | .adrift => 3 | .rejoinRequired => 4 | .dropped => 5

/-- PFLAGS (R204). -/
def pflags (p : Pennant) : Nat :=
  boolNum p.cfoValid + 2 * boolNum p.driftValid + 4 * boolNum p.syncValid + 8 * boolNum p.rssiValid + 16 * boolNum p.fcValid
    + 32 * boolNum p.dsnValid + 64 * boolNum p.onDie + 128 * boolNum p.keepaliveDue + 256 * boolNum p.ackCached + 512 * boolNum p.txSecured

/-- A signed number as `n` little-endian octets. -/
def sle (n : Nat) (v : Int) : List Byte := toLe n (v % (256 ^ n : Nat)).toNat

/-- A Pennant record as its 64 octets (R203); ACK_TC is the content of R210, with TC[11:0] in two's complement and the bits above it 0. -/
def pennantOctets (p : Pennant) : List Byte :=
  toLe 2 p.short ++ toLe 2 (pflags p) ++ toLe 8 p.eui ++ sle 4 p.cfo ++ sle 4 p.drift ++ sle 2 p.rssi ++ toLe 1 p.lqi ++ toLe 1 p.cfoN
    ++ sle 8 p.syncTime ++ sle 4 p.syncErr ++ toLe 4 p.guard ++ toLe 4 p.slewMark ++ toLe 4 p.rxFc ++ toLe 1 p.rxDsn ++ toLe 1 p.txDsn
    ++ toLe 1 (stateNum p.state) ++ toLe 1 p.retry ++ toLe 2 (p.ackTc % 4096).toNat ++ toLe 1 p.driftN ++ toLe 1 p.cfoOut ++ sle 8 p.lastHeard

/-- The command PENNANT_QUERY: SHORT (R234). -/
def pennantQueryCore : Core := fun arg d =>
  if !argLen arg 2 then answer d .malformed
  else match pennantOf d (leNat arg) with | some q => (d, .ok, pennantOctets q) | none => answer d .noEntry

/-- PENNANT_QUERY (R234). -/
def execPennantQuery (r : Req) (arg : List Byte) (s : State) : Host.Outcome State Fault Refusal :=
  onDev s (serveExec r 0x31001E arg pennantQueryCore)

/-- The command PENNANT_RESET: the measurements of a record become invalid (R234). -/
def pennantResetCore : Core := fun arg d =>
  if !argLen arg 2 then answer d .malformed
  else
    match nodeOf d (leNat arg) with
    | some n =>
      if n.pennant.isNone then answer d .noEntry
      else
        answer (updPennant d n.index (fun q =>
          { q with cfoValid := false, driftValid := false, rssiValid := false, cfoN := 0, driftN := 0 })) .ok
    | none => answer d .noEntry

/-- PENNANT_RESET (R234). -/
def execPennantReset (r : Req) (arg : List Byte) (s : State) : Host.Outcome State Fault Refusal :=
  onDev s (serveExec r 0x310020 arg pennantResetCore)

/-! ## Halyard bursts (R233) -/

/-- R26 lets the device transmit: a worker, or a spare that has taken over a district. -/
def mayTransmit (p : Perm) (d : Dev) : Bool :=
  p.role = 2 && (!p.spare || !(d.hier.st = .unlinked || d.hier.st = .standby || d.hier.st = .takingOver))

/-- Output power of a burst, 0.5 dB units: MAX_TX_POWER (R112, R233). -/
def maxPower (d : Dev) (b : Band) : Int := num d (feKey b 0x0C)

/-- Energy of a burst of `n` ms at MAX_TX_POWER, µJ (R233). -/
def burstEnergy (d : Dev) (b : Band) (n : Nat) : Int := txEnergy d b (maxPower d b) (n * 1000000)
def burstHeat (d : Dev) (b : Band) (n : Nat) : Int := txHeat d b (maxPower d b) (n * 1000000)

/-- A burst as a class-0 candidate (R233, R435): `overhead` is the band's for the slots it takes. -/
def burstCand (d : Dev) (x : Burst) (overhead : Int) : Cand :=
  { cls := 0, part := bandNum x.band, handle := 0, loc := 0, task := 0, energy := burstEnergy d x.band x.duration
    heat := burstHeat d x.band x.duration, pairs := [], laneCost := 0, overhead := overhead
    fin := tbNs d + (x.duration : Int) * 1000000 }

/-- A burst ends: event 55 with its outcome, and the command completes (R233). -/
def endBurst (d : Dev) (x : Burst) (outcome : Nat) : Dev :=
  let d1 := finish (noteBegun { d with nbr := { d.nbr with burst := none } } 0x310021) 0x310021
  raise d1 55 (outcome * 0x1000000 + bandNum x.band * 0x10000 + x.channel)

/-- The band refuses a transmission (R102, R105, R115): it is inhibited, or a calibration other than a temperature calibration runs, or one ran in this
slot. -/
def refuses (d : Dev) (b : Band) : Bool :=
  (band d b).inhibit || (match (band d b).cal with | some .temp => false | some _ => true | none => false)
    || (preparesSlots d && (match d.sched.now with | some s => (band d b).calSlot = some s.asn | none => false))

/-- A temperature calibration meets a transmission (R104): it is abandoned, counted, with event 25, and stays pending. -/
def abandonCal (d : Dev) (b : Band) : Dev :=
  if (band d b).cal = some .temp then
    updBand (raise (count d (feKey b 0x18)) 25 (bandNum b)) b (fun s => { s with cal := none, calPending := some (s.calPending.getD (d.clk.up, false)) })
  else d

/-- A burst refused whole under R102 or R115, and counted. -/
def refuseBurst (d : Dev) (x : Burst) : Dev := endBurst (count d (feKey x.band 0x17)) x 1

/-- The fixed sequence H of a Halyard unit, symbol by symbol (R232). -/
def halyardH : List Nat :=
  [3, 0xC, 5, 9, 0xE, 1, 6, 0xB, 2, 0xD, 8, 4, 0xF, 0, 0xA, 7, 1, 0xE, 9, 5, 0xC, 3, 0xB, 6, 0xD, 2, 4, 8, 0, 0xF, 6, 0xA]
  ++ [8, 2, 0xF, 4, 0xA, 0, 0xD, 7, 5, 0xB, 1, 9, 3, 0xE, 6, 0xC, 0xE, 5, 0, 0xC, 9, 2, 7, 1, 0xB, 4, 0xF, 8, 6, 3, 0xD, 0xA]

/-- The ID part: the district ID's nibbles, lowest first, each followed by its complement (R232). -/
def halyardId (district : Nat) : List Nat := (upTo 4).flatMap (fun k => [district / 16 ^ k % 16, 15 - district / 16 ^ k % 16])

/-- The unit of 72 symbols that a burst repeats without gaps (R232). -/
def halyardUnit (district : Nat) : List Nat := halyardH ++ halyardId district

/-- A burst starts on the air (R106, R107, R114, R116, R233): the lanes are blanked, the synthesiser's word and pre-offset 0 shown, the unit repeats,
and the mask monitor takes its margin, which no command tells (log 127). -/
def startBurst (d : Dev) (x : Burst) : Dev :=
  let t0 := tbNs d
  let set (s : BandState) : BandState := { s with
    tx := some { channel := x.channel, dest := none, isAck := false, fin := t0 + (x.duration : Int) * 1000000, after := .nothing }
    paFall := none, unblankAt := none, txChannel := some x.channel, preoffset := 0, synWord := synWord (centreHz d x.band x.channel) 0
    margin := Config.burstMargin d.free, fir := some (octets d (maskKey x.band 1)) }
  emit (setPa (updBand (setRadio (blank (drawn d) x.band) x.band .tx) x.band set) x.band true)
    (.halyard x.band x.channel (halyardUnit x.district) x.duration)

/-- A burst in M10 is granted and starts at once, or ends refused (R233). -/
def burstNow (d : Dev) (x : Burst) : Dev :=
  if refuses d x.band || slotsHeld d then refuseBurst d x
  else
    let g := grants d [burstCand d x 0]
    if g.2.isEmpty then endBurst g.1 x 3
    else startBurst { g.1 with nbr := { g.1.nbr with burst := some { x with at_ := d.clk.up, begun := some (0, 0) } } } x

/-- The command HALYARD_SEND (R233). -/
def halyardSendCore (p : Perm) : Core := fun arg d =>
  if !argLen arg 6 then answer d .malformed
  else
    match bandOf (leAt arg 0 1) with
    | none => answer d .outOfRange
    | some b =>
      let ch := leAt arg 1 1
      let district := leAt arg 2 2
      let ms_ := leAt arg 4 2
      if !(bandChannels d b).contains ch || !((1 ≤ district && district ≤ 127) || district = 0xFFFF) || ms_ < 110 || 2000 < ms_ then
        answer d .outOfRange
      else if !mayTransmit p d then answer d .wrongMode
      else if d.pwr.mode.running && d.hier.st ≠ .leased && d.hier.st ≠ .autonomous then answer d .wrongMode
      else
        let x : Burst := { band := b, channel := ch, district := district, duration := ms_, at_ := d.clk.up, begun := none }
        let d1 := accept { d with nbr := { d.nbr with burst := some x } } 0x310021
        if d.pwr.mode ≠ .m10 then answer d1 .ok else answer (burstNow d1 x) .ok

/-- HALYARD_SEND (R233). -/
def execHalyardSend (r : Req) (arg : List Byte) (s : State) : Host.Outcome State Fault Refusal :=
  onDev s (serveExec r 0x310021 arg (halyardSendCore s.perm))

/-- A burst under way leaves the air: the band returns from transmission (R98, R116). -/
def stopBurst (d : Dev) (x : Burst) : Dev :=
  updBand d x.band (fun s => { s with
    tx := none, state := .ready, paFall := some (tbNs d + slotNum d (feKey x.band 0x0E)), unblankAt := some (tbNs d + 40000) })

/-- The transmission of a band is cut short (R115, R374): its PA falls, and the lanes come back as after any other. -/
def cutShort (d : Dev) (b : Band) : Dev :=
  updBand (cutTx d b) b (fun s => { s with state := .ready, unblankAt := some (tbNs d + 40000) })

/-- An acknowledgement cut short counts as not sent (R115, R218). -/
def ackCut (d : Dev) (b : Band) (t : TxNow) : Dev :=
  match t.after with
  | .sync _ sfd _ _ => ackFailed d b sfd t.ofBuf
  | .joined _ sfd _ => ackFailed d b sfd t.ofBuf
  | .nothing => d

/-- A band's transmission in progress at the T0 from which none is allowed is cut off; a P0 frame that asks for no acknowledgement returns STOPPED
(R195, R374). -/
def cutBand (d : Dev) (b : Band) : Dev :=
  match (band d b).tx with
  | none => d
  | some t =>
    let d1 := ackCut (cutShort d b) b t
    (d1.nbr.ending.filter (fun x => x.1 = b)).foldl (fun x y => endItem x y.2.1 .stopped y.2.2)
      { d1 with nbr := { d1.nbr with ending := d1.nbr.ending.filter (fun x => x.1 ≠ b) } }

/-- What is on the air at a T0 from which no transmission is allowed is cut off, a burst with outcome 2, and acknowledgements still owed are not sent
(R233, R374, R387). -/
def cutOff (d : Dev) : Dev :=
  let d1 := match d.nbr.burst with
    | some x => match x.begun with | some (_, n) => if 0 < n then endBurst (stopBurst d x) x 2 else d | none => d
    | none => d
  let d2 := d1.nbr.acks.foldl (fun x a => ackFailed x a.band a.sfd a.buf) { d1 with nbr := { d1.nbr with acks := [] } }
  cutBand (cutBand d2 .sf) .g

/-- The burst under way has lasted its whole DURATION (R233). -/
def halyardSent (d : Dev) : Dev :=
  match d.nbr.burst with
  | some x =>
    match x.begun with
    | some (a, n) =>
      let d1 := if n = 0 then reach d (x.at_ + ms x.duration) else reachTb d (t0Of d a + (x.duration : Int) * 1000000)
      endBurst (stopBurst d1 x) x 0
    | none => d
  | none => d

/-- HALYARD_SENT (R233). -/
def execHalyardSent (s : State) : Host.Outcome State Fault Refusal := onDev s halyardSent

end Sys2Proof.Machine
end

