-- ==== Sys2Proof/Machine/Forward.lean ====
section
/-!
DEFINITION. The forwarding engine (R268-R298): uplink and downlink, learn-pending candidates, reassembly, routes, and what the
runtime does with an exception packet.
-/
namespace Sys2Proof.Machine

/-! ## Addresses (R291, R567) -/

/-- The interface identifier of an address. -/
def iidOf (addr : Nat) : Nat := addr % 18446744073709551616

/-- The key of an IID (R290): 0000:00FF:FE00:XXXX is a short address, any other a modified EUI-64. -/
def keyOfIid (iid : Nat) : Nat × Nat :=
  if iid / 65536 = 0xFFFE00 then (allOnes, iid % 65536) else (leNat (toLe 8 iid).reverse ^^^ 2, 0xFFFF)

/-- The modified EUI-64 identifier of an EUI. -/
def iidOfEui (eui : Nat) : Nat := leNat (toLe 8 (eui ^^^ 2)).reverse

/-- DISTRICT_PREFIX in force as a 64-bit number (R298). -/
def districtPrefix (d : Dev) : Nat := beNat (valOctets (rplVal d 0x441001)) / 18446744073709551616

/-- An address in the district prefix (R289, R291); none while no prefix is set (log 26). -/
def inDistrict (d : Dev) (addr : Nat) : Bool := districtPrefix d ≠ 0 && addr / 18446744073709551616 = districtPrefix d

/-- MESH_ADDR (R567). -/
def meshAddr (d : Dev) : Nat := if districtPrefix d = 0 then 0 else districtPrefix d * 18446744073709551616 + 0xFFFE000000

/-- A multicast address. -/
def isMulticast (addr : Nat) : Bool := addr / 2 ^ 120 = 255

/-- A packet addressed to the device (R289, R290, R567): its mesh address or an IPv6 management address in use. -/
def toDevice (d : Dev) (addr : Nat) : Bool :=
  (meshAddr d ≠ 0 && addr = meshAddr d) || d.ifs.linkLocal = some addr || d.ifs.global_ = some addr

/-! ## The packet in hand -/

/-- What the engine knows of the packet it handles: its granule and length, where it came from, its key. -/
structure Hand where
  buf : Option Nat
  len : Nat
  ingress : Nat
  time : Int
  lqi : Nat
  rxpath : Nat
  eui : Nat
  short : Nat
  deriving DecidableEq, Repr

/-- The packet goes to Q5 with a reason (R295); a refused push discards it (R15). -/
def divert (d : Dev) (h : Hand) (reason detail : Nat) : Dev :=
  (produce d 5 ⟨0x04, reason, h.len, h.buf, .exc h.eui h.short 0xFF h.ingress h.time h.lqi h.rxpath detail⟩).1

/-- A discard counted in FWD_DISCARDS (R289-R291). -/
def fwdDiscard (d : Dev) (buf : Option Nat) : Dev := count (dropBuf d buf) 0x440021

/-- From 150 ms into a Hoist the engine takes no packet, until forwarding resumes (R512). -/
def hoistPause (d : Dev) : Bool :=
  match d.fw.hoist with | some (_, _, h0) => d.pwr.mode = .m9 && decide (h0 + ms 150 ≤ d.clk.up) | none => false

/-- The engine works: it is powered, and neither quarantined nor recovering (R459, R548). -/
def engineOn (d : Dev) : Bool := queuesOn d && unitWorks d .forwarding

/-! ## Sightings (R283-R285) -/

/-- The candidate of a key. -/
def candidateOf (d : Dev) (eui short : Nat) : Option Candidate := d.fwd.lps.find? (fun c => c.eui = eui && c.short = short)

/-- LEARN pushed for a candidate: LSTATE 1, or 2 where Q5 refuses it (R284, R295). -/
def notifyLearn (d : Dev) (c : Candidate) (lqi rxpath : Nat) : Dev × Bool :=
  push d 5 ⟨0x04, 1, 0, none, .exc c.eui c.short c.index c.ingress c.last lqi rxpath 0⟩

/-- A candidate changed. -/
def updCandidate (d : Dev) (i : Nat) (f : Candidate → Candidate) : Dev :=
  { d with fwd := { d.fwd with lps := modKey Candidate.index i f d.fwd.lps } }

/-- A sighting (R284): `from_` is the lane on a worker, the worker's ID on the manager. -/
def sighting (d : Dev) (eui short from_ : Nat) (h : Hand) : Dev :=
  match candidateOf d eui short with
  | some c =>
    updCandidate d c.index (fun x =>
      let y := { x with count := Nat.min 65535 (x.count + 1), last := tbNs d }
      if x.bestLqi < h.lqi || (x.bestLqi = h.lqi && from_ < x.bestFrom) then { y with bestLqi := h.lqi, bestFrom := from_ } else y)
  | none =>
    match firstFrom (fun i => d.fwd.lps.all (fun c => c.index ≠ i)) 256 256 0 with
    | some i =>
      let c : Candidate := { index := i, eui := eui, short := short, st := 1, bestLqi := h.lqi, bestFrom := from_, ingress := h.ingress
                             count := 1, first := tbNs d, last := tbNs d, at_ := d.clk.up }
      let r := notifyLearn d c h.lqi h.rxpath
      { r.1 with fwd := { r.1.fwd with lps := r.1.fwd.lps ++ [{ c with st := if r.2 then 1 else 2 }] } }
    | none => raiseRate (count d 0x44000D) 73 0 1 (sec 1) id

/-! ## Reassembly (R292) -/

/-- Reassemblies discarded: event 79 at most once per second. -/
def reasmDrop (d : Dev) : Dev := raiseRate d 79 0 1 (sec 1) id

/-- A fragment taken into its reassembly (R292): the device, and the packet with its granule once it is complete. -/
def reassemble (d : Dev) (src : Nat) (buf : Nat) (f : Frag) (ip : Ip) : Dev × Option (Nat × Ip) :=
  match d.fwd.reasm.find? (fun r => r.src = src && r.tag = f.tag) with
  | none =>
    if 1280 < f.size || f.size < f.off + f.len || 1024 ≤ d.fwd.reasm.length then (reasmDrop (dropRef d buf), none)
    else if f.off = 0 && f.len = f.size then (d, some (buf, ip))
    else
      let r : Reasm := { src := src, tag := f.tag, ip := ip, size := f.size, got := [(f.off, f.len)], buf := buf, at_ := d.clk.up }
      ({ d with fwd := { d.fwd with reasm := d.fwd.reasm ++ [r] } }, none)
  | some r =>
    let rest := d.fwd.reasm.filter (fun x => !(x.src = src && x.tag = f.tag))
    let clash := r.got.any (fun g => f.off < g.1 + g.2 && g.1 < f.off + f.len)
    if r.got.contains (f.off, f.len) && r.ip = ip && r.size = f.size then (dropRef d buf, none)
    else if clash || f.size ≠ r.size || f.size < f.off + f.len || r.ip ≠ ip then
      (reasmDrop (dropRef (dropRef { d with fwd := { d.fwd with reasm := rest } } buf) r.buf), none)
    else
      let got := r.got ++ [(f.off, f.len)]
      let d1 := dropRef d buf
      if sumNat (got.map Prod.snd) = r.size then ({ d1 with fwd := { d1.fwd with reasm := rest } }, some (r.buf, ip))
      else ({ d1 with fwd := { d1.fwd with reasm := rest ++ [{ r with got := got }] } }, none)

/-! ## Routes (R290) -/

/-- The traffic class of a packet (R289): DSCP_MAP. -/
def classOf (d : Dev) (dscp : Nat) : Nat := (nth (octets d 0x44001B) (dscp % 64) 0).toNat % 8

/-- The node record behind an entry. -/
def entryNode (d : Dev) (e : NtEntry) : Option Node := nodeByEui d e.eui

/-- The PARENT chain of an entry (R290 step 5): the short addresses from the destination up to a direct neighbour, or the hops walked
where the route fails. -/
def walk (limit : Nat) : Nat → Dev → NtEntry → List Nat → Dev × Except Nat (List Nat)
  | 0, d, _, seen => (d, .error seen.length)
  | n + 1, d, e, seen =>
    let chain := seen ++ [e.short]
    let parent := match entryNode d e with | some x => x.route.parent | none => 0xFFFF
    if seen.contains e.short then (d, .error seen.length)
    else if limit < chain.length then (d, .error seen.length)
    else if e.direct && !e.routeValid then (d, .ok chain)
    else if !e.routeValid then (d, .error chain.length)
    else if parent = 0 then (d, .ok chain)
    else
      let l := lookup d allOnes parent
      match l.2 with
      | some x => walk limit n l.1 x chain
      | none => (l.1, .error chain.length)

/-- Largest payload of a fragment to a next hop (R290 step 7): PSDU_MAX less MAC_OVERHEAD. -/
def hopRoom (d : Dev) (short : Nat) : Nat :=
  (match nodeOf d short with | some n => n.route.psduMax | none => 127) - numN d 0x44001A

/-- Fragments of an uncompressed length (RFC 4944): offset and length of each; the first carries `saved` octets less than it covers. -/
def fragsFrom (size step : Nat) : Nat → Nat → List (Nat × Nat)
  | 0, _ => []
  | n + 1, off => if size ≤ off then [] else (off, Nat.min step (size - off)) :: fragsFrom size step n (off + step)

/-- A packet cut for a next hop (R290 step 7): none where a fragment finds no room; one piece without fragment header where it fits
whole. Each piece: offset, uncompressed length, length on the air. -/
def cutPacket (size clen room : Nat) : Option (List (Nat × Nat × Nat)) :=
  if clen ≤ room then some [(0, size, clen)]
  else
    let saved := size - clen
    let first := (room - 4 + saved) / 8 * 8
    let step := (room - 5) / 8 * 8
    if room < 13 || first ≤ saved then none
    else
      let f := Nat.min first size
      let l := fragsFrom size step 160 f
      if 128 ≤ l.length + 1 then none
      else some ((0, f, f - saved + 4) :: l.map (fun x => (x.1, x.2, x.2 + 5)))

/-- The fragments of a packet pushed in order to Q24 + class; after a refused push the rest is discarded (R290 step 8). -/
def pushFrags (c hop tag size : Nat) (ip : Ip) (whole : Bool) : List (Nat × Nat × Nat) → Nat → Dev → Dev
  | [], _, d => d
  | (off, n, len) :: t, i, d =>
    let fr : Option Frag := if whole then none else some ⟨tag, size, off, n⟩
    let a := alloc d 6 len (.mac (dataFrame (.short hop) true (.lowpan .iphc fr ip)))
    match a.2 with
    | none => a.1
    | some g =>
      let x : DownInfo := { enq := tbNs a.1, neighbour := hop, tclass := c, frag := i, lastFrag := t.isEmpty, pktTag := tag, airtime := 0
                            seq := 0, level := 0, group := false, fc := 0 }
      let r := produce a.1 (24 + c) ⟨0x05, 0, len, some g, .down x⟩
      if r.2 then pushFrags c hop tag size ip whole t (i + 1) r.1 else r.1

/-- A packet compressed, fragmented and pushed toward a next hop (R290 steps 7 and 8); its own granule goes. -/
def sendDown (d : Dev) (h : Hand) (c hop : Nat) (ip : Ip) : Dev :=
  let clen := Nat.min ip.len (Config.lowpanLen d.free ip.len)
  let d1 := drawn d
  match cutPacket ip.len clen (hopRoom d1 hop) with
  | none => fwdDiscard d1 h.buf
  | some l =>
    let tag := d1.fwd.pktTag
    dropBuf (pushFrags c hop tag ip.len ip (l.length = 1) l 0 { d1 with fwd := { d1.fwd with pktTag := (tag + 1) % 65536 } }) h.buf

/-- The packets of a node counted, wrapping at 2³² (R273). -/
def countDown (d : Dev) (eui : Nat) : Dev :=
  match nodeByEui d eui with
  | some n => updNode d n.index (fun x => { x with route := { x.route with downPkts := (x.route.downPkts + 1) % 4294967296 } })
  | none => d
def countUp (d : Dev) (eui : Nat) : Dev :=
  match nodeByEui d eui with
  | some n => updNode d n.index (fun x => { x with route := { x.route with upPkts := (x.route.upPkts + 1) % 4294967296 } })
  | none => d

/-- An RFC 6554 routing header of `n` addresses (log 22): 8 octets and 16 per address. -/
def routed (ip : Ip) (hops : List Nat) : Ip := if hops.isEmpty then ip else { ip with route := hops, len := ip.len + 8 + 16 * hops.length }

/-- A failed route (R290, R293): event 78 at most once per second, and the packet to Q5. -/
def noRoute (d : Dev) (h : Hand) (short hops : Nat) : Dev :=
  divert (raiseRate d 78 0 1 (sec 1) (fun _ => short)) { h with short := short } 8 hops

/-- A downlink packet from step 3 of R290 on; `fwd` says whether another node's packet is forwarded, whose hop limit falls by one (log 27). -/
def downlink (d : Dev) (h : Hand) (c : Nat) (fwd : Bool) (ip : Ip) : Dev :=
  let k := keyOfIid (iidOf ip.dst)
  let hk := { h with eui := k.1, short := k.2 }
  if ip.hop ≤ 1 then divert d hk 4 0
  else if 1280 < ip.len then divert d hk 5 0
  else
    let l := lookup d k.1 k.2
    match l.2 with
    | none => divert l.1 hk 3 0
    | some e =>
      let he := { h with eui := e.eui, short := e.short }
      let w := walk (numN l.1 0x440019) 17 l.1 e []
      match w.2 with
      | .error n => noRoute w.1 he e.short n
      | .ok chain =>
        let d1 := countDown (updEntry w.1 e.eui (fun x => { x with depth := chain.length })) e.eui
        let hop := chain.getLast?.getD 0
        let pk := { ip with hop := if fwd then ip.hop - 1 else ip.hop }
        sendDown d1 he c hop (routed pk (chain.reverse.tail))

/-! ## Uplink to the backhaul (R289) -/

/-- The port that UPLINK_PORT selects (R289). -/
def uplinkPort (d : Dev) : Nat :=
  match numN d 0x44001F with | 0 => 0 | 1 => 1 | _ => if (port d 0).up then 0 else if (port d 1).up then 1 else 0

/-- An Ethernet frame of the device that carries a packet (R289, R564). -/
def ethOf (d : Dev) (p : Nat) (hop : Nat) (ip : Ip) : EthFrame :=
  { dst := Config.hopMac hop, src := beNat (octets d ((0x9010 + p) * 256 + 3)), tags := [], otherTag := false, etherType := 0x86DD
    ptpEvent := false, len := 14 + ip.len, body := .ip ip }

/-- A packet pushed to a port's queue of its class (R289 step 11, R318). -/
def toPort (d : Dev) (h : Hand) (p c : Nat) (f : EthFrame) : Dev :=
  match h.buf with
  | none => d
  | some g =>
    let tag := d.fwd.pktTag
    let d1 := updGranule { d with fwd := { d.fwd with pktTag := (tag + 1) % 65536 } } g (fun y => { y with len := f.len, body := .eth f })
    let x : DownInfo := { enq := tbNs d, neighbour := 0xFFFF, tclass := c, frag := 0, lastFrag := true, pktTag := tag, airtime := 0, seq := 0
                          level := 0, group := false, fc := 0 }
    (produce d1 (8 + 8 * p + c) ⟨0x05, 0, f.len, some g, .down x⟩).1

/-- The packet without its RPL option, its hop limit one lower (R289 step 9); the option is a hop-by-hop header of 8 octets. -/
def stripped (ip : Ip) : Ip :=
  { ip with hop := ip.hop - 1, rplOption := false, len := if ip.rplOption then ip.len - 8 else ip.len }

/-- Steps 6 to 11 of R289; TCLASS 0xFF takes the class from DSCP_MAP. In M10 no packet is forwarded between mesh and backhaul (R457,
log 31). -/
def uplinkFrom6 (d : Dev) (h : Hand) (tclass : Nat) (ip : Ip) : Dev :=
  let c := if tclass = 0xFF then classOf d ip.dscp else tclass % 8
  if toDevice d ip.dst then divert d h 2 0
  else if inDistrict d ip.dst then downlink d h c true ip
  else if isMulticast ip.dst then fwdDiscard d h.buf
  else if ip.hop ≤ 1 then divert d h 4 0
  else if beNat (octets d 0x440020) = 0 then fwdDiscard d h.buf
  else if d.pwr.mode = .m10 && h.ingress = 0 then dropBuf d h.buf
  else
    let o := uplinkPort d
    toPort d h o c (ethOf d o (beNat (octets d 0x440020)) (stripped ip))

/-- A packet of the mesh from step 3 of R289 on. -/
def uplinkPacket (d : Dev) (h : Hand) (ip : Ip) : Dev :=
  let k := keyOfIid (iidOf ip.src)
  let l := lookup d k.1 k.2
  let hk : Hand := match l.2 with | some e => { h with eui := e.eui, short := e.short } | none => { h with eui := k.1, short := k.2 }
  let d1 := match l.2 with
    | some e => countUp (setHit l.1 e.eui) e.eui
    | none => sighting l.1 k.1 k.2 (h.rxpath % 32) h
  match ip.body with
  | .rpl _ => divert d1 hk 6 0
  | _ =>
    if l.2.isNone && !flag d1 0x44000A then count (dropBuf d1 h.buf) 0x44000F
    else uplinkFrom6 d1 hk 0xFF ip

/-- The engine takes a Q3 descriptor (R289). -/
def forwardUplink (d : Dev) : Dev :=
  if !engineOn d || hoistPause d then d
  else
    let r := takeFrom d 3
    let d0 : Dev := { r.1 with fwd := { r.1.fwd with turn := 1 } }
    match r.2 with
    | none => r.1
    | some x =>
      match x.body, x.buf with
      | .uplink sfd eui short lqi rxpath, some g =>
        let h : Hand := { buf := some g, len := x.len, ingress := 0, time := sfd, lqi := lqi, rxpath := rxpath, eui := eui, short := short }
        match (granule d0 g).map Granule.body with
        | some (.mac f) =>
          match f.payload with
          | .lowpan .unsupported _ _ => fwdDiscard d0 (some g)
          | .lowpan .bad _ _ => divert d0 h 7 0
          | .lowpan _ fr ip =>
            let w := match fr with | some y => reassemble d0 short g y ip | none => (d0, some (g, ip))
            match w.2 with
            | some (b, i) =>
              uplinkPacket (updGranule w.1 b (fun y => { y with len := i.len, body := .ip i })) { h with buf := some b, len := i.len } i
            | none => w.1
          | _ => divert d0 h 7 0
        | _ => divert d0 h 7 0
      | _, _ => dropBuf d0 x.buf

/-- FORWARD_UPLINK (R289). -/
def execForwardUplink (s : State) : Host.Outcome State Fault Refusal := onDev s forwardUplink

/-! ## Downlink (R290, R296) -/

/-- A packet of Q6 or Q7 (R290); in M10 none goes to the mesh (R457, log 31). -/
def backhaulPacket (d : Dev) (x : Desc) (time : Int) (prt : Nat) : Dev :=
  let h : Hand := { buf := x.buf, len := x.len, ingress := 1 + prt, time := time, lqi := 0, rxpath := 0, eui := allOnes, short := 0xFFFF }
  match (x.buf.bind (granule d)).map Granule.body with
  | some (.eth f) =>
    match f.body with
    | .ip ip =>
      if toDevice d ip.dst then divert d h 2 0
      else if !inDistrict d ip.dst || isMulticast ip.dst then fwdDiscard d x.buf
      else if d.pwr.mode = .m10 then dropBuf d x.buf
      else downlink d h (classOf d ip.dscp) true ip
    | .other _ => divert d h 2 0
  | _ => divert d h 2 0

/-- A packet of the runtime (R296). -/
def originated (d : Dev) (x : Desc) (out tclass hop : Nat) : Dev :=
  let h : Hand := { buf := x.buf, len := x.len, ingress := 3, time := tbNs d, lqi := 0, rxpath := 0, eui := allOnes, short := 0xFFFF }
  match (x.buf.bind (granule d)).map Granule.body with
  | some (.ip ip) =>
    let c := if tclass = 0xFF then classOf d ip.dscp else tclass % 8
    if out = 2 || out = 3 then toPort d h (out - 2) c (ethOf d (out - 2) ip.dst ip)
    else if out = 1 then sendDown d h c 0xFFFF ip
    else if out ≠ 0 then fwdDiscard d x.buf
    else if hop ≠ 0xFFFF then sendDown d h c hop ip
    else if inDistrict d ip.dst then
      if toDevice d ip.dst then divert d h 2 0 else downlink d h c false ip
    else uplinkFrom6 d h tclass ip
  | _ => fwdDiscard d x.buf

/-- The next of Q6, Q7 and Q37 that holds a packet, in turn (R277). -/
def nextIngress (d : Dev) : Option (Nat × Nat) :=
  let order := match d.fwd.turn with | 2 => [7, 37, 6] | 3 => [37, 6, 7] | _ => [6, 7, 37]
  (order.find? (fun q => (front d q).isSome)).map (fun q => (q, if q = 6 then 2 else if q = 7 then 3 else 1))

/-- The engine takes a Q6, Q7 or Q37 descriptor (R290). -/
def forwardDownlink (d : Dev) : Dev :=
  if !engineOn d || hoistPause d then d
  else
    match nextIngress d with
    | none => d
    | some (q, t) =>
      let r := takeFrom d q
      let d0 : Dev := { r.1 with fwd := { r.1.fwd with turn := t } }
      match r.2 with
      | none => d0
      | some x =>
        match x.body with
        | .eth time prt _ _ _ _ => backhaulPacket d0 x time prt
        | .orig out c hop => originated d0 x out c hop
        | _ => dropBuf d0 x.buf

/-- FORWARD_DOWNLINK (R290). -/
def execForwardDownlink (s : State) : Host.Outcome State Fault Refusal := onDev s forwardDownlink

/-! ## The runtime's part (R284, R290, R291, R293) -/

/-- A packet of the runtime pushed to Q37; a refused one is kept and pushed again (R15). -/
def pushOrig (d : Dev) (x : Desc) : Dev :=
  let r := push d 37 x
  if r.2 then r.1 else { r.1 with fwd := { r.1.fwd with owed := r.1.fwd.owed ++ [x] } }

/-- A packet that the runtime originates: a granule of its own (R296). -/
def originatePacket (d : Dev) (ip : Ip) (out tclass hop : Nat) : Dev :=
  let a := alloc d 9 ip.len (.ip ip)
  match a.2 with
  | none => a.1
  | some g => pushOrig a.1 ⟨0x0A, 0, ip.len, some g, .orig out tclass hop⟩

/-- Packets that Q37 refused are pushed again, oldest first (R15). -/
def pushOwedPackets (d : Dev) : Dev :=
  match d.fwd.owed with
  | [] => d
  | x :: t =>
    let r := push d 37 x
    if r.2 then { r.1 with fwd := { r.1.fwd with owed := t } } else r.1

/-- A packet of the device to a mesh address. -/
def ownPacket (d : Dev) (dst len : Nat) (body : IpBody) : Ip :=
  { src := meshAddr d, dst := dst, hop := 64, dscp := 0, len := len, rplOption := false, route := [], body := body }

/-- ICMP_RATE permits another error in the present second (R290). -/
def icmpTurn (d : Dev) : Dev × Bool :=
  let d1 : Dev := if sec 1 ≤ since d d.fwd.icmpAt then { d with fwd := { d.fwd with icmpAt := d.clk.up, icmpSent := 0 } } else d
  if d1.fwd.icmpSent < numN d 0x44001C then ({ d1 with fwd := { d1.fwd with icmpSent := d1.fwd.icmpSent + 1 } }, true) else (d1, false)

/-- Type and code of RFC 4443 for a reason of R295. -/
def icmpOf (reason : Nat) : Option (Nat × Nat) :=
  match reason with | 3 => some (1, 3) | 4 => some (3, 0) | 5 => some (2, 0) | 8 => some (1, 0) | _ => none

/-- An error answered to a packet's source (R290), none to an error or a multicast source (RFC 4443). -/
def icmpError (d : Dev) (reason : Nat) (ip : Ip) : Dev :=
  match icmpOf reason with
  | none => d
  | some (t, c) =>
    let quiet := match ip.body with | .icmpError _ _ => true | _ => isMulticast ip.src || ip.src = 0
    if quiet then d
    else
      let r := icmpTurn d
      if r.2 then originatePacket r.1 (ownPacket r.1 ip.src (Nat.min 1280 (ip.len + 48)) (.icmpError t c)) 0 0xFF 0xFFFF else r.1

/-- The rank that a DODAG root advertises: the step of rank (RFC 6550). -/
def rootRank : Nat := 256

/-- A DIO to the mesh (R291): settings written since the last one take effect (R298). -/
def sendDio (d0 : Dev) : Dev :=
  let d : Dev := { d0 with fwd := { d0.fwd with rplKept := [] } }
  if districtPrefix d = 0 then d
  else originatePacket d (ownPacket d 0xFF02000000000000000000000000001A 112 (.rpl (.dio rootRank))) 1 0xFF 0xFFFF

/-- The record a route belongs to: the target's. -/
def routeNode (d : Dev) (target : Nat) : Option Node :=
  let k := keyOfIid (iidOf target)
  if k.1 = allOnes then nodeOf d k.2 else nodeByEui d k.1

/-- The lollipop comparison of RFC 6550, window 16: `a` is newer than `b`. -/
def lollipopNewer (a b : Nat) : Bool :=
  if 128 ≤ a && b < 128 then 16 < 256 + b - a
  else if a < 128 && 128 ≤ b then 256 + a - b ≤ 16
  else
    let dist := if a < 128 then (a + 128 - b) % 128 else a - b
    0 < dist && dist ≤ 16

/-- The short address of a DAO parent: 0 for the device itself, 0xFFFF where it is unknown (R273). -/
def parentShort (d : Dev) (parent : Nat) : Nat :=
  if parent = meshAddr d then 0
  else
    let k := keyOfIid (iidOf parent)
    if k.1 = allOnes then k.2 else match nodeByEui d k.1 with | some n => n.short | none => 0xFFFF

/-- ROUTE_VALID of an entry set or cleared (R293). -/
def setRouteValid (d : Dev) (eui : Nat) (v : Bool) : Dev := updEntry d eui (fun e => { e with routeValid := v })

/-- A DAO accepted or ignored (R293); its DAO-ACK where K is set (R291, R298). -/
def acceptDao (d : Dev) (from_ target parent daoSeq pathSeq lifetime : Nat) (k : Bool) : Dev :=
  let ack (x : Dev) : Dev :=
    if k && rplN x 0x441007 ≠ 0 && meshAddr x ≠ 0 then originatePacket x (ownPacket x from_ 44 (.rpl (.daoAck daoSeq))) 0 0xFF 0xFFFF else x
  match routeNode d target with
  | none => d
  | some n =>
    if n.route.pathKnown && !lollipopNewer pathSeq n.route.pathSeq then d
    else
      let d1 := updNode d n.index (fun x => { x with route := { x.route with
        parent := parentShort d parent, daoSeq := daoSeq, pathSeq := pathSeq, pathKnown := true
        routeExpiry := (tbSec d + lifetime * rplN d 0x441008) % 4294967296 } })
      ack (setRouteValid (setHit d1 n.eui) n.eui (lifetime ≠ 0))

/-- The IPv6 packet of a buffer. -/
def ipOf (d : Dev) (b : Option Nat) : Option Ip :=
  match (b.bind (granule d)).map Granule.body with
  | some (.ip i) => some i
  | some (.eth f) => match f.body with | .ip i => some i | .other _ => none
  | some (.mac f) => match f.payload with | .lowpan _ _ i => some i | _ => none
  | _ => none

/-- An RPL message heard (R291, R293). -/
def hearRpl (d : Dev) (src : Nat) (m : Rpl) : Dev :=
  match m with
  | .dis => sendDio d
  | .dio _ => { d with fwd := { d.fwd with trickleC := d.fwd.trickleC + 1 } }
  | .dao target parent daoSeq pathSeq lifetime k => acceptDao d src target parent daoSeq pathSeq lifetime k
  | .daoAck _ => d
  | .other => d

/-- What the runtime knows of an unknown node by its record (R281, R285): the record whose key a candidate names. -/
def learnRecord (p : Perm) (d : Dev) (c : Candidate) : Option (Nat × Nat × Nat × Nat × Nat × Bool) :=
  match d.nbr.nodes.find? (fun n => n.eui = c.eui || (c.eui = allOnes && n.short = c.short)) with
  | some n => some (n.eui, n.short, p.workerId, d.hier.district, n.index, n.pennant.isSome)
  | none =>
    if !p.manager then none
    else
      (d.hier.districts.findSome? (fun x => (x.nodes.find? (fun n => n.eui = c.eui)).map (fun n => (n.eui, n.short, x.server, x.district, n.record, false))))

/-- A LEARN notice (R284): the node is inserted where the runtime knows it, else the candidate is rejected. -/
def learn (p : Perm) (d : Dev) (lps : Nat) : Dev :=
  match findKey Candidate.index lps d.fwd.lps with
  | none => d
  | some c =>
    match learnRecord p d c with
    | some (eui, short, worker, district, record, direct) =>
      let r := insertEntry p d eui short worker district record direct
      if r.2 then r.1 else updCandidate r.1 lps (fun x => { x with st := 3 })
    | none => updCandidate d lps (fun x => { x with st := 3 })

/-- The runtime takes a Q5 descriptor (R284, R290, R291, R295). -/
def exceptionPacket (p : Perm) (d : Dev) : Dev :=
  let r := takeFrom (pushOwedPackets d) 5
  match r.2 with
  | none => r.1
  | some x =>
    match x.body with
    | .exc _ _ lps _ _ _ _ _ =>
      if x.dstat = 1 then learn p r.1 lps
      else
        let d1 := match ipOf r.1 x.buf with
          | some ip =>
            if x.dstat = 2 ∨ x.dstat = 6 then (match ip.body with | .rpl m => hearRpl r.1 ip.src m | _ => r.1)
            else icmpError r.1 x.dstat ip
          | none => r.1
        dropBuf d1 x.buf
    | _ => dropBuf r.1 x.buf

/-- EXCEPTION_PACKET (R290, R295): the runtime serves Q5 while it runs. -/
def execExceptionPacket (s : State) : Host.Outcome State Fault Refusal :=
  onDev s (fun d => if runtimeUp d then exceptionPacket s.perm d else d)

/-- The front of Q5 is a DAO. -/
def frontDao (d : Dev) : Bool :=
  match front d 5 with
  | some x => x.dstat = 6 && (match ipOf d x.buf with | some ip => (match ip.body with | .rpl (.dao ..) => true | _ => false) | none => false)
  | none => false

/-- DAO (R293): the runtime takes a DAO from Q5. -/
def execDao (s : State) : Host.Outcome State Fault Refusal :=
  onDev s (fun d => if runtimeUp d && frontDao d then exceptionPacket s.perm d else d)

/-- Owed notifications are pushed again, oldest first (R284). -/
def learnRetry (d : Dev) : Dev :=
  (sortBy Candidate.first (d.fwd.lps.filter (fun c => c.st = 2))).foldl (fun x c =>
    let path := if c.ingress = 0 then c.bestFrom % 32 + (if 16 ≤ c.bestFrom % 32 then 32 else 0) else 0
    let r := notifyLearn x c c.bestLqi path
    if r.2 then updCandidate r.1 c.index (fun y => { y with st := 1 }) else r.1) d

/-- LEARN_RETRY (R284). -/
def execLearnRetry (s : State) : Host.Outcome State Fault Refusal := onDev s (fun d => if engineOn d then learnRetry d else d)

/-- The candidate that expires next. -/
def oldestCandidate (d : Dev) : Option Candidate :=
  d.fwd.lps.foldl (fun b c => match b with | none => some c | some x => if c.at_ < x.at_ then some c else some x) none

/-- LEARN_TIMEOUT passes since a candidate's first sighting (R284). -/
def learnTimeout (d : Dev) : Dev :=
  match oldestCandidate d with
  | none => d
  | some c =>
    let d1 := reach d (c.at_ + sec (numN d 0x44000B))
    count { d1 with fwd := { d1.fwd with lps := dropKey Candidate.index c.index d1.fwd.lps } } 0x44000E

/-- LEARN_TIMEOUT (R284). -/
def execLearnTimeout (s : State) : Host.Outcome State Fault Refusal := onDev s (fun d => if queuesOn d then learnTimeout d else d)

/-! ## The table (R278-R282, R286, R287) -/

/-- NODE_INSERT (R278): DIRECT follows whether the node has a Pennant record. -/
def execNodeInsert (eui short worker district record : Nat) (s : State) : Host.Outcome State Fault Refusal :=
  onDev s (fun d =>
    if !queuesOn d then d
    else (insertEntry s.perm d eui short worker district record (match nodeByEui d eui with | some n => n.pennant.isSome | none => false)).1)

/-- A node lies in a cleared bucket. -/
def inCleared (d : Dev) (eui : Nat) : Bool :=
  d.fwd.lost.any (fun b => if b.1 then bucketO d eui = b.2 else bucket1 d eui = b.2 || bucket2 d eui = b.2)

/-- The nodes that the runtime knows: EUI, short address, server, district, record, DIRECT. -/
def knownNodes (p : Perm) (d : Dev) : List (Nat × Nat × Nat × Nat × Nat × Bool) :=
  if p.manager then d.hier.districts.flatMap (fun x => x.nodes.map (fun n => (n.eui, n.short, x.server, x.district, n.record, false)))
  else d.nbr.nodes.map (fun n => (n.eui, n.short, p.workerId, d.hier.district, n.index, n.pennant.isSome))

/-- The rebuild of R281: every known node of a cleared bucket is inserted again, and lost words of the short index are restored. -/
def tableRebuild (p : Perm) (d : Dev) : Dev :=
  let l := (knownNodes p d).filter (fun n => inCleared d n.1 && (tableEntry d n.1).isNone)
  let d1 := l.foldl (fun x n => (insertEntry p x n.1 n.2.1 n.2.2.1 n.2.2.2.1 n.2.2.2.2.1 n.2.2.2.2.2).1) d
  let d2 := (d1.fwd.entries.filter (fun e => d1.fwd.lostShort.contains e.short)).foldl (fun x e => setWord p x e.short e.eui) d1
  { d2 with fwd := { d2.fwd with lost := [], lostShort := [] } }

/-- TABLE_REBUILD (R281). -/
def execTableRebuild (s : State) : Host.Outcome State Fault Refusal :=
  onDev s (fun d => if qdlServed d then tableRebuild s.perm d else d)

/-- The sweeper's place for an entry: main buckets, then overflow buckets (R286). -/
def sweepPlace (e : NtEntry) : Nat := if e.ovf then 1048576 + e.loc else e.loc

/-- The entry that the sweeper visits next (R286). -/
def nextVisit (d : Dev) : Option NtEntry :=
  (d.fwd.entries.filter (fun e => d.fwd.pos ≤ sweepPlace e && e.swept ≠ d.fwd.parity)).foldl
    (fun b e => match b with | none => some e | some x => if sweepPlace e < sweepPlace x then some e else some x) none

/-- One visit (R286). -/
def visit (d : Dev) (e : NtEntry) : Dev :=
  let d1 := updEntry { d with fwd := { d.fwd with pos := sweepPlace e + 1 } } e.eui (fun x => { x with swept := d.fwd.parity })
  if e.static then d1
  else if e.hit then updEntry d1 e.eui (fun x => { x with hit := false, stale := false })
  else if !e.stale then updEntry d1 e.eui (fun x => { x with stale := true })
  else raiseRate (count (removeNode d1 e.eui) 0x440013) 74 0 1 (sec 1) id

/-- A pass begins: the parity inverted, AGE_PERIOD taken (R286). -/
def startPass (d : Dev) : Dev :=
  { d with fwd := { d.fwd with parity := !d.fwd.parity, passStart := d.clk.up, pos := 0, behind := false
                               period := some (numN d 0x440011) } }

/-- The period of the present pass, s. -/
def passPeriod (d : Dev) : Nat := d.fwd.period.getD (numN d 0x440011)

/-- A pass completed (R286, R287): a paced one at the end of its period, one that fell behind at once; the next pass starts. -/
def endPass (d : Dev) : Dev :=
  let d1 := if d.fwd.behind then d else reach d (d.fwd.passStart + sec (passPeriod d))
  startPass (raise (count d1 0x440012) 75 (since d1 d1.fwd.passStart / sec 1))

/-- `n` visits of the sweeper; the visit that finds no entry left completes the pass. -/
def sweep : Nat → Dev → Dev
  | 0, d => d
  | n + 1, d => match nextVisit d with | some e => sweep n (visit d e) | none => endPass d

/-- SWEEP_VISIT: the sweeper visits as many entries as its grant allows (R286, R437). -/
def execSweepVisit (visits : Nat) (s : State) : Host.Outcome State Fault Refusal :=
  onDev s (fun d => if engineOn d && taskRuns d (if d.fwd.behind then 5 else 2) then sweep visits d else d)

/-- A pass unfinished at the end of its period (R287). -/
def ageBehind (d : Dev) : Dev :=
  if d.fwd.behind then d
  else
    let d1 := reach d (d.fwd.passStart + sec (passPeriod d))
    raise { d1 with fwd := { d1.fwd with behind := true } } 76 (passPeriod d)

/-- AGE_BEHIND (R287). -/
def execAgeBehind (s : State) : Host.Outcome State Fault Refusal := onDev s (fun d => if queuesOn d then ageBehind d else d)

/-! ## Commands (R297) -/

/-- EFLAGS (R270). -/
def eflags (e : NtEntry) : Nat :=
  1 + 2 * boolNum e.hit + 4 * boolNum e.stale + 8 * boolNum e.static + 16 * boolNum e.direct + 32 * boolNum e.ovf
    + 64 * boolNum e.routeValid + 128 * boolNum e.swept

/-- An entry as its 32 octets (R269). -/
def entryOctets (e : NtEntry) : List Byte :=
  toLe 8 e.eui ++ toLe 2 e.short ++ toLe 2 (eflags e) ++ toLe 1 e.worker ++ toLe 1 e.depth ++ toLe 2 e.district ++ toLe 4 e.record
    ++ toLe 4 e.insertTime ++ toLe 4 e.lastHit ++ toLe 4 0

/-- The routing area as its 32 octets (R273); a record that is free reads all ones in R_EUI. -/
def routeOctets (n : Option Node) : List Byte :=
  match n with
  | some x =>
    toLe 8 x.eui ++ toLe 2 x.short ++ toLe 2 x.route.parent ++ toLe 1 x.route.daoSeq ++ toLe 1 x.route.pathSeq ++ toLe 2 x.route.psduMax
      ++ toLe 4 x.route.routeExpiry ++ toLe 4 x.route.upPkts ++ toLe 4 x.route.downPkts ++ toLe 4 0
  | none => List.replicate 8 255#8 ++ toLe 24 0

/-- The entry that a command's EUI and SHORT name (R274); no counter moves. -/
def findNode (d : Dev) (arg : List Byte) : Option NtEntry :=
  let eui := leAt arg 0 8
  let short := leAt arg 8 2
  if eui = allOnes then shortEntry d short
  else d.fwd.entries.find? (fun e => e.eui = eui && (short = 0xFFFF || e.short = short))

/-- The command NODE_QUERY: EUI, SHORT (R297). -/
def nodeQueryCore : Core := fun arg d =>
  if !argLen arg 10 then answer d .malformed
  else match findNode d arg with
    | some e => (d, .ok, entryOctets e ++ routeOctets (nodeByEui d e.eui))
    | none => answer d .noEntry

/-- NODE_QUERY (R297). -/
def execNodeQuery (r : Req) (arg : List Byte) (s : State) : Host.Outcome State Fault Refusal :=
  onDev s (serveExec r 0x440015 arg nodeQueryCore)

/-- The command NODE_REMOVE (R282, R297). -/
def nodeRemoveCore : Core := fun arg d =>
  if !argLen arg 10 then answer d .malformed
  else match findNode d arg with | some e => answer (removeNode d e.eui) .ok | none => answer d .noEntry

/-- NODE_REMOVE (R282). -/
def execNodeRemove (r : Req) (arg : List Byte) (s : State) : Host.Outcome State Fault Refusal :=
  onDev s (serveExec r 0x440016 arg nodeRemoveCore)

/-- The command NODE_STATIC: EUI, SHORT, VALUE (R297). -/
def nodeStaticCore : Core := fun arg d =>
  if !argLen arg 11 then answer d .malformed
  else match argBool (nth arg 10 0) with
    | none => answer d .outOfRange
    | some v => match findNode d arg with
      | some e => answer (updEntry d e.eui (fun x => { x with static := v })) .ok
      | none => answer d .noEntry

/-- NODE_STATIC (R297). -/
def execNodeStatic (r : Req) (arg : List Byte) (s : State) : Host.Outcome State Fault Refusal :=
  onDev s (serveExec r 0x440017 arg nodeStaticCore)

/-! ## Instants (R291-R293) -/

/-- The oldest reassembly is discarded at REASM_TIMEOUT (R292). -/
def reasmTimeout (d : Dev) : Dev :=
  match d.fwd.reasm.foldl (fun b r => match b with | none => some r | some x => if r.at_ < x.at_ then some r else some x) (none : Option Reasm) with
  | none => d
  | some r =>
    let d1 := reach d (r.at_ + sec (numN d 0x44001D))
    reasmDrop (dropRef { d1 with fwd := { d1.fwd with reasm := d1.fwd.reasm.filter (fun x => !(x.src = r.src && x.tag = r.tag)) } } r.buf)

/-- REASM_TIMEOUT (R292). -/
def execReasmTimeout (s : State) : Host.Outcome State Fault Refusal := onDev s (fun d => if queuesOn d then reasmTimeout d else d)

/-- The valid route that expires first. -/
def firstExpiry (d : Dev) : Option Node :=
  (d.nbr.nodes.filter (fun n => match tableEntry d n.eui with | some e => e.routeValid | none => false)).foldl
    (fun b n => match b with | none => some n | some m => if n.route.routeExpiry < m.route.routeExpiry then some n else some m) none

/-- A route reaches its expiry: ROUTE_VALID clears (R293). -/
def routeExpiry (d : Dev) : Dev :=
  match firstExpiry d with
  | none => d
  | some n => setRouteValid (reachTb d ((n.route.routeExpiry : Int) * 1000000000)) n.eui false

/-- ROUTE_EXPIRY (R293). -/
def execRouteExpiry (s : State) : Host.Outcome State Fault Refusal := onDev s (fun d => if qdlServed d then routeExpiry d else d)

/-- The present Trickle interval, as an exponent of ms within DIO_IMIN and its doublings (R298). -/
def trickleExp (d : Dev) : Nat :=
  let lo := rplN d 0x441004
  Nat.max lo (Nat.min d.fwd.trickleI (lo + rplN d 0x441005))

/-- A Trickle interval ends (R291, RFC 6206): a DIO goes out unless DIO_K consistent ones were heard, and the interval doubles. -/
def dioTrickle (d : Dev) : Dev :=
  let i := trickleExp d
  let d1 := reach d (d.fwd.trickleAt + ms (2 ^ i))
  let k := rplN d1 0x441006
  let d2 := if k = 0 || d1.fwd.trickleC < k then sendDio d1 else d1
  { d2 with fwd := { d2.fwd with trickleI := Nat.min (i + 1) (rplN d2 0x441004 + rplN d2 0x441005), trickleAt := d2.clk.up, trickleC := 0 } }

/-- DIO_TRICKLE (R291): the root of a worker's district. -/
def execDioTrickle (s : State) : Host.Outcome State Fault Refusal :=
  onDev s (fun d => if qdlServed d && s.perm.role = 2 then dioTrickle (pushOwedPackets d) else d)

end Sys2Proof.Machine
end

