-- ==== Sys2Proof/Machine/Firmware.lean ====
section
/-!
DEFINITION. The boot record and the settings copies, as the start and the firmware update share them (R498, R503-R521).
-/
namespace Sys2Proof.Machine

/-- A boot flash slot. -/
def fwSlot (d : Dev) (s : Nat) : FwSlot := nth d.fw.slots s {}

/-- A slot of the boot record changed. -/
def updSlot (d : Dev) (s : Nat) (f : FwSlot → FwSlot) : Dev := { d with fw := { d.fw with slots := upd d.fw.slots s f {} } }

/-- The slot in a state, if there is one; A first (R507). -/
def slotIn (d : Dev) (st : Nat) : Option Nat := (upTo 2).find? (fun s => (fwSlot d s).st = st)

/-- A slot set EMPTY: its entries read 0 (R523). -/
def emptySlot (d : Dev) (s : Nat) : Dev := updSlot d s (fun _ => {})

/-- A change of the boot record committed (R505): `n` items in the Counters area. -/
def bootCommit (d : Dev) (n : Nat) : Dev × Status := commitNv d n (64 * n) [counterPage]

/-- A write under way ends with its slot EMPTY, in a commit (R509, log 33). -/
def stopWriting (d : Dev) : Dev :=
  match d.fw.writing with
  | some s => emptySlot { (bootCommit d 1).1 with fw := { (bootCommit d 1).1.fw with writing := none } } s
  | none => d

/-- A slot rejected with a reason: event 102 (R506, R507). -/
def rejectSlot (d : Dev) (s reason : Nat) : Dev := raise (updSlot d s (fun x => { x with st := 5, reason := reason })) 102 (s * 256 + reason)

/-- A KEY_GEN is the present generation of the IMAGE key, or the previous one that is kept (R520). -/
def genDecrypts (d : Dev) (gen : Nat) : Bool := ((keyPresent d 5 0).isSome && gen = genOf d 5 0) || d.can.prevImage = some gen

/-- The checks of R507 on a slot: what the flash gives comes first, then SEC_VERSION, KEY_GEN and MIN_SILICON against the device. -/
def slotReason (p : Perm) (d : Dev) (s found : Nat) : Nat :=
  let x := fwSlot d s
  if found ≠ 0 then found
  else if p.siliconRev < x.silicon then 7
  else if x.sec < d.fw.floor then 5
  else if !genDecrypts d x.keyGen then 6
  else 0

/-- DICT_VERSION and MIN_SET_VERSION of the running image. -/
def runDict (d : Dev) : Nat := match d.fw.running with | some s => (fwSlot d s).dict | none => d.nv.version
def runMin (d : Dev) : Nat := match d.fw.running with | some s => (fwSlot d s).minSet | none => 0

/-- The running image reads settings of a SET_VERSION (R513). -/
def settingsReadable (d : Dev) (v : Nat) : Bool := v = 0 || (runMin d ≤ v && v ≤ runDict d)

/-- The copies switched: one commit of the two headers (R498). -/
def headerCommit (d : Dev) : Dev × Status := commitNv d 2 64 [15, 79]

/-- `n` pages of the settings written into the other copy, one commit each (R514); a copy half written is no copy to return to (log 163). -/
def migratePages : Nat → Dev → Dev × Status
  | 0, d => (d, .ok)
  | n + 1, d =>
    let c := commitNv d 1 4096 [79 + n]
    if c.2 = .ok then migratePages n { c.1 with nv := { c.1.nv with shadow := none } } else c

/-- The settings brought to the running image's DICT_VERSION (R514, R516): `.ok`, or the status of the commit refused, or
`.migrationFailed`. A start of a GOOD image that finds the other copy at its version switches back to it. -/
def migrate (d : Dev) (translates : Bool) : Dev × Status :=
  let dict := runDict d
  let good : Bool := match d.fw.running with | some s => decide ((fwSlot d s).st = 4) | none => false
  if d.nv.version = dict then (d, .ok)
  else
    let back : Bool := match d.nv.shadow with | some (v, _) => good && decide (v = dict) | none => false
    if back then
      let c := headerCommit d
      match c.2, d.nv.shadow with
      | .ok, some (v, l) => ({ c.1 with nv := { c.1.nv with rp := l, version := v, shadow := some (d.nv.version, d.nv.rp), setSeq := d.nv.setSeq + 1 } }, .ok)
      | st, _ => (c.1, st)
    else if !settingsReadable d d.nv.version || !translates then (d, .migrationFailed)
    else
      let m := migratePages 64 d
      if m.2 ≠ .ok then m
      else
        let c := headerCommit m.1
        if c.2 = .ok then
          ({ c.1 with nv := { c.1.nv with version := dict, shadow := some (d.nv.version, d.nv.rp), setSeq := d.nv.setSeq + 1 } }, .ok)
        else c

end Sys2Proof.Machine
end

