-- ==== Sys2Proof/Machine/Lanes.lean ====
section
/-!
DEFINITION. Receive lanes and shadow correlators (R121-R158): windows, acquisition, rehoming, capture, the ends of a frame,
and a lane's own faults.
-/
namespace Sys2Proof.Machine

/-- Level of a signal at the antenna ball: LEVEL at the antenna and EXT_LNA_GAIN (R109, R142). -/
def ballLevel (d : Dev) (b : Band) (g : Signal) : Int := g.level + slotNum d (feKey b 0x0A)

/-! ## Windows (R133, R171, R173, R176) -/

/-- The window of a cell as it was prepared, with the ASN of the slot in which the cell began: the newest of that HANDLE and LOCAL. -/
def plannedWindow (d : Dev) (b : Band) (handle loc : Nat) : Option (Nat × RxPlan) :=
  (d.sched.past.reverse.find? (fun c => c.2.1 = b && c.2.2.handle = handle && c.2.2.loc = loc)).map (fun c => (c.1, c.2.2))

/-- That window has opened, or was over before it could (R176). -/
def windowSeen (d : Dev) (b : Band) (a : Nat) (p : RxPlan) : Bool :=
  d.sched.windows.any (fun w => w.band = b && w.asn = a && w.handle = p.handle && w.loc = p.loc)

/-- A window opens on a lane that serves it (R133): IDLE goes to SEARCH. -/
def openLane (w : Window) (d : Dev) (n : Nat) : Dev :=
  updLane d n (fun l => match l.state, l.bind with
    | .idle, some x => if servesWindow d n x w then { l with state := .search } else l
    | _, _ => l)

/-- WINDOW_OPEN: at its instant a receive, rescue or acknowledgement window opens, and its lanes enter SEARCH; the band receives unless it is
blanked, and the window opens on a blanked lane when that comes back to rest (R133, R171, R173, R176). -/
def windowOpen (b : Band) (handle loc : Nat) (d : Dev) : Dev :=
  match plannedWindow d b handle loc with
  | none => d
  | some (a, p) =>
    if windowSeen d b a p then d
    else
      let d1 := comeTo d p.opens
      if p.closes ≤ tbNs d1 || windowSeen d1 b a p then d1
      else
        let w : Window := { band := b, handle := handle, loc := loc, asn := a, closes := p.closes, rescue := p.options.testBit 6 && !p.ack, shut := false }
        let d2 : Dev := { d1 with sched := { d1.sched with windows := d1.sched.windows ++ [w] } }
        driveLna (settleRest ((bandLanes b).foldl (openLane w) d2) b) b

/-- WINDOW_OPEN (R171). -/
def execWindowOpen (band : Band) (handle loc : Nat) (s : State) : Host.Outcome State Fault Refusal :=
  onDev s (fun d => if sequencerOn d then windowOpen band handle loc d else d)

/-- WINDOW_CLOSE: the clock comes to the close of a window that is open, and it is over (R133, R171). -/
def windowClose (b : Band) (handle loc : Nat) (d : Dev) : Dev :=
  match (openWindows d b).reverse.find? (fun w => w.handle = handle && w.loc = loc) with
  | some w => comeTo d w.closes
  | none => d

/-- WINDOW_CLOSE (R133). -/
def execWindowClose (band : Band) (handle loc : Nat) (s : State) : Host.Outcome State Fault Refusal :=
  onDev s (fun d => if sequencerOn d then windowClose band handle loc d else d)

/-! ## Acquisition (R134-R137) -/

/-- Whether a signal of `zeros` symbols of value 0 can be acquired (R134): four at least, at or above the bottom of the window,
inside the search window, narrow for a lane bound so, wide for a correlator. -/
def acquirable (d : Dev) (n zeros : Nat) (x : Binding) (wide : Bool) (g : Signal) : Bool :=
  let b := laneBand n
  4 ≤ zeros && windowBottom d b x.spread (x.narrow && !wide) ≤ ballLevel d b g && g.cfo.natAbs ≤ 6200
    && (wide || !x.narrow || (g.cfo - x.pretune).natAbs ≤ slotN d (bandLaneKey b 4))

/-- A lane locks onto a preamble (R133). -/
def lockLane (d : Dev) (n : Nat) (g : Signal) (handed : Bool) : Dev :=
  updLane d n (fun l => { l with state := .preamble, lock := some (g.level, handed, d.clk.up), other := none })

/-- A lane in SEARCH acquires a preamble (R134). -/
def preambleAcquired (n zeros : Nat) (g : Signal) (d : Dev) : Dev :=
  match (lane d n).state, (lane d n).bind with
  | .search, some x => if acquirable d n zeros x false g then lockLane d n g false else d
  | _, _ => d

/-- PREAMBLE_ACQUIRED (R134). -/
def execPreambleAcquired (lane : Fin 32) (zeros : Nat) (sig : Signal) (s : State) : Host.Outcome State Fault Refusal :=
  onDev s (preambleAcquired lane zeros sig)

/-- The correlator hands a lane in SEARCH a preamble that it acquired over the wide window (R136). -/
def handOver (n zeros : Nat) (g : Signal) (d : Dev) : Dev :=
  match (lane d n).state, (lane d n).bind with
  | .search, some x => if acquirable d n zeros x true g then count (lockLane d n g true) (corrKey n 2) else d
  | _, _ => d

/-- CORRELATOR_HANDOVER (R136). -/
def execCorrelatorHandover (lane : Fin 32) (zeros : Nat) (sig : Signal) (s : State) : Host.Outcome State Fault Refusal :=
  onDev s (handOver lane zeros sig)

/-- The frame a lane holds from its SFD on, stamped `t`: RSSI and timestamp latched, a granule allocated (R133, R142, R144). -/
def takeFrame (d : Dev) (n : Nat) (x : Binding) (g : Signal) (t : Int) (handed captured : Bool) : Dev :=
  let r := alloc d 1 0 (.bytes [])
  let f : LaneFrame := { sfdTime := t, rssi := g.level, cfo := g.cfo, buf := r.2, len := 0, long := false,
                         gain := (band d (laneBand n)).gain, handed := handed, captured := captured, gainStep := false, bind := x }
  updLane r.1 n (fun l => { l with state := .header, lock := none, other := none, frame := some f })

/-- Two SFD instants of a lane lie within one symbol time (R137). -/
def withinSymbol (n : Nat) (x : Binding) (t u : Int) : Bool := (t - u).natAbs ≤ symNs (laneBand n) x.spread

/-- REHOME_THRESHOLD of a lane's band, 0.1 dB. -/
def rehomeBy (d : Dev) (n : Nat) : Int := slotNum d (bandLaneKey (laneBand n) 2)

/-- The lane gives its frame up for the correlator's, whose SFD is stamped `t` (R137). -/
def rehomeTo (d : Dev) (n : Nat) (x : Binding) (g : Signal) (t : Int) : Dev := count (takeFrame d n x g t true false) (laneKey n 0x0C)

/-- A correlator SFD within one symbol time after the lane's own (R137): the lane takes the correlator's frame when it is that much stronger, frees
its own granule and commits nothing for it. -/
def rehomeFrame (d : Dev) (n : Nat) (f : LaneFrame) (g : Signal) : Dev :=
  if f.rssi + rehomeBy d n ≤ g.level then rehomeTo (dropBuf d f.buf) n f.bind g (stampNs d) else d

/-- Rehoming (R137): in PREAMBLE to a peak stronger than the lock by REHOME_THRESHOLD. A correlator SFD that comes while the lane is still in PREAMBLE
is held for the lane's own; one reported against a frame is counted (R157), and decided here within one symbol time, else by CAPTURE (R138). -/
def rehome (n : Nat) (g : Signal) (atSfd : Bool) (d : Dev) : Dev :=
  let l := lane d n
  match l.bind with
  | none => d
  | some x =>
    if 6200 < g.cfo.natAbs then d
    else
      match l.state, l.lock, l.frame with
      | .preamble, some (lv, _, _), _ =>
        if atSfd then updLane d n (fun y => { y with other := some (stampNs d, g) })
        else if lv + rehomeBy d n ≤ g.level then count (lockLane d n g true) (laneKey n 0x0C)
        else d
      | .header, _, some f => if atSfd && withinSymbol n x (stampNs d) f.sfdTime then rehomeFrame (count d (corrKey n 3)) n f g else d
      | .payload, _, some f => if atSfd && withinSymbol n x (stampNs d) f.sfdTime then rehomeFrame (count d (corrKey n 3)) n f g else d
      | _, _, _ => d

/-- REHOME (R137). -/
def execRehome (lane : Fin 32) (sig : Signal) (atSfd : Bool) (s : State) : Host.Outcome State Fault Refusal :=
  onDev s (rehome lane sig atSfd)

/-- The SFD of the preamble a lane is locked onto (R133, R142, R144), against a correlator SFD within one symbol time before it (R137). -/
def sfdFound (n : Nat) (g : Signal) (d : Dev) : Dev :=
  match (lane d n).state, (lane d n).bind, (lane d n).lock with
  | .preamble, some x, some (_, handed, _) =>
    match (lane d n).other with
    | some (t, o) =>
      if withinSymbol n x (stampNs d) t && g.level + rehomeBy d n ≤ o.level then rehomeTo d n x o t else takeFrame d n x g (stampNs d) handed false
    | none => takeFrame d n x g (stampNs d) handed false
  | _, _, _ => d

/-- SFD_FOUND (R133). -/
def execSfdFound (lane : Fin 32) (sig : Signal) (s : State) : Host.Outcome State Fault Refusal :=
  onDev s (sfdFound lane sig)

/-- A false preamble counted, with the storm's event for those within one second of the time base (R141). -/
def falsePreamble (d : Dev) (n : Nat) : Dev :=
  let d1 := count d (laneKey n 0x0B)
  let l := ((lane d1 n).falses.filter (fun t => tbNs d1 - t < 1000000000)) ++ [tbNs d1]
  let d2 := updLane d1 n (fun x => { x with falses := l })
  if slotN d2 (bandLaneKey (laneBand n) 0x0E) < l.length then
    raiseRate d2 38 n 1 (sec 1) (fun _ => n * 65536 + l.length)
  else d2

/-- PREAMBLE_TIMEOUT symbols from acquisition without an SFD (R140, R141). -/
def preambleTimeout (n : Nat) (d : Dev) : Dev :=
  match (lane d n).state, (lane d n).lock, (lane d n).bind with
  | .preamble, some (_, _, t), some x =>
    let d1 := reach d (t + ns (slotN d (bandLaneKey (laneBand n) 3) * symNs (laneBand n) x.spread))
    laneRest (falsePreamble d1 n) n
  | _, _, _ => d

/-- PREAMBLE_TIMEOUT (R141). -/
def execPreambleTimeout (lane : Fin 32) (s : State) : Host.Outcome State Fault Refusal :=
  onDev s (preambleTimeout lane)

/-- The length and validity of a PHR (R129, R130). -/
def phrLength (b0 b1 : Byte) : Nat × Bool :=
  if b0.toNat < 128 then (b0.toNat, false) else (b0.toNat % 128 + 128 * (b1.toNat % 4), true)

def phrValid (d : Dev) (b : Band) (b0 b1 : Byte) : Bool :=
  let p := phrLength b0 b1
  if p.2 then slotFlag d (bandLaneKey b 5) && b1.toNat < 4 && 7 ≤ p.1 && p.1 ≤ 511 else 5 ≤ p.1 && p.1 ≤ 127

/-- The PHR is decoded (R129, R130, R144): the PSDU begins, or the frame ends with PHR_BAD or NO_BUFFER. -/
def phrReceived (n : Nat) (b0 b1 : Byte) (d : Dev) : Dev :=
  let b := laneBand n
  match (lane d n).state, (lane d n).frame with
  | .header, some f =>
    let p := phrLength b0 b1
    let f1 := { f with len := p.1, long := p.2 }
    if f.buf.isNone then
      let d1 := raiseRate (count d (bandLaneKey b 0x0C)) 36 (bandNum b) 1 (sec 1) (fun k => bandNum b * 65536 + k)
      laneRest (commitRx d1 n 7 f1 false false false false 0 f.cfo) n
    else if !phrValid d b b0 b1 then laneRest (commitRx d n 2 f1 false false false false 0 f.cfo) n
    else updLane d n (fun l => { l with state := .payload, frame := some f1 })
  | _, _ => d

/-- PHR_RECEIVED (R130). -/
def execPhrReceived (lane : Fin 32) (phr0 phr1 : Byte) (s : State) : Host.Outcome State Fault Refusal :=
  onDev s (phrReceived lane phr0 phr1)

/-! ## Capture (R136, R138, R139) -/

/-- Octets of an address of this addressing mode (log 132). -/
def addrLen (mode : Nat) : Nat := if mode = 3 then 8 else if mode = 2 then 2 else 0

/-- Whether the destination and the source PAN ID are present, by version, addressing modes and PAN ID Compression (log 132). -/
def panIds (version dst src : Nat) (compress : Bool) : Bool × Bool :=
  if version < 2 then (decide (dst ≠ 0), !(compress && dst ≠ 0))
  else if dst = 0 then (false, !compress)
  else if dst = 3 && src = 3 then (!compress, false)
  else (true, !compress)

/-- The source address of a frame whose octets `l` have arrived, once it is whole (R139): none for a reserved frame type or version, or without a
source address (log 132). -/
def frameSource (l : List Byte) : Addr :=
  let fcf := leAt l 0 2
  let version := fcf / 4096 % 4
  let dst := fcf / 1024 % 4
  let src := fcf / 16384 % 4
  if l.length < 2 || 4 ≤ fcf % 8 || version = 3 || dst = 1 || src < 2 then .none
  else
    let pan := panIds version dst src (fcf.testBit 6)
    let o := 2 + (if version = 2 && fcf.testBit 8 then 0 else 1) + (if pan.1 then 2 else 0) + addrLen dst + (if pan.2 then 2 else 0)
    if l.length < o + addrLen src then .none else if src = 2 then .short (leAt l o 2) else .eui (leAt l o 8)

/-- PSDU octets of a lane's frame that have arrived whole by now (R128). -/
def octetsArrived (d : Dev) (n : Nat) (f : LaneFrame) : Nat :=
  ((tbNs d - f.sfdTime) / (byteNs (laneBand n) f.bind.spread : Int)).toNat - (if f.long then 2 else 1)

/-- The neighbour expected first has been heard by its source address, so the lane keeps its frame (R139). -/
def keepsFrame (d : Dev) (n : Nat) (f : LaneFrame) (psdu : List Byte) : Bool :=
  f.bind.expectedFirst && (lane d n).state = .payload && addrMatches f.bind (frameSource (psdu.take (Nat.min f.len (octetsArrived d n f))))

/-- A correlator SFD against a lane in HEADER or PAYLOAD (R136-R139): captured when it is stronger by CAPTURE_THRESHOLD, unless the frame expected
first is held; within one symbol time of the lane's own SFD it is a rehome (R137). `psdu` are the octets of the present frame so far. -/
def captureFrame (n : Nat) (g : Signal) (psdu : List Byte) (d : Dev) : Dev :=
  let l := lane d n
  match l.frame with
  | none => d
  | some f =>
    if (l.state ≠ .header && l.state ≠ .payload) || 6200 < g.cfo.natAbs then d
    else
      let d1 := count d (corrKey n 3)
      if withinSymbol n f.bind (stampNs d) f.sfdTime then rehomeFrame d1 n f g
      else if g.level < f.rssi + slotNum d (bandLaneKey (laneBand n) 1) then d1
      else if keepsFrame d n f psdu then count d1 (laneKey n 0x0A)
      else takeFrame (count (abortRx d1 n 3 f) (laneKey n 9)) n f.bind g (stampNs d) false true

/-- CAPTURE (R138). -/
def execCapture (lane : Fin 32) (sig : Signal) (psdu : List Byte) (s : State) : Host.Outcome State Fault Refusal :=
  onDev s (captureFrame lane sig psdu)

/-! ## The end of a frame, and faults (R142-R149) -/

/-- The last PSDU chip (R142, R146, R149, R150): the FCS decides, the buffer holds the frame, the descriptor goes to Q0 or Q1,
and the lane returns to rest. -/
def lastChip (n : Nat) (m : MacFrame) (good : Bool) (evm : Nat) (cfo : Int) (clipped : Bool) (d : Dev) : Dev :=
  let b := laneBand n
  match (lane d n).state, (lane d n).frame with
  | .payload, some f =>
    let d1 := match f.buf with
      | some g => updGranule d g (fun x => { x with len := f.len, time := f.sfdTime, body := .mac m })
      | none => d
    let keep := good || slotFlag d (bandLaneKey b 7)
    let d2 := commitRx d1 n (if good then 0 else 1) f (addrMatches f.bind m.src) good keep clipped (lqiOf evm) cfo
    laneRest (if clipped then clipRx d2 b f.bind.channel else d2) n
  | _, _ => d

/-- LAST_PSDU_CHIP (R146). -/
def execLastPsduChip (lane : Fin 32) (frame : MacFrame) (fcsGood : Bool) (evm : Nat) (cfo : Int) (clipped : Bool) (s : State) :
    Host.Outcome State Fault Refusal :=
  onDev s (lastChip lane frame fcsGood evm cfo clipped)

/-- A lane's fault (R147, R548, R549): a frame held ends with ABORT_FAULT; record, event 32; the lane recovers. -/
def laneFault (n : Nat) (hang : Bool) (d : Dev) : Dev :=
  let l := lane d n
  if !l.powered || 3 ≤ l.nest || (hang && l.state ≠ .header && l.state ≠ .payload) then d
  else
    let k := l.nest + 1
    let code := if hang then 0x30 else 0x31
    let d1 := match l.frame with | some f => abortRx d n 6 f | none => d
    let d2 := count (count d1 (laneKey n 0x0D)) (if l.nest = 0 then 0x810008 else 0x810009)
    let d3 := errBy d2 (if l.frame.isSome then 2 else 1) 1 n code none none (laneNum l.state) 0 k
    raise (updLane d3 n (fun x => { x with state := .recover, lock := none, other := none, frame := none, nest := k, lastCode := code })) 32 (n * 256 + k)

/-- LANE_FAULT (R147). -/
def execLaneFault (lane : Fin 32) (hang : Bool) (s : State) : Host.Outcome State Fault Refusal :=
  onDev s (laneFault lane hang)

/-- A lane's recovery ends: rest, or quarantine after the third fault (R147-R149, R549). -/
def laneRecovered (n : Nat) (d : Dev) : Dev :=
  let l := lane d n
  if l.state ≠ .recover then d
  else if 3 ≤ l.nest then
    let d1 := updLane d n (fun x => { x with state := .quarantined, nest := 0, bind := none, next := none })
    let d2 := errBy (count d1 0x81000A) 3 1 n 0x50 none none l.lastCode 0 3
    raise (raise d2 33 n) 126 (256 + n)
  else
    let d1 := laneRest (updLane d n (fun x => { x with nest := 0 })) n
    if (band d1 (laneBand n)).blanked then blankLane 4 d1 n else d1

/-- LANE_RECOVERED (R147). -/
def execLaneRecovered (lane : Fin 32) (s : State) : Host.Outcome State Fault Refusal := onDev s (laneRecovered lane)

/-- The command LANE_RESTORE (R148, R155): a quarantined lane of the band returns to binding. -/
def laneRestoreCore (b : Band) : Core := fun arg d =>
  match arg with
  | [x] =>
    if !(bandLanes b).contains x.toNat then answer d .outOfRange
    else if (lane d x.toNat).state ≠ .quarantined then answer d .wrongMode
    else answer (raise (updLane d x.toNat (fun l => { l with state := .off })) 34 x.toNat) .ok
  | _ => answer d .malformed

/-- LANE_RESTORE (R155). -/
def execLaneRestore (r : Req) (band : Band) (arg : List Byte) (s : State) : Host.Outcome State Fault Refusal :=
  onDev s (serveExec r (bandLaneKey band 0x0A) arg (laneRestoreCore band))

end Sys2Proof.Machine
end

