-- ==== Sys2Proof/Machine/Prepare.lean ====
section
/-!
DEFINITION. Slot preparation (R21): schedule switches, candidates and grants, the choice of each band's activities, gain,
latched values, lane bindings, and key requests.
-/
namespace Sys2Proof.Machine

/-! ## Schedule switches (R161, R186, R187, R202) -/

/-- The neighbours that the new version names are placed on die, with event 52 where they do not all fit (R202). -/
def placeNamed (d : Dev) : Dev :=
  let n := (d.nbr.nodes.filter (fun n => n.pennant.isSome && named d n.short)).length
  if 4096 < n then raise (placeOnDie d) 52 (n - 4096) else placeOnDie d

/-- A new template takes effect at ASN `a` (R161): the reference moves where the slot length changes, and the slots before keep theirs. -/
def switchTime (d : Dev) (a : Nat) (v : SchedVer) : Dev :=
  if v.tmpl.slotLen = d.sched.ver.tmpl.slotLen then { d with sched := { d.sched with ver := v } }
  else { d with sched := { d.sched with asnRef := a, asnRefTime := t0Of d a, prevLen := d.sched.ver.tmpl.slotLen, ver := v } }

/-- Whether some operation sets the template. -/
def setsTiming (l : List DeltaOp) : Bool := l.any (fun o => match o with | .setTiming _ => true | _ => false)

/-- An operation writes or drops a cell's record (R184). -/
def rewrites (o : DeltaOp) (x : Nat × Nat × Nat) : Bool :=
  match o with
  | .addCell c => (c.handle, c.slotOffset, c.loc) = x
  | .modCell c => (c.handle, c.slotOffset, c.loc) = x
  | .delCell h l s => (h, s, l) = x
  | .delFrame h => h = x.1
  | _ => false

/-- The pending deltas that switch at ASN `a` take effect together, in SEQ order (R186, R187); event 40 tells the highest SEQ. -/
def switchAt (d : Dev) (a : Nat) : Dev :=
  let due := d.sched.pending.filter (fun p => p.at_ = a)
  match due.getLast? with
  | none => d
  | some l =>
    let v := due.foldl (fun v p => (applyOps d p.ops v).getD v) d.sched.ver
    let d1 := switchTime d a v
    let d2 : Dev := { d1 with sched := { d1.sched with
      badCells := d.sched.badCells.filter (fun x => !due.any (fun p => p.ops.any (fun o => rewrites o x)))
      pending := d.sched.pending.filter (fun p => p.at_ ≠ a), deltaSeq := l.seq, lastSwitch := a
      timingAsn := if due.any (fun p => setsTiming p.ops) then a else d1.sched.timingAsn } }
    placeNamed (raise d2 40 l.seq)

/-- The ASNs at which deltas pend, ascending. -/
def switchAsns (d : Dev) : List Nat := sortBy (fun (x : Nat) => (x : Int)) (d.sched.pending.map PendingDelta.at_).eraseDups

/-- The deltas whose switch ASN has come by the slot with ASN `a` switch, each with those of its own ASN (R186, R187). -/
def switchDeltas (d : Dev) (a : Nat) : Dev := ((switchAsns d).filter (fun s => s ≤ a)).foldl switchAt d

/-- Deltas whose slot has passed without a preparation switch where they stood (R160, R186). -/
def switchPassed (d : Dev) : Dev := (switchAsns d).foldl (fun x s => if t0Of x s ≤ tbNs x then switchAt x s else x) d

/-! ## What a band may send (R170, R173-R177, R215-R217, R226, R374) -/

/-- The sequencer may transmit in a slot with this T0 (R374, R375, R378, R385). -/
def txAllowed (d : Dev) (t0 : Int) : Bool :=
  match d.hier.st with
  | .leased => decide (t0 < d.hier.leaseEnd) && decide (d.hier.start ≤ t0)
  | .autonomous => decide (t0 < d.hier.autonomyEnd)
  | _ => false

/-- A CROSS cell is prepared (R395). -/
def crossOk (d : Dev) (c : Cell) : Bool := !c.opt 11 || (d.hier.st = .leased && alignNow d ≤ 1000)

/-- Cells of a band active at an ASN, of slotframes not suspended (R162, R193). -/
def activeCells (d : Dev) (b : Band) (a : Nat) : List Cell :=
  let v := d.sched.ver
  v.cells.filter (fun c => v.bandOf c = b && v.activeAt a c && !suspended d c.handle)

/-- The record of a cell holds an uncorrectable word (R245). -/
def cellBad (d : Dev) (c : Cell) : Bool := d.sched.badCells.contains (c.handle, c.slotOffset, c.loc)

/-- The candidates of R170 among a band's active cells: rescue cells by their rules. -/
def usable (d : Dev) (b : Band) (c : Cell) : Bool :=
  crossOk d c && (!c.rescue || rescueActive d b c) && (!c.rescueAdv || bandRescue d b)

/-- The device listens in a cell: it has RX, and its single neighbour is not Adrift, but for a rescue cell (R170, R215). -/
def hears (d : Dev) (c : Cell) : Bool := c.rx && (c.rescue || !isAdrift d c.neighbour)

/-- PSDU length of a frame of a list as it goes on air (R194, R356, R357). -/
def itemPsdu (d : Dev) (i : TxItem) : Nat :=
  match i.desc.body with
  | .p0 x => p0Psdu d i.desc x
  | .image .. => i.desc.len + fcsLen i.desc.len
  | _ =>
    let n := if i.secured.isSome then i.desc.len else i.desc.len + 14 + micLen (numN d 0x510001)
    n + fcsLen n

/-- PSDU length of a keepalive: header, auxiliary header, MIC, FCS (R217). -/
def keepalivePsdu (d : Dev) : Nat := 16 + micLen (numN d 0x510001)

/-- The channel of a cell in a slot (R168). -/
def cellChannel (d : Dev) (b : Band) (a : Nat) (c : Cell) : Nat := hopChannel (d.sched.ver.hop d b) a c.chOffset

/-- The power a cell uses (R112). -/
def cellPower (d : Dev) (b : Band) (p : Int) : Int := if maxPower d b < p then maxPower d b else p

/-- The recorded carrier offset of a neighbour, if valid (R107, R204). -/
def cfoOf (d : Dev) (short : Nat) : Option Int :=
  match pennantOf d short with | some p => if p.cfoValid then some p.cfo else none | none => none

/-- A transmission planned in a cell. -/
def planTx (d : Dev) (b : Band) (a : Nat) (c : Cell) (k : TxKind) (len : Nat) (ackReq : Bool) : TxPlan :=
  let n := match k with | .frame s => some s | .keepalive s => some s | _ => none
  { kind := k, handle := c.handle, loc := c.loc, cls := c.cls, channel := cellChannel d b a c, spread := c.spread
    power := cellPower d b c.txPower, preoffset := (n.bind (cfoOf d)).getD 0, neighbour := n
    nominal := t0Of d a + (d.sched.ver.tmpl.txOffset : Int), limit := spanLimit d a c.span, len := len, ackReq := ackReq
    span := c.span, options := c.options, t0 := t0Of d a, tmpl := d.sched.ver.tmpl }

/-- The backoff of a destination forbids this shared cell (R174). -/
def backedOff (d : Dev) (dest : Nat) : Bool := d.sched.backoff.any (fun x => x.1 = dest && 0 < x.2.2)

/-- The neighbour's guard at a time (R213), ns. -/
def guardAt (d : Dev) (short : Nat) (t : Int) : Int :=
  match (pennantOf d short).bind (fun p => uncertainty d p t) with
  | some u => if 4000000 < u then 4000000 else u
  | none => (d.sched.ver.tmpl.sharedGuard : Int)

/-- The device sends frames to a neighbour in this state (R205, R215, R231). -/
def Node.served (n : Node) : Bool := n.state = .active || n.state = .joining || n.state = .dropped

/-- Expected SFD instant of a cell (R208). -/
def cellSfd (d : Dev) (b : Band) (a spread : Nat) : Int := t0Of d a + (d.sched.ver.tmpl.txOffset : Int) + (shrNs b spread : Int)

/-- What a transmit cell toward a single neighbour sends (R170, R174, R191, R217). -/
def unicastFor (d : Dev) (b : Band) (a : Nat) (c : Cell) : Option TxPlan :=
  match nodeOf d c.neighbour with
  | none => none
  | some n =>
    if !n.served || (c.shared && backedOff d n.short) then none
    else
      match (txList d n.short).head? with
      | some i =>
        if d.pwr.mode = .m9 then none else some (planTx d b a c (.frame n.short) (itemPsdu d i) i.ackReq)
      | none =>
        if !c.shared && num d 0x31000B ≤ guardAt d n.short (cellSfd d b a c.spread) then
          some (planTx d b a c (.keepalive n.short) (keepalivePsdu d) true)
        else none

/-- What a transmit cell has to send (R170, R173, R174, R177, R191, R195, R226); none where it has nothing. -/
def txFor (d : Dev) (b : Band) (a : Nat) (c : Cell) : Option TxPlan :=
  if !c.tx || !txAllowed d (t0Of d a) then none
  else if c.adv then (if groupRefused d || (band d b).inhibit then none else some (planTx d b a c .beacon c.maxPsdu false))
  else if c.mcast then
    match (mcastList d c.group).head? with
    | some i => if d.pwr.mode = .m9 then none else some (planTx d b a c (.mcast c.group) (itemPsdu d i) false)
    | none => none
  else
    match (if c.shared && d.pwr.mode ≠ .m9 && !backedOff d 0xFFFF then (bcastList d b).head? else none) with
    | some i => some (planTx d b a c .bcast (itemPsdu d i) false)
    | none => unicastFor d b a c

/-- Shared cells counted off against the backoffs of their destinations (R174). -/
def passShared (d : Dev) (l : List Cell) : Dev :=
  { d with sched := { d.sched with backoff := d.sched.backoff.map (fun x =>
      if l.any (fun c => c.tx && c.shared && c.neighbour = x.1) && 0 < x.2.2 then (x.1, x.2.1, x.2.2 - 1) else x) } }

/-! ## Receive windows (R171, R176, R213) -/

/-- The channels a receive cell listens on (R123, R168). -/
def rxChannels (d : Dev) (b : Band) (a : Nat) (c : Cell) : List Nat :=
  if c.allChannel then bandChannels d b else [cellChannel d b a c]

/-- The receive window of a cell (R171, R176), with the neighbour's values as latched now. -/
def planRx (d : Dev) (b : Band) (a : Nat) (c : Cell) : RxPlan :=
  let t := d.sched.ver.tmpl
  let t0 := t0Of d a
  let g : Nat := (match c.single with
    | some n => if isAdrift d n then (4000000 : Int) else guardAt d n (cellSfd d b a c.spread)
    | none => (t.sharedGuard : Int)).toNat
  let open_ : Int := if c.rescue then t0 + (t.rescueLead : Int)
    else t0 + (if (t.txOffset : Int) - (g : Int) < 100000 then 100000 else (t.txOffset : Int) - (g : Int))
  let close : Nat := Nat.min (t.txOffset + g + 4 * symNs b c.spread) (c.span * t.slotLen - t.slotTail)
  { handle := c.handle, loc := c.loc, cls := c.cls, options := c.options, neighbour := c.single, channels := rxChannels d b a c
    spread := c.spread, power := cellPower d b c.txPower, span := c.span, guard := g, opens := open_
    closes := if c.rescue then open_ + 9000000 else t0 + (close : Int), limit := spanLimit d a c.span, cfo := c.single.bind (cfoOf d)
    t0 := t0, tmpl := t }

/-- The acknowledgement window of a transmission that begins at `start`, as a receive cell (R170, R173). -/
def ackRxAt (d : Dev) (b : Band) (x : TxPlan) (start : Int) : RxPlan :=
  let fin : Int := start + (airNs b x.spread x.len : Int)
  { handle := x.handle, loc := x.loc, cls := x.cls, options := x.options, neighbour := x.neighbour, channels := [x.channel], spread := x.spread
    power := x.power, span := x.span, guard := x.tmpl.ackGuard, opens := fin + (x.tmpl.ackDelay : Int) - (x.tmpl.ackGuard : Int)
    closes := fin + (x.tmpl.ackDelay : Int) + (x.tmpl.ackGuard : Int), limit := x.limit, cfo := x.neighbour.bind (cfoOf d)
    t0 := x.t0, tmpl := x.tmpl, ack := true }

/-- The acknowledgement window as it is prepared, for a frame that leaves at its nominal instant. -/
def ackRx (d : Dev) (b : Band) (x : TxPlan) : RxPlan := ackRxAt d b x x.nominal

/-! ## Candidates (R433, R435, R437) -/

/-- Lane cost of listening `n` ns, and band overhead of `k` slots, µJ (R433). -/
def laneEnergy (d : Dev) (b : Band) (n : Nat) : Int := num d (costKey b 1) * (n : Int) / 1000000000
def bandOverhead (d : Dev) (b : Band) (k : Nat) : Int := num d (costKey b 3) * ((k * d.sched.ver.tmpl.slotLen : Nat) : Int) / 1000000000

/-- A receive cell as a candidate (R433). -/
def rxCand (d : Dev) (b : Band) (a : Nat) (c : Cell) : Cand :=
  let w := planRx d b a c
  let ack := airNs b c.spread d.sched.ver.tmpl.ackPsdu
  { cls := c.cls, part := bandNum b, handle := c.handle, loc := c.loc, task := 0
    energy := txEnergy d b w.power ack, heat := txHeat d b w.power ack, pairs := w.channels.map (fun ch => (ch, c.spread))
    laneCost := laneEnergy d b ((w.closes - w.opens).toNat + airNs b c.spread c.maxPsdu)
    overhead := bandOverhead d b c.span, fin := t0Of d (a + c.span) }

/-- A transmission as a candidate (R433). -/
def txCand (d : Dev) (b : Band) (a maxPsdu task : Nat) (x : TxPlan) : Cand :=
  let air := airNs b x.spread x.len
  { cls := x.cls, part := bandNum b, handle := x.handle, loc := x.loc, task := task
    energy := txEnergy d b x.power air, heat := txHeat d b x.power air, pairs := if x.ackReq then [(x.channel, x.spread)] else []
    laneCost := laneEnergy d b (2 * d.sched.ver.tmpl.ackGuard + airNs b x.spread maxPsdu)
    overhead := bandOverhead d b x.span, fin := t0Of d (a + x.span) }

/-- A cell as a candidate: as a transmission, as a receive cell, or not at all (R170). -/
def cellCand (d : Dev) (b : Band) (a : Nat) (c : Cell) : Option Cand :=
  match txFor d b a c with
  | some x => some (txCand d b a c.maxPsdu 0 x)
  | none => if hears d c then some (rxCand d b a c) else none

/-- A timed frame's slot is this one (R195). -/
def timedIn (d : Dev) (b : Band) (a : Nat) (i : TxItem) : Bool :=
  match i.desc.body with | .p0 x => x.band = b && asnAt d x.when_ = (a : Int) | _ => false

/-- The device sends nothing to a timed frame's neighbour as things stand (R205, R215, log 134). -/
def timedUnserved (d : Dev) (i : TxItem) : Bool :=
  match i.desc.body with
  | .p0 x => x.neighbour ≠ 0xFFFF && (match nodeOf d x.neighbour with | some n => !n.served | none => true)
  | _ => false

/-- The timed frames of a band whose slot is this one (R195), and their plan. -/
def timedOf (d : Dev) (b : Band) (a : Nat) : List (Nat × TxItem × TxPlan) :=
  (d.nbr.timed.filter (timedIn d b a)).zipIdx.filterMap
    (fun y => match y.1.desc.body with
      | .p0 x => some (y.2 + 1, y.1,
          { kind := .timed y.1.id, handle := 63, loc := 63, cls := x.pclass, channel := x.channel, spread := x.spread
            power := cellPower d b x.txPower, preoffset := (cfoOf d x.neighbour).getD 0
            neighbour := if x.neighbour = 0xFFFF then none else some x.neighbour, nominal := x.when_, limit := spanLimit d a 1
            len := p0Psdu d y.1.desc x, ackReq := x.ackReq, span := 1, options := 0, t0 := t0Of d a, tmpl := d.sched.ver.tmpl })
      | _ => none)

/-- Cost of a task over one slot, µJ, at a rate in µW (R433, R437). -/
def taskCost (d : Dev) (rate : Int) : Int := rate * (d.sched.ver.tmpl.slotLen : Int) / 1000000000

/-- A task as a candidate (R437); band calibrations are told apart by `loc`. -/
def taskCand (d : Dev) (a cls task loc : Nat) (cost : Int) : Cand :=
  { cls := cls, part := 2, handle := 0, loc := loc, task := task, energy := cost, heat := cost, pairs := [], laneCost := 0, overhead := 0
    fin := t0Of d (a + 1) }

/-- The tasks offered in a slot (R437). -/
def taskCands (d : Dev) (a : Nat) : List Cand :=
  ([Band.sf, Band.g].filterMap (fun b =>
      if (band d b).calPending.isSome && (band d b).cal.isNone && !inSpan d b a && !inBurst d b a then some (taskCand d a 4 0 (bandNum b) (num d 0x111009)) else none))
    ++ [taskCand d a 4 1 0 (taskCost d (num d 0x11100A)), taskCand d a 4 2 0 (taskCost d (num d 0x11100B)),
        taskCand d a 4 3 0 (taskCost d (num d 0x11100C)), taskCand d a 4 4 0 (taskCost d (num d 0x11100D))]
    ++ (if d.store.behind then [taskCand d a 5 5 0 (taskCost d (3 * num d 0x11100A))] else [])
    ++ (if d.fwd.behind then [taskCand d a 5 5 1 (taskCost d (3 * num d 0x11100B))] else [])
    ++ (if d.store.scrubNow || d.bunting.committing.isSome || d.fw.writing.isSome then [taskCand d a 5 6 0 (taskCost d (num d 0x11100E))] else [])

/-- A commanded calibration as a class-0 candidate (R102, R438). -/
def calCand (d : Dev) (a : Nat) (b : Band) : Cand :=
  { cls := 0, part := bandNum b, handle := 0, loc := 0, task := 1001, energy := num d 0x111009, heat := num d 0x111009, pairs := []
    laneCost := 0, overhead := 0, fin := t0Of d (a + 1) }

/-- The commanded calibration and the burst that wait, as class-0 candidates (R102, R233, R438): neither in a burst under way, a burst in no span. -/
def commandCands (d : Dev) (a : Nat) (b : Band) : List Cand :=
  (if (band d b).calWait.isSome && !inBurst d b a then [calCand d a b] else [])
  ++ (match d.nbr.burst with
      | some x => if x.band = b && x.begun.isNone && !inSpan d b a then
          [{ burstCand d x (bandOverhead d b (ceilDiv (x.duration * 1000000) d.sched.ver.tmpl.slotLen)) with task := 1002 }] else []
      | none => [])

/-- A candidate was granted. -/
def wasGranted (g : List Cand) (part handle loc task : Nat) : Bool :=
  g.any (fun c => c.part = part && c.handle = handle && c.loc = loc && c.task = task)

/-! ## The choice of a band's activities (R170) -/

/-- A timed frame. -/
def TxPlan.isTimed (x : TxPlan) : Bool := match x.kind with | .timed _ => true | _ => false

/-- The order of R170, with a timed frame after every cell of its class (R195): class, timed or not, handle, local. -/
def txRank (x : TxPlan) : Nat := ((x.cls * 2 + boolNum x.isTimed) * 64 + x.handle) * 64 + x.loc

/-- The transmission that comes first in that order. -/
def bestTx (l : List TxPlan) : Option TxPlan :=
  l.foldl (fun b x => match b with | none => some x | some y => if txRank x < txRank y then some x else some y) none

/-- What R170 gives for a band: the transmission, the cells listened in, and the receive cells preempted. -/
def choose (tx : List TxPlan) (rx : List RxPlan) : Option TxPlan × List RxPlan × Nat :=
  match bestTx tx with
  | none => (none, rx, 0)
  | some x =>
    let others := rx.filter (fun r => x.isTimed || !(r.handle = x.handle && r.loc = x.loc))
    if others.all (fun r => x.cls ≤ r.cls) then (some x, [], others.length) else (none, rx, 0)

/-! ## Gain (R110, R182) -/

/-- Expected level of a listened cell, 0.1 dBm at the ball (R110). -/
def rxLevel (d : Dev) (b : Band) (r : RxPlan) : Int := expectedLevel d b r.neighbour

/-- The gain index for the levels of a slot (R110); none where no cell is listened in. -/
def chooseGain (d : Dev) (b : Band) (rx : List RxPlan) : Option Nat :=
  match rx.map (rxLevel d b) with
  | [] => none
  | l :: t =>
    let target := t.foldl (fun m x => if m < x then x else m) l + num d (feKey b 8) * 10
    some (((upTo (topGain b + 1)).filter (fun i => target ≤ ceiling d b i)).getLast?.getD 0)

/-- The spread of latched levels, and the cells of the highest and lowest (R182). -/
def nearFar (d : Dev) (b : Band) (rx : List RxPlan) : Dev :=
  match rx with
  | [] => d
  | r :: t =>
    let hi := t.foldl (fun m x => if rxLevel d b m < rxLevel d b x then x else m) r
    let lo := t.foldl (fun m x => if rxLevel d b x < rxLevel d b m then x else m) r
    let spread := rxLevel d b hi - rxLevel d b lo
    if spread ≤ 450 then d
    else
      let d1 := raiseRate (count d 0x300009) 43 (bandNum b) 1 (sec 1) (fun _ => bandNum b * 0x10000 + spread.toNat)
      report d1 2 (bandNum b) (cellRef hi.handle hi.loc) (cellRef lo.handle lo.loc)

/-! ## Lane binding (R123-R126, R611) -/

/-- A lane is busy for the slot that begins at `t0` (R124). -/
def laneBusy (d : Dev) (n : Nat) (t0 : Int) : Bool :=
  match (lane d n).state, (lane d n).frame with
  | .payload, some f =>
    decide (t0 < f.sfdTime + ((((if f.long then 2 else 1) + f.len) * byteNs (laneBand n) f.bind.spread : Nat) : Int))
  | _, _ => false

/-- The bindings of a band while R123's loop runs: newly bound lanes, cells served by a lane bound for another, uncovered channels. -/
structure Binder where
  bound : List (Nat × Binding)
  served : List LaneShare
  uncovered : List Nat

/-- The lane that R123 picks for a pair of channel and spreading level; `home` are the channels of granted receive cells. -/
def pickLane (d : Dev) (b : Band) (t0 : Int) (home : List Nat) (x : Binder) (ch : Nat) : Option Nat :=
  let free (n : Nat) : Bool := (lane d n).state ≠ .quarantined && !laneBusy d n t0 && x.bound.all (fun y => y.1 ≠ n)
  if free (homeLane b ch) then some (homeLane b ch)
  else
    match (bandLanes b).find? (fun n => free n && (homeChannel d n).isNone) with
    | some n => some n
    | none => (bandLanes b).find? (fun n => free n && (match homeChannel d n with | some h => !home.contains h | none => true))

/-- The binding that a cell gives a lane (R125). -/
def bindingFor (d : Dev) (a : Nat) (ackWindow : Bool) (r : RxPlan) (ch : Nat) : Binding :=
  { channel := ch, spread := r.spread, pretune := r.cfo.getD 0, narrow := r.cfo.isSome, handle := r.handle, loc := r.loc, asn := a
    neighbour := r.neighbour, neighbourEui := (r.neighbour.bind (nodeOf d)).map Node.eui, expectedFirst := r.options.testBit 9
    allChannel := r.options.testBit 5, ackWindow := ackWindow }

/-- One channel of a cell bound (R123). -/
def bindChannel (d : Dev) (b : Band) (a : Nat) (t0 : Int) (home : List Nat) (ackWindow : Bool) (r : RxPlan) (x : Binder) (ch : Nat) : Binder :=
  match x.bound.find? (fun y => y.2.channel = ch && y.2.spread = r.spread) with
  | some y => { x with served := x.served ++ [⟨a, r.handle, r.loc, y.1⟩] }
  | none =>
    match pickLane d b t0 home x ch with
    | some n => { x with bound := x.bound ++ [(n, bindingFor d a ackWindow r ch)] }
    | none => { x with uncovered := x.uncovered ++ [ch] }

/-- The lanes bound for a band's listened cells, in the order of R123. -/
def bindBand (d : Dev) (b : Band) (a : Nat) (t0 : Int) (ackWindow : Bool) (rx : List RxPlan) : Binder :=
  let ordered := sortBy (fun (p : RxPlan) => (((p.cls * 64 + p.handle) * 64 + p.loc : Nat) : Int)) rx
  let home := (ordered.flatMap RxPlan.channels).eraseDups
  ordered.foldl (fun x r => r.channels.foldl (bindChannel d b a t0 home ackWindow r) x) ⟨[], [], []⟩

/-- A lane's binding of R123 waits for T0; a lane that was OFF is powered and has its NCO set now (R126, R133, R611). -/
def bindLane (d : Dev) (x : Binding) (n : Nat) (l : Lane) : Lane :=
  if l.state = .off then { l with state := .idle, nco := ncoOf d (laneBand n) x, next := some (some x) } else { l with next := some (some x) }

/-- A channel that found no lane is counted, with event 35 (R123, R158). -/
def uncover (b : Band) (d : Dev) (ch : Nat) : Dev :=
  raiseRate (count d (bandLaneKey b 0x0B)) 35 (bandNum b) 1 (sec 1) (fun _ => bandNum b * 0x10000 + ch)

/-- The bindings decided (R611); lanes not bound and not busy serve nothing from T0 on. -/
def applyBinder (d : Dev) (b : Band) (t0 : Int) (x : Binder) : Dev :=
  let d1 := (bandLanes b).foldl (fun y n =>
    match x.bound.find? (fun z => z.1 = n) with
    | some z => updLane y n (bindLane y z.2 n)
    | none => if laneBusy y n t0 || (lane y n).state = .quarantined then y else updLane y n (fun l => { l with next := some none })) d
  x.uncovered.foldl (uncover b) d1

/-! ## One band's preparation -/

/-- Receive cells passed over are counted, with event 45 (R167, R170, R233, R395). -/
def preempt (d : Dev) (b : Band) (n : Nat) : Dev :=
  if n = 0 then d else raiseRate (countBy d 0x30000B n) 45 (bandNum b) n (sec 1) (fun k => bandNum b * 0x10000 + k)

/-- The guard of a latched neighbour recorded (R213), with the test for ADRIFT. -/
def latchGuard (t : Int) (d : Dev) (short : Nat) : Dev :=
  let d1 := adriftTest t d short
  match nodeOf d1 short with
  | some n => updPennant d1 n.index (fun p => { p with guard := if p.state = .adrift then 0xFFFFFFFF else (guardAt d1 short t).toNat })
  | none => d1

/-- Timed frames of a slot that prepares nothing on the band, or whose slot has passed, return (R195). -/
def dropTimed (d : Dev) (l : List TxItem) (dstat : Nat) : Dev :=
  l.foldl (fun x i => returnP0 x i.desc dstat 0)
    { d with nbr := { d.nbr with timed := d.nbr.timed.filter (fun i => !l.any (fun y => y.id = i.id)) } }

/-- A frame of a transmit or multicast list goes to frame security when it is first selected (R19, R20, R224, R356): the item as
it stands then, and whether Q33 took it. -/
def toSecurity (d : Dev) (i : TxItem) (dest seq : Nat) (group : Bool) : Dev × TxItem × Bool :=
  let x : DownInfo := match i.desc.body with
    | .down y => { y with seq := seq, level := numN d 0x510001, group := group }
    | _ => { enq := tbNs d, neighbour := dest, tclass := 0, frag := 0, lastFrag := true, pktTag := 0, airtime := 0, seq := seq
             level := numN d 0x510001, group := group, fc := 0 }
  let r := produce d 33 ⟨0x06, 0, i.desc.len, i.desc.buf, .down x⟩
  (r.1, { i with seq := some seq, inQ33 := true }, r.2)

/-- The next sequence number toward a neighbour, taken (R224). -/
def takeSeq (d : Dev) (short : Nat) : Dev × Nat :=
  match nodeOf d short with
  | some n =>
    let s := ((match n.pennant with | some p => p.txDsn | none => 0) + 1) % 256
    (updPennant d n.index (fun p => { p with txDsn := s }), s)
  | none => (d, 0)

/-- A P0 frame is secured on the direct path when it is selected (R195, R358): SECSTAT and counter. -/
def secureP0 (d : Dev) (i : TxItem) : Dev × Nat × Nat :=
  match i.desc.body with
  | .p0 x => if !i.secure then (d, 2, 0) else if x.neighbour = 0xFFFF then secureGroup d else secureFor d x.neighbour
  | _ => (d, 2, 0)

/-- The frame of a P0 descriptor as it is sent, written into its buffer: its sequence number, and its security with the counter taken (R19, R195). -/
def storeP0 (d : Dev) (i : TxItem) (dest seq fc : Nat) : Dev :=
  let group := dest = 0xFFFF
  let level := slotN d 0x510001
  match i.desc.buf with
  | none => d
  | some g => updGranule d g (fun y => match y.body with
      | .mac f =>
        if i.secure then
          { y with body := .mac (securedFrame d f level fc (if group then some (groupIndex d) else none) seq (if group then groupKeyNow d else keyFor d dest)) }
        else { y with body := .mac (if group then f else { f with seq := some seq }) }
      | _ => y)

/-- A P0 frame selected: secured once, with the counter and key it keeps (R19, R195); none where securing failed. -/
def readyP0 (d : Dev) (i : TxItem) (dest seq : Nat) : Dev × Option TxItem :=
  let r := secureP0 d i
  if r.2.1 ≠ 2 then (r.1, none)
  else
    (storeP0 r.1 i dest seq r.2.2, some { i with seq := if dest = 0xFFFF then i.seq else some seq, secured := some (r.2.2, if i.secure then slotN d 0x510001 else 0) })

/-- The head of a transmit list made ready on its selection (R19, R20, R195, R204). -/
def readyHead (d : Dev) (short : Nat) : Dev :=
  match (txList d short).head? with
  | none => d
  | some i =>
    if i.secured.isSome || i.inQ33 then d
    else
      let s := match i.seq with | some q => (d, q) | none => takeSeq d short
      match i.desc.body with
      | .p0 _ =>
        match readyP0 s.1 i short s.2 with
        | (d1, some j) =>
          let d2 := setTxList d1 short (j :: (txList d1 short).tail)
          match nodeOf d2 short with
          | some n => if i.secure then updPennant d2 n.index (fun p => { p with txSecured := true }) else d2
          | none => d2
        | (d1, none) => abandonItem (popHead d1 short) short i .keyFail
      | _ =>
        let r := toSecurity s.1 i short s.2 false
        if r.2.2 then setTxList r.1 short (r.2.1 :: (txList r.1 short).tail)
        else abandonItem (popHead r.1 short) short r.2.1 .keyFail

/-- The head of a multicast or broadcast list made ready (R20, R177, R195, R359): the device and the list as they stand then. -/
def readyGroup (d : Dev) (l : List TxItem) : Dev × List TxItem :=
  match l with
  | [] => (d, l)
  | i :: t =>
    if i.secured.isSome || i.inQ33 then (d, l)
    else
      match i.desc.body with
      | .p0 _ =>
        match readyP0 d i 0xFFFF 0 with
        | (d1, some j) => (d1, j :: t)
        | (d1, none) => (abandonItem d1 0xFFFF i .keyFail, t)
      | _ =>
        let r := toSecurity d i 0xFFFF 0 true
        if r.2.2 then (r.1, r.2.1 :: t) else (abandonItem r.1 0xFFFF r.2.1 .keyFail, t)

/-- A multicast list set. -/
def setMcast (d : Dev) (g : Nat) (l : List TxItem) : Dev := { d with nbr := { d.nbr with mcast := putKey Prod.fst (g, l) d.nbr.mcast } }

/-- A timed frame selected takes its sequence number and is secured (R195, R224); one that cannot be returns KEY_FAIL. -/
def readyTimed (d : Dev) (i : TxItem) : Dev :=
  match i.desc.body with
  | .p0 y =>
    let s := if y.neighbour = 0xFFFF then (d, 0) else takeSeq d y.neighbour
    match readyP0 s.1 i y.neighbour s.2 with
    | (d1, some j) => { d1 with nbr := { d1.nbr with timed := d1.nbr.timed.map (fun k => if k.id = i.id then j else k) } }
    | (d1, none) => dropTimed d1 [i] 9
  | _ => d

/-- The chosen frame is made ready. -/
def readyTx (d : Dev) (b : Band) (x : TxPlan) : Dev :=
  match x.kind with
  | .frame s => readyHead d s
  | .mcast g => let r := readyGroup d (mcastList d g); setMcast r.1 g r.2
  | .bcast => let r := readyGroup d (bcastList d b); setBcast r.1 b r.2
  | .timed id => match d.nbr.timed.find? (fun i => i.id = id) with
    | some i => readyTimed d i
    | none => d
  | .keepalive s => match nodeOf d s with | some n => updPennant d n.index (fun q => { q with keepaliveDue := true }) | none => d
  | _ => d

/-- The active cells of the slot, of the bands that are in no span or burst, with their bands. -/
def slotCells (d : Dev) (a : Nat) : List (Band × Cell) :=
  [Band.sf, Band.g].flatMap (fun b => if inSpan d b a || inBurst d b a then [] else (activeCells d b a).map (fun c => (b, c)))

/-- The end of the latest span among the slot's cells that name a neighbour (R333). -/
def pinEnd (d : Dev) (a : Nat) (cells : List (Band × Cell)) (short : Nat) : Int :=
  t0Of d (a + ((cells.filter (fun c => c.2.neighbour = short)).map (fun c => c.2.span)).foldl Nat.max 0)

/-- Load requests for the keys that are not hot of the neighbours named in the slot's cells (R21 step 1, R333); the records asked for. -/
def requestKeys (d : Dev) (a : Nat) : Dev × List Nat :=
  let cells := slotCells d a
  let named := ((cells.map (fun c => c.2.neighbour)).filter (· ≠ 0xFFFF)).eraseDups
  (named.filterMap (nodeOf d)).foldl (fun x n =>
    if isHot x.1 n || n.pennant.isNone then x
    else (push' x.1 (pq 2) ⟨0x0D, 0, 0, none, .keyReq n.index 1 n.short (t0Of d a) (pinEnd d a cells n.short)⟩, x.2 ++ [n.short])) (d, [])

/-- Unpin requests for keys asked for whose cells were all deferred (R21 step 6, R333). -/
def unpinKeys (d : Dev) (a : Nat) (asked deferred : List Nat) : Dev :=
  ((asked.filter (fun s => deferred.contains s)).filterMap (nodeOf d)).foldl (fun x n =>
    push' x (pq 2) ⟨0x0D, 0, 0, none, .keyReq n.index 2 n.short (t0Of d a) 0⟩) d

/-- What a band prepares from the grants: its plan, the receive cells passed over, the timed frames deferred and those that did not prevail, and the
granted receive cells and transmissions whose neighbours are latched. -/
structure BandChoice where
  plan : BandPlan
  passed : Nat
  denied : List TxItem
  lost : List TxItem
  heard : List RxPlan
  sends : List TxPlan
  /-- Beacons refused while TX_INHIBIT is set (R115, R226). -/
  beacons : Nat := 0

/-- The choice of a band's activities from the grants (R102, R170, R233). -/
def bandPlan (d : Dev) (b : Band) (a : Nat) (cells : List Cell) (timed : List (Nat × TxItem × TxPlan)) (g : List Cand) : BandChoice :=
  let ok := cells.filter (fun c => wasGranted g (bandNum b) c.handle c.loc 0)
  let okTimed := timed.filter (fun y => wasGranted g (bandNum b) 63 63 y.1)
  let denied := (timed.filter (fun y => !wasGranted g (bandNum b) 63 63 y.1)).map (fun y => y.2.1)
  let txs := ok.filterMap (txFor d b a) ++ okTimed.map (fun y => y.2.2)
  let rxs := (ok.filter (hears d)).map (planRx d b a)
  let burst := wasGranted g (bandNum b) 0 0 1002
  let commanded := wasGranted g (bandNum b) 0 0 1001
  if burst then
    { plan := { cal := if commanded then (band d b).calWait else none, burst := true }, passed := (cells.filter Cell.rx).length
      denied := denied, lost := okTimed.map (fun y => y.2.1), heard := [], sends := [] }
  else
    let r := choose txs rxs
    let lost := okTimed.filter (fun y => match r.1 with | some x => x.kind ≠ y.2.2.kind | none => true)
    let cal : Option CalKind :=
      if commanded then (band d b).calWait
      else if r.1.isNone && r.2.1.isEmpty && wasGranted g 2 0 (bandNum b) 0 then some .temp else none
    { plan := { tx := r.1, rx := if commanded then [] else r.2.1, cal := cal }, passed := r.2.2
      denied := denied, lost := lost.map (fun y => y.2.1), heard := rxs, sends := txs
      beacons := if (band d b).inhibit && !groupRefused d && txAllowed d (t0Of d a) then (cells.filter (fun c => c.tx && c.adv)).length else 0 }

/-- The neighbours of granted cells latched for the slot, each with its carrier offset (R21 step 4, R107). -/
def latchSlot (d : Dev) (a : Nat) (l : List Nat) : Dev :=
  { d with sched := { d.sched with latched := lastN 256 (d.sched.latched ++ l.map (fun s => (a, s, (cfoOf d s).getD 0))) } }

/-- The neighbours of a band's choice, and the guards computed (R21 step 4, R213): each neighbour of a granted receive cell at that cell's expected
SFD, and the neighbour whose acknowledgement window is opened. -/
def latchBand (d : Dev) (b : Band) (a : Nat) (c : BandChoice) : Dev :=
  let cells := c.heard.map (fun r => (r.neighbour, r.spread))
    ++ (match c.plan.tx with | some x => if x.ackReq then [(x.neighbour, x.spread)] else [] | none => [])
  let d1 := latchSlot d a ((c.heard.filterMap RxPlan.neighbour ++ c.sends.filterMap TxPlan.neighbour).eraseDups)
  cells.foldl (fun y x => match x.1 with | some s => latchGuard (cellSfd d b a x.2) y s | none => y) d1

/-- A band's choice carried into the device: counts, returns, gain, guards, lanes, and the frame made ready. In the later slots of a span its lanes
and gain stay as they are (R167). -/
def settleBand (d : Dev) (b : Band) (a : Nat) (c : BandChoice) : Dev × BandPlan :=
  let t0 := t0Of d a
  let listened := if c.plan.cal.isSome then [] else match c.plan.tx with | some x => if x.ackReq then [ackRx d b x] else [] | none => c.plan.rx
  let d1 := dropTimed (dropTimed (preempt (countBy d (feKey b 0x17) c.beacons) b c.passed) c.denied 6) c.lost 7
  if inSpan d1 b a then (d1, c.plan)
  else
    let d2 := nearFar (updBand d1 b (fun s => { s with nextGain := chooseGain d1 b listened })) b (match c.plan.tx with | some _ => [] | none => c.plan.rx)
    let d3 := latchBand d2 b a c
    let bd := bindBand d3 b a t0 c.plan.tx.isSome listened
    let d4 := applyBinder d3 b t0 bd
    let d5 := match c.plan.tx with | some x => readyTx d4 b x | none => d4
    (d5, { c.plan with served := bd.served })

/-- The candidates of a band in a slot, and the count of those skipped: every cell inside a span, the receive cells inside a burst, and cells that
R245 or R395 keeps from being prepared (R167, R233). -/
def bandCells (d : Dev) (b : Band) (a : Nat) : List Cell × Nat :=
  let l := activeCells d b a
  if inSpan d b a then ([], l.length)
  else if inBurst d b a then ([], (l.filter Cell.rx).length)
  else (l.filter (fun c => usable d b c && !cellBad d c), (l.filter (fun c => !crossOk d c || cellBad d c)).length)

/-- Commands whose first slot of work was deferred or has begun (R438). -/
def noteCommands (d : Dev) (g : List Cand) (b : Band) : Dev :=
  let calKeys := [feKey b 0x11, maskKey b 7].filter (fun x => d.qdl.running.contains x)
  let d1 := if (band d b).calWait.isNone then d
    else if wasGranted g (bandNum b) 0 0 1001 then calKeys.foldl noteBegun d else calKeys.foldl noteDeferred d
  match d1.nbr.burst with
  | some x => if x.band ≠ b || x.begun.isSome then d1
    else if wasGranted g (bandNum b) 0 0 1002 then noteBegun d1 0x310021 else noteDeferred d1 0x310021
  | none => d1

/-- The running commands that task 6 serves: SCRUB_NOW, IMAGE_COMMIT, FW_WRITE (R437). -/
def taskSixKeys (d : Dev) : List Nat := [0x402005, 0x610004, 0x600002].filter (fun k => d.qdl.running.contains k)

/-- A command of task 6 whose first slot of work was deferred, or has come (R438). -/
def noteTaskSix (granted : Bool) (d : Dev) (key : Nat) : Dev :=
  if d.gov.begun.contains key then d
  else if granted then noteBegun { d with gov := { d.gov with begun := d.gov.begun ++ [key] } } key
  else noteDeferred d key

/-- The nodes dropped whose list is empty are freed (R390, R282). -/
def freeDropped (d : Dev) : Dev :=
  ((d.nbr.nodes.filter (fun n => n.state = .dropped && (txList d n.short).isEmpty)).map Node.eui).foldl removeNode d

/-- The multicast lists of aborted campaigns are emptied, each frame reported discarded (R417). -/
def emptyAborted (d : Dev) : Dev :=
  (upTo 8).foldl (fun x c =>
    if !(camp x c).dropList then x
    else
      let l := mcastList x (0xB000 + c)
      let isBlock (i : TxItem) : Bool := match i.desc.body with | .image .. => true | _ => false
      let x1 : Dev := { x with nbr := { x.nbr with mcast := putKey Prod.fst (0xB000 + c, l.filter (fun i => !isBlock i)) x.nbr.mcast } }
      (l.filter isBlock).foldl (fun y i => endItem y i .discarded 0) (updCamp x1 c (fun k => { k with dropList := false }))) d

/-- Descriptors that Q4 refused are returned again (R195). -/
def retryReturns (d : Dev) : Dev :=
  d.nbr.returns.foldl (fun x y =>
    let r := push x 4 y
    if r.2 then r.1 else { r.1 with nbr := { r.1.nbr with returns := r.1.nbr.returns ++ [y] } }) { d with nbr := { d.nbr with returns := [] } }

/-- ASN of the slot to prepare next: after the last prepared one, and not begun. -/
def nextSlot (d : Dev) : Nat :=
  let a := (asnAt d (tbNs d)).toNat + (if asnAt d (tbNs d) < 0 then 0 else 1)
  match d.sched.prepAsn with | some p => Nat.max (p + 1) a | none => a

/-- A task offered for a slot that starts at `t0`: granted or deferred (R557). -/
def noteTask (t0 : Int) (offered granted : List Cand) (d : Dev) (t : Nat) : Dev :=
  let key := (0x8220 + t) * 256
  if granted.any (fun c => c.part = 2 && c.task = t) then
    count { d with gov := { d.gov with taskAt := d.gov.taskAt.set t t0 } } (key + 2)
  else if offered.any (fun c => c.part = 2 && c.task = t) then count d (key + 3) else d

/-- The timed frames that a slot returns before its grants (R191, R195, R215): STOPPED where nothing may be sent or a Hoist holds them, REFUSED where
their slot has passed, the band prepares nothing, or their neighbour is sent nothing. -/
def returnTimed (d : Dev) (a : Nat) : Dev :=
  let mine (b : Band) : List TxItem := d.nbr.timed.filter (timedIn d b a)
  let gone := d.nbr.timed.filter (fun i => match i.desc.body with | .p0 x => decide (asnAt d x.when_ < (a : Int)) | _ => false)
  let here := mine .sf ++ mine .g
  let held := !txAllowed d (t0Of d a) || d.pwr.mode = .m9
  let shut := [Band.sf, .g].flatMap (fun b => if inSpan d b a || inBurst d b a then mine b else (mine b).filter (timedUnserved d))
  dropTimed (if held then dropTimed d here 8 else dropTimed d shut 7) gone 7

/-- The head frames past TX_HOLD_MAX of the neighbours of granted transmit cells are abandoned (R225). -/
def expireGranted (d : Dev) (g : List Cand) (part : Nat) (cells : List Cell) : Dev :=
  (((cells.filter (fun c => c.tx && wasGranted g part c.handle c.loc 0)).filterMap Cell.single).eraseDups).foldl
    (fun x s => expireHeads (txList x s).length x s) d

/-- The neighbours whose candidate cells were all deferred (R21 step 6). -/
def allDeferred (d : Dev) (a : Nat) (g : List Cand) (sf g_ : List Cell) : List Nat :=
  let cands := (sf.filter (fun c => (cellCand d .sf a c).isSome)).map (fun c => (0, c)) ++ (g_.filter (fun c => (cellCand d .g a c).isSome)).map (fun c => (1, c))
  ((cands.map (fun x => x.2.neighbour)).eraseDups).filter (fun s =>
    cands.all (fun x => x.2.neighbour ≠ s || !wasGranted g x.1 x.2.handle x.2.loc 0))

/-- A slot is prepared: its plan, and the state its bands are kept in until then (R97). -/
def slotReady (d : Dev) (p : SlotPlan) : Dev :=
  let d1 : Dev := { d with sched := { d.sched with prep := some p } }
  driveLna (chooseState (driveLna (chooseState d1 .sf) .sf) .g) .g

/-- The preparation of the slot with ASN `a` (R21), with the settings as they are now (R57). -/
def prepareSlot (d : Dev) (a : Nat) : Dev :=
  let d0 : Dev := { d with sched := { d.sched with prepAsn := some a, kept := [], keptNow := [] } }
  let d1 := followGovernor (emptyAborted (freeDropped (retryReturns (placeOnDie (switchDeltas d0 a)))))
  let k := requestKeys (returnTimed d1 a) a
  let d4 := k.1
  let sf := bandCells d4 .sf a
  let g_ := bandCells d4 .g a
  let tSf := timedOf d4 .sf a
  let tG := timedOf d4 .g a
  let cands := sf.1.filterMap (cellCand d4 .sf a) ++ g_.1.filterMap (cellCand d4 .g a)
    ++ tSf.map (fun y => txCand d4 .sf a 127 y.1 y.2.2) ++ tG.map (fun y => txCand d4 .g a 127 y.1 y.2.2)
    ++ commandCands d4 a .sf ++ commandCands d4 a .g ++ taskCands d4 a
  let gr := grants (passShared d4 (sf.1 ++ g_.1)) cands
  let d5 := (taskSixKeys gr.1).foldl (noteTaskSix (wasGranted gr.2 2 0 0 6)) (noteCommands (noteCommands (preempt (preempt gr.1 .sf sf.2) .g g_.2) gr.2 .sf) gr.2 .g)
  let d6 := expireGranted (expireGranted d5 gr.2 0 sf.1) gr.2 1 g_.1
  let pSf := settleBand d6 .sf a (bandPlan d6 .sf a sf.1 tSf gr.2)
  let pG := settleBand pSf.1 .g a (bandPlan pSf.1 .g a g_.1 tG gr.2)
  let d7 := (upTo 7).foldl (noteTask (t0Of pG.1 a) cands gr.2) (unpinKeys pG.1 a k.2 (allDeferred d4 a gr.2 sf.1 g_.1))
  let tasks := (gr.2.filter (fun c => c.part = 2)).map (fun c => c.task)
  slotReady { d7 with sched := { d7.sched with keptNow := d.sched.keptNow ++ d.sched.kept } }
    { asn := a, t0 := t0Of d7 a, sf := pSf.2, g := pG.2, tasks := tasks }

/-- The sequencer prepares the next slot, from T0 − 900 µs on (R21, R171); one slot is prepared at a time. -/
def slotPreparation (d : Dev) : Dev :=
  if !preparesSlots d || slotsHeld d || d.sched.prep.isSome then d
  else
    let d1 := switchPassed (radioDue d)
    let a := nextSlot d1
    prepareSlot (comeTo d1 (t0Of d1 a - 900000)) a

/-- SLOT_PREPARATION (R21). -/
def execSlotPreparation (s : State) : Host.Outcome State Fault Refusal := onDevSettled s slotPreparation

end Sys2Proof.Machine
end

