-- ==== Sys2Proof/Machine/Radio.lean ====
section
/-!
DEFINITION. Radio front ends (R90-R120): calibration and the commands of the mask monitor.
-/
namespace Sys2Proof.Machine

/-- A calibration that waits while the band's next slot is prepared starts at that T0, if the governor grants it as a candidate of class 0; the slot's
receive cells are then not listened in (R102, R435, R438). -/
def calIntoSlot (d : Dev) (b : Band) : Dev :=
  match d.sched.prep with
  | some s =>
    if !preparesSlots d || (band d b).calWait.isNone || (band d b).cal.isSome || inBurst d b s.asn then d
    else
      let g := grants d [calCand d s.asn b]
      let d1 := noteCommands g.1 g.2 b
      if !wasGranted g.2 (bandNum b) 0 0 1001 then d1
      else
        let p := s.part b
        { d1 with sched := { d1.sched with prep := some (s.setPart b { p with rx := [], cal := (band d b).calWait }) } }
  | none => d

/-- A calibration asked for by a command or the mask monitor (R102, R115). -/
def askCal (d : Dev) (b : Band) (k : CalKind) : Dev := calIntoSlot (requestCal d b k) b

/-- The command CALIBRATE (R102); the manager's front ends are off (R26). -/
def calibrateCore (p : Perm) (b : Band) : Core := fun arg d =>
  if !argLen arg 0 then answer d .malformed
  else if p.manager then answer d .wrongMode
  else answer (askCal (accept d (feKey b 0x11)) b .commanded) .ok

/-- CALIBRATE (R102). -/
def execCalibrate (r : Req) (band : Band) (arg : List Byte) (s : State) : Host.Outcome State Fault Refusal :=
  onDev s (serveExec r (feKey band 0x11) arg (calibrateCore s.perm band))

/-- The command CLEAR_INHIBIT (R119): a calibration under R102, then TX_INHIBIT clears. -/
def clearInhibitCore (p : Perm) (b : Band) : Core := fun arg d =>
  if !argLen arg 0 then answer d .malformed
  else if p.manager then answer d .wrongMode
  else answer (askCal (accept d (maskKey b 7)) b .clear) .ok

/-- CLEAR_INHIBIT (R119). -/
def execClearInhibit (r : Req) (band : Band) (arg : List Byte) (s : State) : Host.Outcome State Fault Refusal :=
  onDev s (serveExec r (maskKey band 7) arg (clearInhibitCore s.perm band))

/-- The state a band returns to after a calibration (R97, R459): while slots are prepared as its work has it, STANDBY in M7, else off. -/
def afterCal (d : Dev) (b : Band) : Dev :=
  if preparesSlots d then chooseState (unblank (setRadio d b .ready) b) b
  else if d.pwr.mode.running && d.pwr.baseFull then unblank (setRadio d b .standby) b
  else bandOff d b

/-- TX_INHIBIT clears and event 29 is raised (R115, R119). -/
def resumeTx (d : Dev) (b : Band) : Dev :=
  raise (updBand d b (fun x => { x with inhibit := false, resumedAt := some d.clk.up })) 29 (bandNum b)

/-- A calibration completes (R94, R99, R115): temperature and time recorded, CAL_PENDING clear, event 24, event 31 below 45 dB,
a recovery or CLEAR_INHIBIT ends the inhibition. -/
def calDone (b : Band) (rej : Int) (d : Dev) : Dev :=
  match (band d b).cal with
  | none => d
  | some k =>
    let keys := (band d b).calKeys
    let waits := (band d b).calWait
    let data := bandNum b * 65536 + (rej % 65536).toNat
    let d1 := updBand d b (fun x =>
      { x with cal := none, calKeys := [], calPending := none, lastTemp := bandTemp d b, lastTime := tbNs d, imageRej := rej })
    let d2 := raise (afterCal d1 b) 24 data
    let d3 := if rej < 450 then raise d2 31 data else d2
    let d4 := if k = .mask ∨ k = .clear then resumeTx d3 b else d3
    let d5 := keys.foldl finish d4
    match waits with
    | some w => if preparesSlots d5 then updBand d5 b (fun x => { x with calWait := some w }) else startCal d5 b w
    | none => d5

/-- CAL_DONE (R99). -/
def execCalDone (band : Band) (imageRej : Int) (s : State) : Host.Outcome State Fault Refusal :=
  onDevSettled s (calDone band imageRej)

/-- CAL_PENDING has been set for 60 s: event 25 once, and the wait goes on (R101). -/
def calAbandoned (b : Band) (d : Dev) : Dev :=
  match (band d b).calPending with
  | some (t, false) =>
    let d1 := reach d (t + sec 60)
    raise (updBand d1 b (fun x => { x with calPending := some (t, true) })) 25 (256 + bandNum b)
  | _ => d

/-- CAL_ABANDONED (R101). -/
def execCalAbandoned (band : Band) (s : State) : Host.Outcome State Fault Refusal := onDev s (calAbandoned band)

end Sys2Proof.Machine
end

