-- ==== Sys2Proof/Machine/Slots.lean ====
section
/-!
DEFINITION. A slot as it runs (R83, R98-R116, R171-R177, R195, R210, R217, R226, R233): its start, windows, transmissions, their
ends and refusals, and the commands that the governor deferred for too long.
-/
namespace Sys2Proof.Machine

/-! ## The start of a slot (R83, R111, R126, R611) -/

/-- A lane takes its binding at T0 unless a preamble or frame holds it, which takes it at its next rest (R611); a blanked one stays BLANKED. -/
def laneAtT0 (d : Dev) (n : Nat) : Dev :=
  updLane d n (fun l => match l.state with
    | .quarantined => l
    | .recover => l
    | .preamble => l
    | .header => l
    | .payload => l
    | .commit => l
    | .blanked => let m := takeNext d n l; if m.state = .idle then { m with state := .blanked } else m
    | _ => takeNext d n l)

/-- The gain index changes at T0 (R111): frames in progress note the step. -/
def stepGain (d : Dev) (b : Band) : Dev :=
  match (band d b).nextGain with
  | none => d
  | some g =>
    let changed := (band d b).gain ≠ g
    let d1 := updBand d b (fun s => { s with gain := g, nextGain := none })
    if !changed then d1
    else (bandLanes b).foldl (fun x n => updLane x n (fun l =>
      if l.state = .payload then { l with frame := l.frame.map (fun f => { f with gainStep := true }) } else l)) d1

/-- The windows and transmissions that a slot's part begins enter the sequencer's view; what is long past leaves it. -/
def noteSlot (d : Dev) (b : Band) (a : Nat) (p : BandPlan) : Dev :=
  let spans := (match p.tx with | some x => if 1 < x.span then [SpanNow.mk b (a + x.span - 1)] else [] | none => [])
    ++ (p.rx.filter (fun r => 1 < r.span)).map (fun r => SpanNow.mk b (a + r.span - 1))
  { d with sched := { d.sched with
      spans := d.sched.spans ++ spans, cellLanes := d.sched.cellLanes ++ p.served, past := d.sched.past ++ p.rx.map (fun r => (a, b, r)) } }

/-- One band's part of a slot begins: the gain steps, the lanes take their bindings, a granted calibration starts (R99, R102, R111, R611). -/
def startBand (d : Dev) (b : Band) (a : Nat) (p : BandPlan) : Dev :=
  let d1 := noteSlot ((bandLanes b).foldl laneAtT0 (stepGain d b)) b a p
  match p.cal with
  | some k => if (band d1 b).cal.isSome then d1 else
      let d2 := startCal d1 b k
      if k = .temp then d2 else updBand d2 b (fun x => { x with calSlot := some a })
  | none => d1

/-- A granted burst starts at T0, unless the band refuses transmission (R102, R104, R115, R233). -/
def burstAtT0 (d : Dev) (b : Band) (a : Nat) (p : BandPlan) : Dev :=
  match d.nbr.burst with
  | some x =>
    if !p.burst || x.band ≠ b || x.begun.isSome then d
    else if refuses d b || slotsHeld d then refuseBurst d x
    else
      let n := ceilDiv (x.duration * 1000000) (Nat.max 1 d.sched.ver.tmpl.slotLen)
      startBurst (abandonCal { d with nbr := { d.nbr with burst := some { x with begun := some (a, n) } } } b) x
  | none => d

/-- A prepared transmission that the slot no longer allows is dropped: a timed frame returns STOPPED (R195, R374, R387). -/
def dropDenied (d : Dev) (p : BandPlan) : Dev :=
  match p.tx with
  | some x => match x.kind with
    | .timed id => dropTimed d (d.nbr.timed.filter (fun i => i.id = id)) 8
    | _ => d
  | none => d

/-- What lies at least eighty slots back is no longer needed. -/
def forget (d : Dev) (a : Nat) : Dev :=
  { d with sched := { d.sched with
      past := d.sched.past.filter (fun c => a ≤ c.1 + 80), windows := d.sched.windows.filter (fun w => a ≤ w.asn + 80)
      cellLanes := d.sched.cellLanes.filter (fun c => a ≤ c.asn + 80), spans := d.sched.spans.filter (fun x => a ≤ x.last) } }

/-- SLOT_START: the time base reaches T0 of the prepared slot (R83). -/
def slotStart (d : Dev) : Dev :=
  match d.sched.prep with
  | none => d
  | some s =>
    let d0 := comeTo d s.t0
    let allowed := txAllowed d0 s.t0
    let d1 := if allowed then d0 else dropDenied (dropDenied (cutOff d0) s.sf) s.g
    let sf : BandPlan := if allowed then s.sf else { s.sf with tx := none, burst := false }
    let g : BandPlan := if allowed then s.g else { s.g with tx := none, burst := false }
    let d2 := forget { d1 with sched := { d1.sched with prep := none, asn := s.asn, now := some { s with sf := sf, g := g }, keptNow := [] } } s.asn
    radioDue (burstAtT0 (burstAtT0 (startBand (startBand d2 .sf s.asn sf) .g s.asn g) .sf s.asn sf) .g s.asn g)

/-- SLOT_START (R83). -/
def execSlotStart (s : State) : Host.Outcome State Fault Refusal := onDevSettled s slotStart

/-! ## Transmissions (R102-R108, R112) -/

/-- A pre-offset held to ±60.00 ppm (R108). -/
def clampOffset (d : Dev) (b : Band) (p : Int) (short : Nat) : Dev × Int :=
  let q := clampInt (-6000) 6000 p
  if q = p then (d, p) else (raise (count d (feKey b 0x19)) 30 short, q)

/-- What a band's front end says of a transmission requested of it (R102-R105, R115). -/
inductive Ready where
  | go (start : Int)
  | busy
  | late
  deriving DecidableEq, Repr

/-- A transmission is requested of a band (R102-R105): `lock` is when the synthesiser is locked, in ns after the nominal instant. A
temperature calibration is abandoned; where the transmission then fails, the band is locked and its lanes come back. The request is made 40 µs
before the nominal instant, when the first of R116's outputs would change. -/
def request (d : Dev) (b : Band) (nominal lock : Int) : Dev × Ready :=
  let d1 := comeTo d (nominal - 40000)
  if refuses d1 b then (count d1 (feKey b 0x17), .busy)
  else
    let d2 := abandonCal d1 b
    let off := if lock + 30000 < 0 then 0 else lock + 30000
    let start := if nominal + off < tbNs d1 then tbNs d1 else nominal + off
    if nominal + 60000 < start then
      let d3 := raiseRate (count d2 (feKey b 0x16)) 26 (bandNum b) 1 (sec 1) id
      (if (band d1 b).cal.isSome then chooseState (unblank (setRadio d3 b .ready) b) b else d3, .late)
    else (d2, .go start)

/-- A frame leaves the ball at `start`, which is TX0 (R98, R106, R113, R114, R116): the lanes are blanked and LNA_EN falls 40 µs before it in RX and 30 µs
in READY, or at the latest 1 µs before PA_EN rises, PA_LEAD before it; the rescue windows of the band are over (R176). -/
def onAir (d : Dev) (b : Band) (channel spread : Nat) (power p margin start : Int) (t : TxNow) (f : MacFrame) : Dev :=
  let lead := slotNum d (feKey b 0x0D)
  let fall := if (band d b).state = .rx then 40000 else 30000
  let d1 := blank (comeTo d (start - (if fall < lead + 1000 then lead + 1000 else fall))) b
  let d2 := setPa (reachTb (setRadio (shutWindows d1 b Window.rescue) b .tx) (start - lead)) b true
  let d3 := updBand (reachTb d2 start) b (fun s =>
    { s with tx := some t, paFall := none, unblankAt := none, fir := some (octets d (maskKey b 1))
             txChannel := some channel, preoffset := p, synWord := synWord (centreHz d b channel) p, margin := margin })
  emit d3 (.air b (start + (shrNs b spread : Int)) channel spread power f)

/-- The frame in an item's buffer, secured when it was selected (R19), with its sequence number. -/
def frameOf (d : Dev) (i : TxItem) (dest : Nat) : MacFrame :=
  let f := (macOf d i.desc.buf).getD (dataFrame (.short dest) i.ackReq .empty)
  { f with seq := match i.seq with | some q => some q | none => f.seq, ackReq := i.ackReq }

/-- The slotframes of a band that hold ADV cells, with those cells (R159; log 135). -/
def advFrames (d : Dev) (b : Band) : List (Nat × Nat × List (Nat × Nat × Nat)) :=
  let v := d.sched.ver
  ((v.frames.filter (fun f => f.band = b)).map (fun f =>
    (f.handle, f.size, (v.cells.filter (fun c => c.handle = f.handle && c.adv)).map (fun c => (c.slotOffset, c.chOffset, c.options))))).filter (fun f => !f.2.2.isEmpty)

/-- The IEs of the device's beacon (R159, R226). -/
def beaconIes (d : Dev) (b : Band) : BeaconIes :=
  let t := d.sched.ver.tmpl
  { asn := d.sched.asn, joinMetric := 0, ccaOffset := 0, cca := 0, txOffset := t.txOffset, ackDelay := t.ackDelay, ackGuard := t.ackGuard
    slotLen := t.slotLen, hop := d.sched.ver.hop d b, frames := advFrames d b }

/-- The device's beacon (R226, R227, R359): broadcast, from 0x0000, secured at BEACON_LEVEL. -/
def beaconFrame (p : Perm) (d : Dev) (b : Band) (fc : Nat) : MacFrame :=
  let f : MacFrame := { dataFrame (.short 0xFFFF) false .empty with
    ftype := .beacon, tsch := some (beaconIes d b)
    district := some { oui := octets d 0x310022, district := d.hier.district, epoch := d.sched.epoch, worker := p.workerId, joinOpen := joinsOpen p d
                       rescue := bandRescue d b, autonomous := d.hier.st = .autonomous } }
  securedFrame d f (slotN d 0x510002) fc (some (groupIndex d)) 0 (groupKeyNow d)

/-- A planned frame as a transmission that begins at `start`. -/
def txNow (b : Band) (x : TxPlan) (dest : Option Nat) (start : Int) : TxNow :=
  { channel := x.channel, dest := dest, isAck := false, fin := start + (airNs b x.spread x.len : Int), after := .nothing }

/-- The wait for an acknowledgement, and its window as a receive cell (R170, R173): `item` is the head frame it is for. -/
def awaitAck (d : Dev) (b : Band) (x : TxPlan) (short seq : Nat) (secured : Bool) (item : Option Nat) (start : Int) : Dev :=
  let r := ackRxAt d b x start
  let w : AckWait := { band := b, kind := x.kind, short := short, seq := seq, secured := secured, opens := r.opens, close := r.closes
                       handle := x.handle, loc := x.loc, asn := d.sched.asn, item := item
                       stamp := start, shared := x.options.testBit 2, timekeeping := x.options.testBit 3 }
  { d with nbr := { d.nbr with awaits := d.nbr.awaits ++ [w] }, sched := { d.sched with past := d.sched.past ++ [(d.sched.asn, b, r)] } }

/-- A frame without an acknowledgement request is on the air: it is done when its transmission ends (R225). -/
def noteEnding (d : Dev) (b : Band) (i : TxItem) (start : Int) : Dev := { d with nbr := { d.nbr with ending := d.nbr.ending ++ [(b, i, start)] } }

/-- The transmission planned on a band, once it has begun, is no longer planned. -/
def dropPlan (d : Dev) (b : Band) : Dev :=
  { d with sched := { d.sched with now := d.sched.now.map (fun s => s.setPart b { s.part b with tx := none }) } }

/-- A timed frame that never left returns with its outcome (R195). -/
def failTimed (d : Dev) (x : TxPlan) (dstat : Nat) : Dev :=
  match x.kind with
  | .timed id => dropTimed d (d.nbr.timed.filter (fun i => i.id = id)) dstat
  | _ => d

/-- The head frame of a neighbour sent (R224): its attempt begins. -/
def sendHead (d : Dev) (b : Band) (x : TxPlan) (short : Nat) (p margin start : Int) (i : TxItem) : Dev :=
  let d1 := onAir d b x.channel x.spread x.power p margin start (txNow b x (some short) start) (frameOf d i short)
  if i.ackReq then awaitAck d1 b x short (i.seq.getD 0) i.secure (some i.id) start
  else noteEnding (popHead d1 short) b i start

/-- A multicast or broadcast frame sent (R177, R195). -/
def sendGroup (d : Dev) (b : Band) (x : TxPlan) (margin start : Int) (i : TxItem) : Dev :=
  noteEnding (onAir d b x.channel x.spread x.power 0 margin start (txNow b x (some 0xFFFF) start) (frameOf d i 0xFFFF)) b i start

/-- A keepalive secured and sent (R217); it is not retried. -/
def sendKeepalive (d : Dev) (b : Band) (x : TxPlan) (short : Nat) (p margin start : Int) : Dev :=
  let s := takeSeq d short
  let r := secureFor s.1 short
  if r.2.1 ≠ 2 then r.1
  else
    let f := securedFrame d (dataFrame (.short short) true .empty) (slotN d 0x510001) r.2.2 none s.2 (keyFor d short)
    let d1 := onAir r.1 b x.channel x.spread x.power p margin start (txNow b x (some short) start) f
    let d2 := match nodeOf d1 short with | some n => updPennant d1 n.index (fun q => { q with keepaliveDue := false }) | none => d1
    awaitAck (count d2 0x31001A) b x short s.2 true none start

/-- A timed frame sent (R195), secured when it was selected. -/
def sendTimed (d : Dev) (b : Band) (x : TxPlan) (id : Nat) (p margin start : Int) : Dev :=
  match d.nbr.timed.find? (fun i => i.id = id && i.secured.isSome) with
  | none => d
  | some i =>
    match i.desc.body with
    | .p0 y =>
      let d1 := onAir d b x.channel x.spread x.power p margin start (txNow b x (some y.neighbour) start) (frameOf d i y.neighbour)
      if y.ackReq then awaitAck d1 b x y.neighbour (i.seq.getD 0) i.secure none start
      else noteEnding { d1 with nbr := { d1.nbr with timed := d1.nbr.timed.filter (fun k => k.id ≠ id) } } b i start
    | _ => d

/-- The sequencer finds the secured buffer of a frame poisoned: it is not sent, leaves its list, and is recorded (R246). -/
def spoilItem (d : Dev) (short : Nat) (i : TxItem) : Dev :=
  abandonItem (errBy d 2 5 0 0x11 i.desc.buf (i.desc.buf.map granuleAddr) i.desc.dtype 0 1) short i .refused

/-- A planned transmission that the front end takes: what is sent at `start` (R173, R177, R195, R217, R226). A frame that frame security has not
returned leaves its cell unused (R20), and so does one whose buffer is poisoned (R246). -/
def sendPlanned (p : Perm) (d : Dev) (b : Band) (x : TxPlan) (margin start : Int) : Dev :=
  let c := clampOffset d b x.preoffset (x.neighbour.getD 0xFFFF)
  match x.kind with
  | .beacon =>
    let r := secureGroup d
    if r.2.1 ≠ 2 then r.1
    else onAir r.1 b x.channel x.spread x.power 0 margin start (txNow b x none start) (beaconFrame p d b r.2.2)
  | .frame short =>
    match (txList d short).head? with
    | some i => if i.secured.isNone then d else if poisoned d i.desc.buf then spoilItem (popHead d short) short i else sendHead c.1 b x short c.2 margin start i
    | none => d
  | .keepalive short => sendKeepalive c.1 b x short c.2 margin start
  | .mcast g =>
    match (mcastList d g).head? with
    | some i =>
      let d1 := setMcast d g (mcastList d g).tail
      if i.secured.isNone then d else if poisoned d i.desc.buf then spoilItem d1 0xFFFF i else sendGroup d1 b x margin start i
    | none => d
  | .bcast =>
    match (bcastList d b).head? with
    | some i =>
      let d1 := setBcast d b (bcastList d b).tail
      if i.secured.isNone then d else if poisoned d i.desc.buf then spoilItem d1 0xFFFF i else sendGroup d1 b x margin start i
    | none => d
  | .timed id =>
    match d.nbr.timed.find? (fun i => i.id = id && poisoned d i.desc.buf) with
    | some i => dropTimed (errBy d 2 5 0 0x11 i.desc.buf (i.desc.buf.map granuleAddr) i.desc.dtype 0 1) [i] 7
    | none => sendTimed c.1 b x id c.2 margin start
  | .burst => d

/-- CELL_TRANSMIT: the nominal instant of a band's transmission comes (R102-R104, R173). -/
def cellTransmit (p : Perm) (b : Band) (lock margin : Int) (d : Dev) : Dev :=
  match d.sched.now.bind (fun s => (s.part b).tx) with
  | none => d
  | some x =>
    let r := request (dropPlan d b) b x.nominal lock
    match r.2 with
    | .busy => radioDue (failTimed r.1 x 5)
    | .late => radioDue (failTimed r.1 x 4)
    | .go start => radioDue (sendPlanned p r.1 b x margin start)

/-- CELL_TRANSMIT (R173). -/
def execCellTransmit (band : Band) (lock margin : Int) (s : State) : Host.Outcome State Fault Refusal :=
  onDev s (fun d => if sequencerOn d then cellTransmit s.perm band lock margin d else d)

/-- The acknowledgement's frame (R210). -/
def ackFrame (d : Dev) (a : AckPlan) (fc : Nat) (key : Key) : MacFrame :=
  let f : MacFrame := { dataFrame a.dest false .empty with ftype := .ack, src := .none, seq := a.seq, tc := some (a.tc, false) }
  if a.secured then securedFrame d f a.level fc none (a.seq.getD 0) key else f

/-- Length of that frame (R210). -/
def ackFrameLen (a : AckPlan) : Nat := (match a.dest with | .short _ => 11 | _ => 9) + (if a.secured then 5 + micLen a.level else 0)

/-- What the whole of an acknowledgement brings about (R211, R230). -/
def ackAfter (a : AckPlan) : TxAfter :=
  match a.join with
  | some u => .joined u a.sfd a.err
  | none => if a.short = 0xFFFF then .nothing else .sync a.short a.sfd a.err a.drift

/-- ACK_TRANSMIT: the acknowledgement offset of an accepted or repeated frame comes (R172, R210, R211, R222); one that cannot be sent or secured
leaves outcome 5 (R218, R358). -/
def ackTransmit (b : Band) (lock margin : Int) (d : Dev) : Dev :=
  match d.nbr.acks.find? (fun a => a.band = b) with
  | none => d
  | some a =>
    let d0 : Dev := { d with nbr := { d.nbr with acks := d.nbr.acks.erase a } }
    let r := request d0 b a.nominal lock
    match r.2 with
    | .busy => radioDue (ackFailed r.1 b a.sfd a.buf)
    | .late => radioDue (ackFailed r.1 b a.sfd a.buf)
    | .go start =>
      let s := if a.secured then secureFor r.1 a.short else (r.1, 2, 0)
      if s.2.1 ≠ 2 then radioDue (ackFailed s.1 b a.sfd a.buf)
      else
        let c := clampOffset s.1 b a.preoffset a.short
        radioDue (onAir c.1 b a.channel a.spread a.power c.2 margin start
          { channel := a.channel, dest := some a.short, isAck := true, ofBuf := a.buf, fin := start + (airNs b a.spread (ackFrameLen a) : Int), after := ackAfter a }
          (ackFrame s.1 a s.2.2 (keyFor s.1 a.short)))

/-- ACK_TRANSMIT (R172). -/
def execAckTransmit (band : Band) (lock margin : Int) (s : State) : Host.Outcome State Fault Refusal :=
  onDev s (fun d => if sequencerOn d then ackTransmit band lock margin d else d)

/-- ACK_WINDOW_CLOSE: with no acknowledgement acquired, the attempt counts as unacknowledged; while a lane holds a preamble or a frame, or its
descriptor is on its way, that decides (R133, R173, R224). -/
def ackWindowClose (b : Band) (d : Dev) : Dev :=
  match d.nbr.awaits.find? (fun w => w.band = b) with
  | none => d
  | some w => comeTo d w.close

/-- ACK_WINDOW_CLOSE (R173). -/
def execAckWindowClose (band : Band) (s : State) : Host.Outcome State Fault Refusal :=
  onDev s (fun d => if sequencerOn d then ackWindowClose band d else d)

/-! ## The mask monitor (R115) -/

/-- A frame of a transmit list, whose transmission is an attempt (R224); a timed frame's is none. -/
def fromList (i : TxItem) : Bool := match i.desc.body with | .p0 y => y.when_ = 0 | _ => true

/-- What was on the air counts as an attempt without acknowledgement, an acknowledgement as not sent (R115, R218, R225). -/
def failOnAir (d : Dev) (b : Band) (t : TxNow) : Dev :=
  if t.isAck then ackCut d b t
  else
    let d1 := (d.nbr.awaits.filter (fun w => w.band = b)).foldl (fun x w => attemptFailed (dropAwait x w) w) d
    let cut := d1.nbr.ending.filter (fun x => x.1 = b)
    let d2 : Dev := { d1 with nbr := { d1.nbr with ending := d1.nbr.ending.filter (fun x => x.1 ≠ b) } }
    cut.foldl (fun x y => endItem (if t.dest ≠ some 0xFFFF && fromList y.2.1 then count x 0x310018 else x) y.2.1 .notAcked y.2.2) d2

/-- MASK_VIOLATION: the transmission ends, TX_INHIBIT is set, and recovery is scheduled or left to CLEAR_INHIBIT (R115, R119). -/
def maskViolation (b : Band) (d : Dev) : Dev :=
  match (band d b).tx with
  | none => d
  | some t =>
    let d1 := failOnAir (cutShort (count d (maskKey b 8)) b) b t
    let d2 := raise (updBand d1 b (fun s => { s with inhibit := true })) 27 (bandNum b * 0x10000 + t.channel)
    let d3 := match d2.nbr.burst with
      | some x => if x.band = b && x.begun.isSome then endBurst d2 x 1 else d2
      | none => d2
    let again := match (band d b).resumedAt with | some r => decide (since d r < sec 60) | none => false
    if slotFlag d3 (maskKey b 5) && !again then askCal d3 b .mask else raise d3 28 (bandNum b)

/-- MASK_VIOLATION (R115). -/
def execMaskViolation (band : Band) (s : State) : Host.Outcome State Fault Refusal := onDev s (maskViolation band)

/-! ## Commands deferred for too long (R438) -/

/-- A command accepted with MODE 1 whose work has been deferred for CMD_DEFER_MAX completes with BUDGET_DENIED, told by its event
(R438; DATA of events 24, 65, 100 and 104 there is free, log 17). -/
def cmdDeferMax (key : Nat) (d : Dev) : Dev :=
  match d.gov.deferred.find? (fun x => x.1 = key) with
  | none => d
  | some (_, t) =>
    let d1 := noteBegun (reach d (t + sec (numN d 0x11001D))) key
    if key = 0x310021 then
      match d1.nbr.burst with | some x => endBurst d1 x 3 | none => finish d1 key
    else
      let b : Band := if key / 256 = 0x2100 ∨ key / 256 = 0x2310 then .g else .sf
      let x : Dev × Nat :=
        if key = 0x402005 then ({ d1 with store := { d1.store with scrubNow := false } }, 65)
        else if key = 0x610004 then ({ d1 with bunting := { d1.bunting with committing := none } }, 104)
        else if key = 0x600002 then (stopWriting d1, 100)
        else (updBand d1 b (fun s => { s with calWait := if s.calWait = some (if key % 256 = 7 then .clear else .commanded) then none else s.calWait }), 24)
      finish (raise x.1 x.2 (Config.deniedData key)) key

/-- CMD_DEFER_MAX (R438). -/
def execCmdDeferMax (key : Nat) (s : State) : Host.Outcome State Fault Refusal := onDev s (cmdDeferMax key)

end Sys2Proof.Machine
end

