-- ==== Sys2Proof/Machine/Hierarchy.lean ====
section
/-!
DEFINITION. The hierarchy as a worker or spare sees it (R366-R396): links, leases, autonomy, witnesses, taking over a district,
replication, and join claims.
-/
namespace Sys2Proof.Machine

/-! ## Hierarchy states (R375) -/

/-- HIER_STATE as a number (R375). -/
def hierNum : HierSt → Nat
  | .unlinked => 0 | .leased => 1 | .autonomous => 2 | .expired => 3 | .fenced => 4 | .autonomyEnded => 5 | .standby => 6 | .takingOver => 7

/-- SCHED_STATE as a number (R192). -/
def schedNum : SchedSt → Nat
  | .none => 0 | .running => 1 | .autonomous => 2 | .stopped => 3

/-- SCHED_STATE and STOP_CAUSE that follow from a hierarchy state (R192, R375). -/
def schedOf : HierSt → SchedSt × Nat
  | .unlinked => (.none, 0) | .standby => (.none, 0) | .takingOver => (.running, 0) | .leased => (.running, 0)
  | .autonomous => (.autonomous, 0) | .expired => (.stopped, 1) | .fenced => (.stopped, 2) | .autonomyEnded => (.stopped, 3)

/-- A hierarchy state entered: SCHED_STATE follows; events 46 and 47 (R192, R375). -/
def setHier (d : Dev) (st : HierSt) : Dev :=
  if d.hier.st = st then d
  else
    let was := d.sched.st
    let now_ := schedOf st
    let d1 : Dev := { d with
      hier := { d.hier with st := st, leased := d.hier.leased || st = .leased, probe := none }
      sched := if now_.1 = .none then { d.sched with st := .none, stopCause := 0, prep := none, now := none }
               else { d.sched with st := now_.1, stopCause := now_.2, prepAsn := if was = .none then none else d.sched.prepAsn } }
    let d2 := if was = .autonomous ∧ now_.1 ≠ .autonomous then raise d1 47 0 else d1
    let d3 := if now_.1 = .autonomous ∧ was ≠ .autonomous then raise d2 47 1 else d2
    let d4 := if now_.1 = .stopped ∧ was ≠ .stopped then raise d3 46 now_.2 else d3
    if now_.1 = .none && d.pwr.mode.running then modeBands d4 else d4

/-- The worker serves a district (R386). -/
def serves (d : Dev) : Bool :=
  match d.hier.st with | .leased => true | .autonomous => true | .expired => true | .autonomyEnded => true | _ => false

/-- ID of the device on the hierarchy: 0 the manager (R368). -/
def Perm.hierId (p : Perm) : Nat := if p.manager then 0 else p.workerId

/-! ## Links (R368, R369) -/

/-- Keys of the manager's record of device `w` (R398). -/
def wKey (w sub : Nat) : Nat := (0x7020 + w) * 256 + sub

/-- A device is provisioned on the manager: its W_PUBKEY is not all zero (R398). -/
def wProvisioned (d : Dev) (w : Nat) : Bool := 1 ≤ w && w ≤ 159 && (octets d (wKey w 2)).any (· ≠ 0)

/-- The identity key by which a device is known (R368), as a number; 0 where none is held. -/
def peerPub (p : Perm) (d : Dev) (peer : Nat) : Nat :=
  if p.manager then (if wProvisioned d peer then beNat (octets d (wKey peer 2)) else 0)
  else if peer = 0 then beNat (octets d 0x700002)
  else match d.hier.peers.find? (fun x => x.id = peer) with | some x => x.pub | none => 0

/-- A signature of a device is accepted (R368): the key under which it verifies is the one by which that device is known. -/
def openAccepted (p : Perm) (d : Dev) (opener pub : Nat) : Bool := pub ≠ 0 && pub = peerPub p d opener

/-- What arrives at a UDP port is for the hierarchy link (R368, R396). -/
def hlArrives (d : Dev) (port : Nat) : Bool := qdlServed d && port = d.hier.port

/-- The links without that to a device. -/
def dropLink (d : Dev) (peer : Nat) : Dev :=
  { d with hier := { d.hier with links := d.hier.links.filter (fun l => l.peer ≠ peer) } }

/-- An OPEN sent to a device (R368). -/
def sendOpen (p : Perm) (d : Dev) (peer : Nat) : Dev :=
  let n := Config.nonce d.free
  emit (drawn { d with hier := { d.hier with opening := d.hier.opening.filter (fun o => o.1 ≠ peer) ++ [(peer, n, d.clk.up)] } })
    (.hl peer (.openMsg n p.hierId true))

/-- The peers the manager names to a device: the lowest eight IDs marked in its W_NEIGHBOURS (R392). -/
def marked (d : Dev) (w : Nat) : List Nat :=
  (upTo 160).filter (fun v => 1 ≤ v && v ≠ w && ((octets d (wKey w 4)).getD (v / 8) 0).toNat.testBit (v % 8))

/-- PEERS of a device (R370, R392). -/
def peersFor (d : Dev) (w : Nat) : HlMsg :=
  .peers (((marked d w).take 8).map (fun v => ⟨v, beNat (octets d (wKey v 3)), beNat (octets d (wKey v 2))⟩))

/-- The record the manager holds of a device. -/
def wRec (d : Dev) (w : Nat) : WRec := (findKey WRec.id w d.hier.ws).getD { id := w }

/-- The record of a device changed. -/
def updW (d : Dev) (w : Nat) (f : WRec → WRec) : Dev :=
  { d with hier := { d.hier with ws := putKey WRec.id (f (wRec d w)) d.hier.ws } }

/-- What is replicated of a node (R370). -/
def replOf (n : Node) : ReplNode :=
  { record := n.index, eui := n.eui, short := n.short, pennant := n.pennant, sec := n.sec, route := n.route }

/-- A list cut into pieces of at most `n`; the fuel is its length. -/
def chunks {α : Type} (n : Nat) : Nat → List α → List (List α)
  | 0, _ => []
  | k + 1, l => if l.isEmpty then [] else l.take n :: chunks n k (l.drop n)

/-- Records sent in REPL_NODES of at most ten each (R370). -/
def sendNodes (d : Dev) (peer : Nat) (l : List ReplNode) : Dev := (chunks 10 l.length l).foldl (fun x c => hlSend x peer (.replNodes c)) d

/-- REPL_DISTRICT of the server (R370, R388). -/
def replDistrictOf (d : Dev) : HlMsg :=
  .replDistrict d.hier.district d.sched.epoch d.sched.asnRef d.sched.asnRefTime d.sched.ver.tmpl.slotLen d.can.groupMark d.sched.deltaSeq
    d.nbr.nodes.length

/-- A full pass begins (R388): every record once, an equal share at each REPL_INTERVAL of one FULL_REPL_PERIOD. -/
def fullRepl (d : Dev) : Dev :=
  let l := d.nbr.nodes.map Node.index
  { d with hier := { d.hier with fullAt := d.clk.up, fullLeft := l
                                 fullShare := ceilDiv (l.length * numN d 0x70000A) (Nat.max 1 (numN d 0x70000B * 1000)) } }

/-- The next share of a full pass sent to the manager (R388). -/
def fullStep (d : Dev) : Dev :=
  let now_ := (d.hier.fullLeft.take d.hier.fullShare).filterMap (fun i => (nodeAt d i).map replOf)
  sendNodes { d with hier := { d.hier with fullLeft := d.hier.fullLeft.drop d.hier.fullShare } } 0 now_

/-- A link is up (R369, R388, R392): event 114; identifiers of the link before it tell nothing any more; the manager sends PEERS, a server begins a
full pass. -/
def linkOpened (p : Perm) (d : Dev) (l : Link) : Dev :=
  let d0 := dropLink d l.peer
  let d1 : Dev := { d0 with hier := { d0.hier with answers := d0.hier.answers.filter (fun a => a.1 ≠ l.peer) } }
  let d2 := raise { d1 with hier := { d1.hier with links := d1.hier.links ++ [l], opening := d1.hier.opening.filter (fun o => o.1 ≠ l.peer) } } 114 (l.peer * 256 + 1)
  if p.manager then hlSend (updW d2 l.peer (fun w => { w with dgks := [] })) l.peer (peersFor d2 l.peer)
  else if l.peer = 0 && serves d2 then fullRepl d2
  else d2

/-- An OPEN arrives (R368): from an accepted key it opens or replaces the link. -/
def openLink (p : Perm) (port opener ononce pub : Nat) (d : Dev) : Dev :=
  if !hlArrives d port || p.role = 0 || !openAccepted p d opener pub then d
  else
    let id := Config.linkId d.free
    let a := Config.nonce d.free
    linkOpened p (emit (drawn d) (.hl opener (.openAck id a true)))
      { peer := opener, link := id, key := ⟨pub, ononce, a⟩, up := true, rxSeq := 0, txSeq := 0, lastRx := d.clk.up, opened := false }

/-- OPEN (R368). -/
def execOpenMsg (port opener ononce pub : Nat) (s : State) : Host.Outcome State Fault Refusal := onDev s (openLink s.perm port opener ononce pub)

/-- An OPEN_ACK arrives (R368): it completes the opening of this device that it covers. -/
def openAck (p : Perm) (port peer link anonce ononce pub : Nat) (d : Dev) : Dev :=
  if !hlArrives d port || !openAccepted p d peer pub || !d.hier.opening.any (fun o => o.1 = peer && o.2.1 = ononce) then d
  else
    linkOpened p d
      { peer := peer, link := link, key := ⟨pub, ononce, anonce⟩, up := true, rxSeq := 0, txSeq := 0, lastRx := d.clk.up, opened := true }

/-- OPEN_ACK (R368). -/
def execOpenAck (port peer link anonce ononce pub : Nat) (s : State) : Host.Outcome State Fault Refusal :=
  onDev s (openAck s.perm port peer link anonce ononce pub)

/-- A message discarded (R369). -/
def discardHl (d : Dev) : Dev := count d 0x700010

/-- HL_MESSAGE_DISCARD (R369). -/
def execHlMessageDiscard (s : State) : Host.Outcome State Fault Refusal := onDev s (fun d => if qdlServed d then discardHl d else d)

/-- Requests that have gone 200 ms without an answer, and openings, are sent again (R369); repetition keeps the identifier. -/
def requestRepeat (p : Perm) (d : Dev) : Dev :=
  let oldest := (d.hier.requests.map HlReq.at_ ++ d.hier.opening.map (fun o => o.2.2)).foldl
    (fun b t => match b with | none => some t | some x => some (Nat.min x t)) (none : Option Nat)
  match oldest with
  | none => d
  | some t =>
    let d1 := reach d (t + ms 200)
    let due := d1.hier.requests.filter (fun r => ms 200 ≤ since d1 r.at_)
    let opens := d1.hier.opening.filter (fun o => ms 200 ≤ since d1 o.2.2)
    opens.foldl (fun x o => sendOpen p x o.1) (due.foldl (fun x r => hlSend x r.peer r.msg) d1)

/-- REQUEST_REPEAT (R369). -/
def execRequestRepeat (s : State) : Host.Outcome State Fault Refusal := onDev s (requestRepeat s.perm)

/-- HB_INTERVAL of the links: the manager's own, or what the manager's heartbeats carry (R369, R370), ms. -/
def hbInterval (p : Perm) (d : Dev) : Nat := if p.manager then numN d 0x701001 else d.hier.hbInt

/-- A link goes down (R369): event 114. -/
def linkFalls (d : Dev) (peer : Nat) : Dev :=
  raise { d with hier := { d.hier with links := d.hier.links.map (fun l => if l.peer = peer then { l with up := false } else l) } } 114 (peer * 256)

/-- A link carries no valid message for 3 × HB_INTERVAL (R369): it is down, and its opener opens it again. -/
def hlLinkDown (p : Perm) (peer : Nat) (d : Dev) : Dev :=
  match d.hier.links.find? (fun l => l.peer = peer && l.up) with
  | none => d
  | some l =>
    let d1 := linkFalls (reach d (l.lastRx + ms (3 * hbInterval p d))) peer
    if l.opened then sendOpen p d1 peer else d1

/-- HL_LINK_DOWN (R369). -/
def execHlLinkDown (peer : Nat) (s : State) : Host.Outcome State Fault Refusal := onDev s (hlLinkDown s.perm peer)

/-! ## Leases and autonomy (R373-R378) -/

/-- The first T0 at or after a time (R374). -/
def firstT0 (d : Dev) (t : Int) : Int :=
  let a := asnAt d t
  if t0Of d a.toNat < t then t0Of d (a.toNat + 1) else t0Of d a.toNat

/-- LEASE_EXPIRED: the first T0 at or after LEASE_END (R374). -/
def leaseExpired (d : Dev) : Dev :=
  if d.hier.st ≠ .leased then d
  else
    let d1 := reachTb d (firstT0 d d.hier.leaseEnd)
    let d2 := raise (setHier (cutOff d1) .expired) 108 d.hier.district
    push' d2 (pq 4) ⟨0x0F, 0, 0, none, .hier 6 255 d.hier.district d.sched.epoch (u32Of d.hier.leaseEnd + 4294967296 * u32Of (d.hier.leaseEnd / 4294967296)) 0 none⟩

/-- LEASE_EXPIRED (R374). -/
def execLeaseExpired (s : State) : Host.Outcome State Fault Refusal := onDevSettled s leaseExpired

/-- AUTONOMY_END: the autonomy interval ends (R378). -/
def autonomyEnds (d : Dev) : Dev :=
  if d.hier.st ≠ .autonomous then d
  else setHier (cutOff (reachTb d (firstT0 d d.hier.autonomyEnd))) .autonomyEnded

/-- AUTONOMY_END (R378). -/
def execAutonomyEnd (s : State) : Host.Outcome State Fault Refusal := onDevSettled s autonomyEnds

/-- A time without heartbeats that counts as lost, ms (R377). -/
def missTime (d : Dev) : Nat := d.hier.missLimit * d.hier.hbInt

/-- HEARTBEAT_MISS_LIMIT: the peers are probed, at most once per second (R377). -/
def heartbeatMissLimit (d : Dev) : Dev :=
  match d.hier.heardAt with
  | some t =>
    if d.hier.st ≠ .leased || d.hier.probe.isSome then d
    else
      let due := match d.hier.probedAt with | some q => Nat.max (t + ms (missTime d)) (q + sec 1) | none => t + ms (missTime d)
      let d1 := reach d due
      let id := d1.hier.nextProbe
      let d2 : Dev := { d1 with hier := { d1.hier with probe := some ⟨id, d1.clk.up, []⟩, probedAt := some d1.clk.up, nextProbe := id + 1 } }
      d2.hier.peers.foldl (fun x q => hlSend x q.id (.peerProbe id)) d2
  | none => d

/-- HEARTBEAT_MISS_LIMIT (R377). -/
def execHeartbeatMissLimit (s : State) : Host.Outcome State Fault Refusal := onDev s heartbeatMissLimit

/-- A probe under way ends, and is not repeated (R377). -/
def endProbe (d : Dev) : Dev :=
  { d with hier := { d.hier with probe := none, requests := d.hier.requests.filter (fun r => match r.msg with | .peerProbe _ => false | _ => true) } }

/-- 500 ms of probing have passed: AUTONOMOUS, or LEASED still (R377). -/
def peerProbeTimeout (d : Dev) : Dev :=
  match d.hier.probe with
  | none => d
  | some q =>
    let d2 := endProbe (reach d (q.at_ + ms 500))
    let lost := q.answers.filter (fun x => missTime d ≤ x.2)
    if d2.hier.st = .leased && numN d2 0x700008 ≤ lost.length && lost.length = q.answers.length then
      raise (setHier { d2 with hier := { d2.hier with autonomyEnd := tbNs d2 + num d2 0x700006 * 1000000000 } } .autonomous) 115 q.answers.length
    else d2

/-- PEER_PROBE_TIMEOUT (R377). -/
def execPeerProbeTimeout (s : State) : Host.Outcome State Fault Refusal := onDevSettled s peerProbeTimeout

/-! ## Messages to a worker or spare -/

/-- The records that differ from what was last replicated (R388). -/
def replChanged (d : Dev) : List ReplNode := (d.nbr.nodes.map replOf).filter (fun n => !d.hier.replicated.contains n)

/-- The answer to a heartbeat (R370). -/
def hbAckOf (d : Dev) (seq : Nat) : HlMsg :=
  .hbAck seq (hierNum d.hier.st) (schedNum d.sched.st) d.sched.asn (alignNow d) (replChanged d).length

/-- A leased heartbeat for the own district and epoch (R373, R375, R378, R385). -/
def takeLease (p : Perm) (d : Dev) (till : Int) : Dev :=
  let d1 : Dev := { d with hier := { d.hier with leaseEnd := till } }
  match d.hier.st with
  | .leased => d1
  | .autonomous => setHier d1 .leased
  | .expired => if tbNs d < till then setHier d1 .leased else d1
  | .autonomyEnded => if tbNs d < till then setHier d1 .leased else d1
  | .takingOver =>
    if d.hier.readySent && tbNs d < till then
      raise (setHier { d1 with hier := { d1.hier with taking := 0, readySent := false } } .leased) 112 (d.hier.district * 256 + p.workerId)
    else d1
  | _ => d1

/-- A HEARTBEAT (R373, R375, R378, R386), answered. -/
def onHeartbeat (p : Perm) (seq district : Nat) (revoke standby : Bool) (missLimit epoch hbInt : Nat) (till : Int) (d : Dev) : Dev :=
  let d0 := endProbe d
  let d1 : Dev := { d0 with hier := { d0.hier with lastHeartbeat := tbNs d, heardAt := some d.clk.up, missLimit := missLimit, hbInt := hbInt } }
  let own := district ≠ 0 && district = d.hier.district
  let d2 :=
    if own && d.sched.epoch < epoch then fence d1 epoch
    else if standby then
      if serves d then fence d1 epoch
      else if d.hier.st = .fenced then d1 else setHier d1 .standby
    else if own && epoch = d.sched.epoch then
      if revoke then
        let d3 : Dev := { d1 with hier := { d1.hier with leaseEnd := till } }
        if d.hier.st = .autonomous then setHier d3 .expired else d3
      else takeLease p d1 till
    else d1
  hlSend d2 0 (hbAckOf d2 seq)

/-- Milliseconds since an instant, saturated; all ones where there was none (R370). -/
def ageMs (d : Dev) (t : Option Nat) : Nat := match t with | some x => Nat.min (since d x / 64000000) 0xFFFFFFFE | none => 0xFFFFFFFF

/-- The binding of a spare's lane for a channel (R379). -/
def witnessBind (ch spread : Nat) : Binding :=
  { channel := ch, spread := spread, pretune := 0, narrow := false, handle := 0, loc := 0, asn := 0, neighbour := none, neighbourEui := none
    expectedFirst := false, allChannel := true, ackWindow := false }

/-- A band of a spare listens on every channel at the spreading of a district's ADV cells until a time (R379). -/
def witnessBand (sp : Nat) (till : Int) (d : Dev) (b : Band) : Dev :=
  let w : Window := { band := b, handle := 0, loc := 0, asn := 0, closes := till, rescue := false, shut := false }
  let d1 : Dev := { d with sched := { d.sched with windows := d.sched.windows.filter (fun x => x.band ≠ b) ++ [w] } }
  let d2 := (bandLanes b).foldl (fun x n =>
    match homeChannel x n with
    | some ch =>
      let l := lane x n
      let y := witnessBind ch (if b = .g then sp % 3 else sp % 4)
      if l.state = .off || l.state = .idle || l.state = .search then
        updLane x n (fun l => { l with state := .search, bind := some y, nco := ncoOf x b y, next := none })
      else x
    | none => x) (setRadio d1 b .rx)
  powerBand d2 b true true

/-- A spare before takeover listens for a district's beacons, until two heartbeat intervals have passed without another request (R26, R379;
log 136). -/
def spareListen (p : Perm) (d : Dev) (district : Nat) : Dev :=
  if !(spareIdle d && d.pwr.mode.running) then d
  else
    let t := 2 * hbInterval p d
    let d1 : Dev := { d with hier := { d.hier with listenUntil := some (d.clk.up + ms t) } }
    [Band.sf, .g].foldl (witnessBand (Config.advSpread district) (tbNs d + (t : Int) * 1000000)) d1

/-- The listening of a spare ends, once no lane holds a frame (R379, R453). -/
def spareRest (d : Dev) : Dev :=
  match d.hier.listenUntil with
  | some t =>
    if d.clk.up < t || (List.range 32).any (fun n => (lane d n).holds || (lane d n).state = .preamble) then d
    else modeBands { d with hier := { d.hier with listenUntil := none } }
  | none => d

/-- A WITNESS_REQ, answered with the last authentic beacon of the district (R379). -/
def onWitnessReq (p : Perm) (id district : Nat) (d : Dev) : Dev :=
  let b := d.hier.beacons.find? (fun x => x.1 = district)
  hlSend (spareListen p d district) 0 (.witnessRsp id district (ageMs d (b.map (fun x => x.2.1))) (match b with | some x => x.2.2 | none => 0))

/-- A PEER_ANSWER collected (R377). -/
def onPeerAnswer (peer id age : Nat) (d : Dev) : Dev :=
  match d.hier.probe with
  | some q =>
    if q.id = id && !q.answers.any (fun a => a.1 = peer) then { d with hier := { d.hier with probe := some { q with answers := q.answers ++ [(peer, age)] } } }
    else d
  | none => d

/-- A TAKEOVER (R384): the device begins taking over the district with an empty state. -/
def onTakeover (district epoch baseSeq : Nat) (start : Int) (d : Dev) : Dev :=
  let d0 := if serves d && district = d.hier.district && d.sched.epoch < epoch then fence d epoch else d
  let d1 := (d0.nbr.nodes.map Node.eui).foldl removeNode (cutOff d0)
  let grp := match keyEntry d1 7 district with | some k => if k.present then some (k.gen, k.key) else none | none => none
  let d2 := setHier { d1 with
    sched := { d1.sched with ver := {}, pending := [], accepted := baseSeq, deltaSeq := baseSeq, epoch := epoch, prepAsn := none, prep := none
                             now := none, past := [], spans := [], windows := [], cellLanes := [], latched := [], backoff := [], badCells := [] }
    can := { d1.can with group := grp, overlapEnd := none, groupFc := d1.can.groupMark } } .takingOver
  { d2 with hier := { d2.hier with district := district, taking := district, start := start, restoreStatus := 0, readyOwed := false
                                   readySent := false, joins := [], replicated := [] } }

/-- The time reference and counters of a district being taken over (R384 steps 4 and 6). -/
def onReplDistrict (district asnRef : Nat) (asnRefTime : Int) (slotLen mark : Nat) (d : Dev) : Dev :=
  if d.hier.st ≠ .takingOver || district ≠ d.hier.district then d
  else
    let d1 : Dev := { d with
      sched := { d.sched with asnRef := asnRef, asnRefTime := asnRefTime, prevLen := slotLen, prepAsn := none, prep := none
                              ver := { d.sched.ver with tmpl := { d.sched.ver.tmpl with slotLen := slotLen } } }
      can := { d.can with groupFc := mark, groupMark := mark } }
    commitMark d1

/-- The security area of a restored record (R355): under SK_POLICY 1 its SK is lost; else it is derived anew, and the counters used since the last
replication are skipped. -/
def restoredSec (d : Dev) (s : SecArea) : SecArea :=
  let jump := numN d 0x500010
  let x : SecArea := { s with hotSlot := none, dmkGen := if s.dmkGen = 0 then 0 else dmkGen d }
  if s.expireAtReset then { x with skValid := false, lost := true }
  else { x with txFc := s.txFc + jump, usesLeft := s.usesLeft - jump }

/-- The Pennant record of a restored node (R384): synchronization and measurements stay, its transmit list is empty. -/
def restoredPennant (q : Pennant) : Pennant := { q with onDie := false, txSecured := false, retry := 0 }

/-- A replicated record created on the device that takes over (R355, R384); a key left without uses is exhausted (R354). -/
def restoreNode (p : Perm) (d : Dev) (i : ReplNode) : Dev :=
  let r := insertEntry p d i.eui i.short p.workerId d.hier.district i.record true
  if !r.2 then { r.1 with hier := { r.1.hier with restoreStatus := statusCode .tableFull } }
  else
    let sc := restoredSec d i.sec
    let n : Node := { index := i.record, eui := i.eui, short := i.short, pennant := i.pennant.map restoredPennant, sec := sc, route := i.route
                      wrapped := some ⟨sc.keyGen, sc.dmkGen, true⟩ }
    let d1 : Dev := { r.1 with nbr := { r.1.nbr with nodes := insertNode n (dropKey Node.index i.record r.1.nbr.nodes) } }
    if sc.skValid && (sc.usesLeft = 0 || 0xFFFFFFFF < sc.txFc) then exhaust d1 n.index n.short else d1

/-- Replicated records created on the device that takes over (R384 step 5). -/
def onReplNodes (p : Perm) (items : List ReplNode) (d : Dev) : Dev :=
  if d.hier.st ≠ .takingOver then d else placeOnDie (items.foldl (restoreNode p) d)

/-- Records named as freed are removed (R370, R388). -/
def onReplGone (records : List Nat) (d : Dev) : Dev :=
  if d.hier.st ≠ .takingOver then d
  else records.foldl (fun x r => match nodeAt x r with | some n => removeNode x n.eui | none => x) d

/-- READY is sent once the restore is applied and SYNC_STATE is LOCKED (R384). -/
def tryReady (d : Dev) : Dev :=
  if d.hier.readyOwed && d.clk.sync = .locked then
    hlSend { d with hier := { d.hier with readyOwed := false, readySent := true } } 0 (.ready d.hier.district d.hier.restoreStatus)
  else d

/-- RESTORE_END (R384). -/
def onRestoreEnd (d : Dev) : Dev :=
  if d.hier.st ≠ .takingOver then d else tryReady { d with hier := { d.hier with readyOwed := true } }

/-- PEERS sets the peer list (R392); the lower ID of a pair opens its link (R368). -/
def onPeers (p : Perm) (l : List PeerItem) (d : Dev) : Dev :=
  l.foldl (fun x q => if p.workerId < q.id && !linkUp x q.id then sendOpen p x q.id else x) { d with hier := { d.hier with peers := l } }

/-- A KEY_MSG applied and answered (R391); one of the district being taken over that fails makes the restore fail (R384). -/
def onKeyMsg (p : Perm) (l : List Byte) (proof : KeyProof) (d : Dev) : Dev :=
  let u := parseUpdate l proof
  let r := keyUpdate p d u
  let d1 := if r.2 ≠ .ok && r.1.hier.st = .takingOver && u.keyId = d.hier.district then { r.1 with hier := { r.1.hier with restoreStatus := statusCode r.2 } } else r.1
  hlSend d1 0 (.keyResult (leAt l 56 8) (statusCode r.2))

/-- The octets of a delta once its parts fill it: every offset covered (R391). -/
def wholeDelta (x : DeltaParts) : Option (List Byte) :=
  let l := (sortBy (fun (q : Nat × List Byte) => ((q.1 : Nat) : Int)) x.parts).foldl
    (fun (b : List Byte) q => if q.1 ≤ b.length then b ++ q.2.drop (b.length - q.1) else b) []
  if x.total ≤ l.length then some (l.take x.total) else none

/-- A DELTA_PART (R391): a delta complete is pushed to P3; one that P3 refuses is answered at once with BUSY and reason 7 (R196). -/
def onDeltaPart (id total off : Nat) (data : List Byte) (d : Dev) : Dev :=
  if d.hier.answers.any (fun a => a.1 = 0 && a.2.1 = 0x40 && a.2.2.1 = id && a.2.2.2.isSome) then
    match d.hier.answers.find? (fun a => a.1 = 0 && a.2.1 = 0x40 && a.2.2.1 = id) with
    | some (_, _, _, some m) => hlSend d 0 m
    | _ => d
  else
    let old := (findKey DeltaParts.id id d.hier.parts).getD ⟨id, total, []⟩
    let x : DeltaParts := { old with parts := old.parts.filter (fun q => q.1 ≠ off) ++ [(off, data)] }
    match wholeDelta x with
    | some l =>
      let w := keepDelta { d with hier := { d.hier with parts := dropKey DeltaParts.id id d.hier.parts } } l
      let r := push w.1 (pq 3) ⟨0x0E, 0, 0, none, .delta 0 id w.2 l.length (tbNs d)⟩
      if r.2 then r.1 else hlSend (takeDelta r.1 w.2 0).1 0 (.deltaResult id (statusCode .busy) 7 0)
    | none => { d with hier := { d.hier with parts := putKey DeltaParts.id x d.hier.parts } }

/-- A join held for its verdict taken out. -/
def takeJoin (d : Dev) (id : Nat) : Dev × Option HeldJoin :=
  ({ d with hier := { d.hier with joins := d.hier.joins.filter (fun j => j.id ≠ id)
                                  requests := d.hier.requests.filter (fun r => reqId r.msg ≠ some (0x30, id)) } },
   d.hier.joins.find? (fun j => j.id = id))

/-- A VERDICT (R389): GRANT admits the node, DENY answers RESULT 3. -/
def onVerdict (p : Perm) (id : Nat) (grant : Bool) (d : Dev) : Dev :=
  match takeJoin d id with
  | (d1, some j) =>
    match dmk d1 with
    | some k => if grant then admitNode p d1 k j else refuseJoin d1 k j.eui j.band j.req 3
    | none => count d1 0x510008
  | (_, none) => d

/-- CLAIM_WAIT passes without a verdict (R389): RESULT 3. -/
def claimWait (p : Perm) (d : Dev) : Dev :=
  match d.hier.joins with
  | [] => d
  | j :: _ => onVerdict p j.id false (reach d (j.at_ + ms (numN d 0x70000C)))

/-- CLAIM_WAIT (R389). -/
def execClaimWait (s : State) : Host.Outcome State Fault Refusal := onDev s (claimWait s.perm)

/-- A DROP (R390): the node is DROPPED, and goes once its transmit list is empty. -/
def onDrop (eui : Nat) (d : Dev) : Dev :=
  match nodeByEui d eui with
  | none => d
  | some n =>
    if n.state = .dropped then d
    else freeDropped (raise (count (updPennant d n.index (fun q => { q with state := .dropped })) 0x70000F) 113 n.short)

/-! ## Replication (R388) -/

/-- The device is its district's server. -/
def isServer (d : Dev) : Bool := d.hier.st = .leased || d.hier.st = .autonomous

/-- REPL_INTERVAL: REPL_DISTRICT, the changed records, those freed, and the next of a full pass (R388). -/
def replInterval (d : Dev) : Dev :=
  if !isServer d then d
  else
    let d1 := reach d (d.hier.replAt + ms (numN d 0x70000A))
    let now_ := d1.nbr.nodes.map replOf
    let gone := (d1.hier.replicated.filter (fun r => !now_.any (fun n => n.record = r.record))).map ReplNode.record
    let changed := replChanged d1
    let d2 := hlSend { d1 with hier := { d1.hier with replAt := d1.clk.up } } 0 (replDistrictOf d1)
    let d3 := (chunks 350 gone.length gone).foldl (fun x c => hlSend x 0 (.replGone c)) (sendNodes d2 0 changed)
    if linkUp d 0 then fullStep { d3 with hier := { d3.hier with replicated := now_ } } else d3

/-- REPL_INTERVAL (R388). -/
def execReplInterval (s : State) : Host.Outcome State Fault Refusal := onDev s replInterval

/-- FULL_REPL_PERIOD: a full pass begins (R388). -/
def fullReplPeriod (d : Dev) : Dev := if !isServer d then d else fullRepl (reach d (d.hier.fullAt + sec (numN d 0x70000B)))

/-- FULL_REPL_PERIOD (R388). -/
def execFullReplPeriod (s : State) : Host.Outcome State Fault Refusal := onDev s fullReplPeriod

end Sys2Proof.Machine
end

