-- ==== Sys2Proof/Machine/Flags.lean ====
section
/-!
DEFINITION. Status words and flags as the spec numbers them: STAGE, RXINFO and RXFLAGS of a receive descriptor, ERXF of an Ethernet one,
STATUS of a timer, and the numbers of the state entries of front ends, queues and gates.
-/
namespace Sys2Proof.Machine

/-- STAGE of a receive descriptor (R218, R352). -/
def stageNum (x : Stage) : Nat :=
  x.secstat + 256 * x.level + 2048 * x.keyMode + 8192 * boolNum x.fetched + 65536 * x.ack + 16777216 * x.verdict

/-- RXINFO and RXFLAGS of a receive descriptor (R152, R153). -/
def rxInfoNum (i : RxInfo) : Nat :=
  i.lane + 32 * i.channel + 1024 * i.spread + 4096 * bandNum i.band + 8192 * boolNum i.long + 16384 * boolNum i.pretuned + 32768 * boolNum i.handed
def rxFlagsNum (i : RxInfo) : Nat :=
  boolNum i.fcsOk + 2 * boolNum i.fcs32 + 4 * boolNum i.addrMatch + 8 * boolNum i.captured + 16 * boolNum i.gainStep + 32 * boolNum i.allChannel
    + 64 * boolNum i.expectedFirst + 128 * boolNum i.clipped

/-- ERXF (R565). -/
def erxf (f : EthFrame) : Nat :=
  boolNum (!f.tags.isEmpty) + 2 * boolNum (f.dst = 0xFFFFFFFFFFFF)
    + 4 * boolNum (f.dst / 1099511627776 % 2 = 1 && f.dst ≠ 0xFFFFFFFFFFFF) + 8 * boolNum f.ptpEvent

/-- STATUS of a timer (R537). -/
def timerStatus (d : Dev) (n : Nat) : Nat :=
  let t := timer d n
  boolNum t.run + 2 * boolNum t.expired + 4 * boolNum t.capNew + 8 * boolNum t.overrun + 16 * boolNum t.wrap
    + 32 * boolNum (gateOpen d n) + 64 * boolNum (tmFrozen d n)

/-- RADIO_STATE (R95). -/
def radioNum : RadioState → Nat
  | .sleep => 0 | .standby => 1 | .ready => 2 | .rx => 3 | .tx => 4 | .cal => 5

/-- QSTATE (R266). -/
def qstateNum : QState → Nat
  | .openQ => 0 | .recovering => 1 | .quarantined => 2

/-- GATE_STATE (R322). -/
def gateState (x : Port) : Nat :=
  if x.active.isSome then (if x.waiting.isSome then 2 else 1) else if x.restored.isSome then 3 else 0

/-- A BITS32 of the numbers below `n` that pass a test. -/
def maskOf (n : Nat) (f : Nat → Bool) : Val := .num (((upTo n).foldl (fun m i => if f i then setBit m i else m) 0 : Nat) : Int)

end Sys2Proof.Machine
end

