-- ==== Sys2Proof/Machine/Start.lean ====
section
/-!
DEFINITION. Start-up, first start and provisioning (R478-R489, R507, R508, R514, R551, R574-R576, R586), and the rows that start,
reset or power the device.
-/
namespace Sys2Proof.Machine

/-! ## The PMIC link (R574-R576) -/

/-- A sequence of register writes sent to the PMIC (R575). -/
def pmicSeq (d : Dev) (addr speed : Nat) (l : List Byte) : Dev :=
  let n := Nat.min 7 (nth l 0 0).toNat
  (upTo n).foldl (fun x i => emit x (.pmic speed addr (nth l (1 + 2 * i) 0).toNat (nth l (2 + 2 * i) 0).toNat)) d

/-- VCORE on commanded: PMIC_EN asserted, then ON_SEQ where a copy is held (R574, R575). -/
def vcoreOn (d : Dev) : Dev :=
  let d1 : Dev := { d with pwr := { d.pwr with vcoreOn := true } }
  match d.ifs.pmicCopy with | some (a, v, on, _) => pmicSeq d1 a v on | none => d1

/-- VCORE off: OFF_SEQ where a copy is held, then PMIC_EN released (R574, R575). -/
def vcoreOff (d : Dev) : Dev :=
  let d1 := match d.ifs.pmicCopy with | some (a, v, _, off) => pmicSeq d a v off | none => d
  { d1 with pwr := { d1.pwr with vcoreOn := false } }

/-- The voltage code of the given settings (R576). -/
def voltageCode (set base step : Nat) : Nat := ceilDiv ((set - base) * 1000) (Nat.max 1 step)

/-- VSET_REG written with the code of VCORE_SET (R576). -/
def writeVoltage (d : Dev) : Dev :=
  emit d (.pmic (numN d 0x90380A) (numN d 0x903801) (numN d 0x903803) (voltageCode (numN d 0x903802) (numN d 0x903804) (numN d 0x903805)))

/-! ## Resets and power (R452, R472, R478, R479, R586) -/

/-- A reset of a running device with a cause of R478: VCORE off for 10 ms, then on again (R479). -/
def resetWith (d : Dev) (cause : Nat) : Dev :=
  if coldCause cause then { vcoreOn (reset d cause) with start := { (reset d cause).start with since := d.clk.up } }
  else
    let d1 := reach (reset (vcoreOff d) cause) (d.clk.up + ms 10)
    vcoreOn { d1 with start := { d1.start with since := d1.clk.up } }

/-- A start-up fault: M11 with FAULT_CAUSE 4 and its detail (R484). -/
def startFault (d : Dev) (detail : Nat) : Dev := enterFault { d with start := { d.start with detail := detail } } 4

/-- A reset by the watchdog or a runtime fault, counted in the persistent store (R483, R551). -/
def watchdogReset (d : Dev) : Dev :=
  let c := commitNv d 1 4 [counterPage]
  let n := satAdd d.nv.saved.watchdogs 1
  resetWith (if c.2 = .ok then { c.1 with nv := { c.1.nv with saved := { c.1.nv.saved with watchdogs := n } } } else c.1) 6

/-- POWER_ON: VAON above 1.62 V for 1 ms (R452, R479). TEST_EN high leads to the factory test state (R586). -/
def powerOn (testEn : Bool) (d : Dev) : Dev :=
  if d.pwr.mode ≠ .m0 then d
  else
    let d1 := restart d 1
    if testEn then { d1 with pwr := { d1.pwr with mode := .m0, vcoreOn := false }, start := { d1.start with factoryTest := true, stage := .idle } }
    else d1

/-- POWER_ON (R479). -/
def execPowerOn (testEn : Bool) (s : State) : Host.Outcome State Fault Refusal := onDevSettled s (powerOn testEn)

/-- POWER_OFF: VAON removed (R452). Only the persistent store survives. -/
def powerOff (d : Dev) : Dev :=
  let d1 := restart { d with pwr := { d.pwr with brownFlag := 0 } } 1
  { d1 with pwr := { d1.pwr with mode := .m0, domains := 0, vcoreOn := false }, start := { d1.start with stage := .idle } }

/-- POWER_OFF (R452). -/
def execPowerOff (s : State) : Host.Outcome State Fault Refusal := onDevSettled s powerOff

/-- BROWNOUT: a cold reset, recorded in the flag that VAON powers (R472). -/
def brownout (overload : Bool) (d : Dev) : Dev :=
  if d.pwr.mode = .m0 then d
  else
    let d1 := resetWith d 2
    { d1 with pwr := { d1.pwr with brownFlag := if overload then 1 else 2 } }

/-- BROWNOUT (R472). -/
def execBrownout (overload : Bool) (s : State) : Host.Outcome State Fault Refusal := onDevSettled s (brownout overload)

/-- DEVICE_RESET: a reset that a command or the end of provisioning or of a tamper has set begins (R350, R487, R488, R511). -/
def deviceReset (d : Dev) : Dev :=
  match d.start.pendingReset with
  | some (cause, at_) => resetWith (reach d at_) cause
  | none => d

/-- DEVICE_RESET (R478). -/
def execDeviceReset (s : State) : Host.Outcome State Fault Refusal := onDevSettled s deviceReset

/-- The command RESET (R488). -/
def resetCore : Core := fun arg d =>
  if !argLen arg 0 then answer d .malformed
  else if d.start.pendingReset.isSome then answer d .busy
  else answer (scheduleReset d 4) .ok

/-- RESET (R488). -/
def execReset (r : Req) (arg : List Byte) (s : State) : Host.Outcome State Fault Refusal := onDev s (serveExec r 0x120005 arg resetCore)

/-- Pads released, and event 3 with the mask (R474). -/
def releasePads (d : Dev) (mask : Nat) : Dev :=
  if mask = 0 then d
  else
    let d1 := raise { d with pwr := { d.pwr with padHold := d.pwr.padHold &&& (4095 - mask) } } 3 mask
    if mask.testBit 11 then
      (upTo 24).foldl (fun x n =>
        let v := flag x ((0x9040 + n) * 256 + 3)
        if numN x ((0x9040 + n) * 256 + 1) ≠ 0 && v ≠ x.gpio.latched.testBit n then emit x (.gpio n v) else x) d1
    else d1

/-- The command PAD_RELEASE (R474, R476). -/
def padReleaseCore : Core := fun arg d =>
  if !argLen arg 4 then answer d .malformed
  else if 4096 ≤ leNat arg then answer d .outOfRange
  else answer (releasePads d (leNat arg &&& d.pwr.padHold)) .ok

/-- PAD_RELEASE (R474). -/
def execPadRelease (r : Req) (arg : List Byte) (s : State) : Host.Outcome State Fault Refusal := onDev s (serveExec r 0x100007 arg padReleaseCore)

/-! ## The start (R480-R485, R507, R508) -/

/-- Step 1: D0 and D1 on VCORE, the pads set for the I/O supplies as sensed (R480, R594), the event counts of the last run cleared (R544), and
the voltage code (R576). -/
def stepOne (b : BootResult) (d : Dev) : Dev :=
  let d1 := setMode { d with pwr := { d.pwr with domains := 0x87F, sleepReq := none, vioA18 := b.vioA18, vioB18 := b.vioB18 } } .m4
  writeVoltage { d1 with
    ev := { d1.ev with recs := List.replicate 128 {}, pending := 0, seq := 0, rates := [] }
    start := { d1.start with stage := .booting, pgAt := d1.clk.up, clearDone := false, ready := false, applied := false } }

/-- Step 3: commits whose marker stands in the journal are written home again (R494). -/
def replay (d : Dev) : Dev :=
  let n := d.nv.journal.length
  { countBy d 0x130008 n with nv := { d.nv with journal := [] } }

/-- Step 3's outcome (R480, R484): a store that fails its check has the persistent entries read their defaults, until a start finds
it sound. -/
def checkStore (ok : Bool) (d : Dev) : Dev :=
  if ok then (if d.nv.unreadable then { d with nv := { d.nv with unreadable := false, rp := d.nv.unread, unread := [] } } else d)
  else if d.nv.unreadable then d
  else { d with nv := { d.nv with unreadable := true, unread := d.nv.rp, rp := [] } }

/-- Step 7: the latch, the flag and the enabled inputs (R345, R480); an input found asserted latches the tamper (R348). -/
def tamperRead (d : Dev) : Dev × Bool :=
  if tampered d then (d, true)
  else if tamperAsserted d then
    let input := if (d.can.asserted &&& numN d 0x500011).testBit 0 then 0 else 1
    let d1 : Dev := { d with can := { d.can with latch := true, cause := input * 256, time := tbNs d, flagDue := some d.clk.up } }
    (raise d1 88 (input * 256), true)
  else (d, false)

/-- The slots in the order in which step 9 examines them: TRIAL, GOOD, READY (R507). -/
def bootOrder (d : Dev) : List Nat :=
  (upTo 2).filter (fun s => (fwSlot d s).st = 3) ++ (upTo 2).filter (fun s => (fwSlot d s).st = 4) ++ (upTo 2).filter (fun s => (fwSlot d s).st = 2)

/-- Step 9: the first slot that passes runs, a READY one as TRIAL; those that fail are rejected (R507). -/
def chooseSlot (p : Perm) (b : BootResult) : List Nat → Dev → Dev × Option Nat
  | [], d => (d, none)
  | s :: t, d =>
    let r := slotReason p d s (if s = 0 then b.slotA else b.slotB)
    if r ≠ 0 then chooseSlot p b t (rejectSlot (bootCommit d 1).1 s r)
    else if (fwSlot d s).st = 2 then
      let c := bootCommit d 1
      if c.2 = .ok then ({ updSlot c.1 s (fun x => { x with st := 3 }) with fw := { (updSlot c.1 s (fun x => { x with st := 3 })).fw with trialSince := tbNs d } }, some s)
      else (c.1, some s)
    else (d, some s)

/-- A TRIAL slot whose runtime was reset by the watchdog is rejected where a GOOD slot exists (R508). -/
def dropFailedTrial (d : Dev) : Dev :=
  match slotIn d 3, slotIn d 4 with
  | some s, some _ => if d.start.cause = 6 then rejectSlot (bootCommit d 1).1 s 4 else d
  | _, _ => d

/-- A slot found WRITING is EMPTY (R506, R510). -/
def dropWriting (d : Dev) : Dev := (upTo 2).foldl (fun x s => if (fwSlot x s).st = 1 then emptySlot x s else x) d

/-- Step 9 and the start of step 10 (R480, R507). -/
def bootImage (p : Perm) (b : BootResult) (d : Dev) : Dev :=
  if (keyPresent d 5 0).isNone || !b.unwrapOk then startFault d 3
  else
    let d1 := dropFailedTrial { d with start := { d.start with unwrapped := true } }
    let c := if b.flashSize < 67108864 then (d1, none) else chooseSlot p b (bootOrder d1) d1
    match c.2 with
    | none => startFault c.1 2
    | some s => { c.1 with fw := { c.1.fw with running := some s }, start := { c.1.start with runtimeAt := c.1.clk.up } }

/-- The boot runtime serves M5 once ROOT is held and the store is clear (R485, R486). -/
def serveProvision (p : Perm) (d : Dev) : Dev :=
  if d.pwr.mode = .m5 && p.root && d.start.clearDone then
    { d with start := { d.start with stage := .idle, served := true, bootRuntime := true }, qdl := { d.qdl with udpPort := numN d 0x020003 } }
  else d

/-- The clock of the boot flash in 8D-8D-8D mode, MHz (R573): above 100 MHz only with VIO_B at 1.8 V. -/
def flashMhz (d : Dev) : Nat := if d.pwr.vioB18 then numN d 0x903003 else Nat.min 100 (numN d 0x903003)

/-- The boot flash identified and, where its size serves, switched to 8D-8D-8D mode (R573). -/
def readFlash (b : BootResult) (d : Dev) : Dev :=
  let fast := decide (67108864 ≤ b.flashSize)
  let d1 : Dev := countBy { d with fw := { d.fw with flashId := b.flashId, flashSize := b.flashSize, fastFlash := fast } } 0x903005 b.readErrors
  if fast then emit d1 (.flashMode (flashMhz d1)) else d1

/-- Steps 2 to 10 from power-good (R480, R481); the third watchdog reset in a row leads to M11 (R483). -/
def powerGoodSteps (p : Perm) (b : BootResult) (d : Dev) : Dev :=
  if !b.lock then
    let d1 := reach d (d.clk.up + ms 100)
    enterFault { d1 with clk := { d1.clk with refOk := false } } 2
  else
    let d0 := handover { d with clk := { d.clk with refOk := true, calStart := d.clk.up } } true
    let d1 := checkStore b.storeOk d0
    if !b.storeOk then startFault d1 1
    else
      let d2 := dropWriting (replay d1)
      let d3 := readFlash b d2
      if !p.provisioned then
        setMode { d3 with can := { d3.can with kek := p.root }, start := { d3.start with rootDue := if p.root then none else some d3.clk.up } } .m5
      else if !p.root then enterFault d3 5
      else
        let t := tamperRead d3
        if t.2 then enterFault t.1 1
        else if t.1.start.cause = 6 && 3 ≤ t.1.start.watchdogResets then startFault t.1 5
        else bootImage p b { t.1 with can := { t.1.can with kek := true } }

/-- VCORE_PG asserts: the steps of the start up to the runtime's own (R480). -/
def powerGood (p : Perm) (b : BootResult) (d : Dev) : Dev :=
  if d.start.stage ≠ .waitPg || d.start.factoryTest then d else powerGoodSteps p b (stepOne b d)

/-- POWER_GOOD (R480). -/
def execPowerGood (b : BootResult) (s : State) : Host.Outcome State Fault Refusal := onDevSettled s (powerGood s.perm b)

/-- Power-good does not arrive within 20 ms (R468, R479): VCORE off, and on again after 10 ms, three attempts in all; then back to
the sleep mode, or, in a start from power-on, on again after one second for as long as it takes. -/
def powerGoodTimeout (d : Dev) : Dev :=
  if d.start.stage ≠ .waitPg || d.start.factoryTest || d.pwr.mode = .m0 then d
  else
    let d1 := vcoreOff (reach d (d.start.since + ms 20))
    let again (x : Dev) (t : Nat) : Dev :=
      let y := reach x (x.clk.up + t)
      vcoreOn { y with start := { y.start with since := y.clk.up, attempts := y.start.attempts + 1 } }
    if d.start.attempts < 3 then again d1 (ms 10)
    else if d.start.cause = 3 then
      { d1 with start := { d1.start with stage := .idle, attempts := 1 }, pwr := { d1.pwr with wakeFails := satAdd d1.pwr.wakeFails 1 } }
    else again (if coldCause d.start.cause then { d1 with start := { d1.start with pgFails := satAdd d1.start.pgFails 1 } } else d1) (sec 1)

/-- POWER_GOOD_TIMEOUT (R468). -/
def execPowerGoodTimeout (s : State) : Host.Outcome State Fault Refusal := onDevSettled s powerGoodTimeout

/-- Step 11: the settings applied, the store map, the seeds, the outputs and the copies (R237, R271, R480, R575, R577). -/
def applySettings (d : Dev) : Dev :=
  let fb := numN d 0x400002
  let repo := numN d 0x400003
  let tel := numN d 0x400004
  let changed := d.store.fbUnits ≠ fb || d.store.repoUnits ≠ repo || d.store.telemUnits ≠ tel
  let d1 : Dev := { d with
    store := { d.store with fbUnits := fb, repoUnits := repo, telemUnits := tel, freeMin := fb * 32768, passStart := d.clk.up }
    fwd := { d.fwd with seedDraw := d.free }
    qdl := { d.qdl with udpPort := numN d 0x020003 }
    hier := { d.hier with port := numN d 0x700003 }
    ifs := { d.ifs with addr4 := beNat (octets d 0x900805), addr6 := beNat (octets d 0x900801), baud := numN d 0x902001
                        pmicCopy := some (numN d 0x903801, numN d 0x90380A, octets d 0x903807, octets d 0x903808) } }
  let d2 := drawn d1
  if changed then raise d2 67 (fb * 65536 + repo * 256 + tel) else d2

/-- Step 12: both bands calibrated together on a worker or spare (R99, R100, R480). -/
def calibrateBoth (p : Perm) (d : Dev) : Dev := if p.manager then d else startCal (startCal d .sf .start) .g .start

/-- The base mode of the role (R453). -/
def startMode (p : Perm) (d : Dev) : Mode := if p.manager || numN d 0x100003 = 0 then .m7 else .m6

/-- The PEND entries of a port read a list (R312, R322). -/
def showPending (d : Dev) (p : Nat) (g : GateList) : Dev :=
  putRw (putRw (putRw (putRw d (gateKey p 7) (.num g.base)) (gateKey p 8) (.num g.cycle)) (gateKey p 0x0A) (.num g.entries.length))
    (gateKey p 9) (.bytes ((gateOctets g ++ List.replicate 8192 0).take 8192))

/-- Committed gate lists restored as pending lists (R312). -/
def restoreGates (d : Dev) (p : Nat) : Dev :=
  match (port d p).committed with
  | none => d
  | some g =>
    let d1 := updPort (showPending d p g) p (fun y => { y with restored := some g })
    if d.clk.sync = .locked then scheduleRestored d1 p else raise d1 86 p

/-- A held event raised afresh by all four steps, with HELD set (R544). -/
def raiseHeld (d : Dev) (x : Nat × Nat × Int) : Dev := notifyP5 (noteEvent d x.1 x.2.1 x.2.2) x.1 x.2.1 1 x.2.2

/-- Step 14: the interfaces start, QDL is served, the base mode is entered, and its events are raised (R480, R483, R489, R544). -/
def serveAll (p : Perm) (d : Dev) : Dev :=
  let m := startMode p d
  let d1 : Dev := { d with
    start := { d.start with
      stage := .done, served := true, bootRuntime := false, startCount := satAdd d.start.startCount 1, watchdogResets := 0
      lastStartTime := (d.clk.up - d.start.pgAt) / 64 }
    pwr := { d.pwr with domains := d.pwr.domains ||| 0x87F, baseFull := m = .m7, fullOnly := p.manager, spare := p.spare }
    nv := { d.nv with waiting := d.nv.waiting ++ [⟨satAdd d.start.startCount 1, 0⟩] }
    ev := { d.ev with held := [] } }
  let d2 := modeBands (gateCores (setMode (d.ev.held.foldl raiseHeld d1) m))
  let d3 := if d2.pwr.brownFlag ≠ 0 then raise { d2 with pwr := { d2.pwr with brownFlag := 0 } } 2 d2.pwr.brownFlag else d2
  let d4 := if d3.start.cause = 3 then raise d3 1 d3.pwr.wakeCause else d3
  let d5 := if d4.start.cause = 3 && 0 < d4.pwr.halyardForeign then raise d4 5 d4.pwr.halyardLastId else d4
  if d5.pwr.wakeFails ≠ d5.pwr.wakeFailsSeen then raise { d5 with pwr := { d5.pwr with wakeFailsSeen := d5.pwr.wakeFails } } 6 d5.pwr.wakeFails else d5

/-- Steps 13 and 14, once the calibrations of step 12 are done (R480). -/
def finishStart (p : Perm) (d : Dev) : Dev :=
  let d1 := if flag d 0x100008 then releasePads d d.pwr.padHold else d
  serveAll p (restoreGates (restoreGates d1 0) 1)

/-- The start goes on as far as it can: steps 11 and 12 once the store is clear and the runtime ready, 13 and 14 once both bands are
calibrated (R480). -/
def advanceStart (p : Perm) (d : Dev) : Dev :=
  if d.start.stage ≠ .booting || !d.start.clearDone || !d.start.ready || d.start.migrationWait.isSome then d
  else
    let d1 := if d.start.applied then d else calibrateBoth p { applySettings d with start := { d.start with applied := true } }
    if d1.bandSf.cal.isNone && d1.bandG.cal.isNone then finishStart p d1 else d1

/-- The store clear of step 4 is done, or some words fail their read-back (R238, R480, R484). -/
def storeClear (p : Perm) (failed : Nat) (d : Dev) : Dev :=
  if d.start.clearDone || (d.start.stage ≠ .booting && d.pwr.mode ≠ .m5) then d
  else if 0 < failed then startFault (countBy d 0x40000C failed) 4
  else advanceStart p (serveProvision p { d with start := { d.start with clearDone := true } })

/-- STORE_CLEAR_DONE (R238): every word of the store holds zero. -/
def execStoreClearDone (failed : Nat) (s : State) : Host.Outcome State Fault Refusal :=
  if s.d.start.clearDone || (s.d.start.stage ≠ .booting && s.d.pwr.mode ≠ .m5) then .next s
  else .next { s with mem := [], d := settle s.perm (storeClear s.perm failed s.d) }

/-- The settings migrated during a start (R514, R516): the start goes on, a commit refused for want of energy is tried again after
one second, and on a failure the trial slot is rejected and the device resets. -/
def migrateAtStart (p : Perm) (translates : Bool) (d : Dev) : Dev :=
  let m := migrate d translates
  match m.2 with
  | .ok => advanceStart p { m.1 with start := { m.1.start with migrationWait := none } }
  | .holdupLow => { m.1 with start := { m.1.start with migrationWait := some (m.1.clk.up + sec 1) } }
  | _ =>
    let d1 := match slotIn m.1 3 with | some s => rejectSlot (bootCommit m.1 1).1 s 3 | none => m.1
    resetWith d1 4

/-- RUNTIME_READY: the runtime reports ready, then migrates (R483, R514). -/
def runtimeReady (p : Perm) (translates : Bool) (d : Dev) : Dev :=
  if d.start.stage ≠ .booting || d.start.ready || d.fw.running.isNone then d
  else migrateAtStart p translates { d with start := { d.start with ready := true } }

/-- RUNTIME_READY (R483). -/
def execRuntimeReady (migrationOk : Bool) (s : State) : Host.Outcome State Fault Refusal :=
  onDevSettled s (runtimeReady s.perm migrationOk)

/-- A migration commit that waits is tried again (R514). -/
def migrationRetry (p : Perm) (translates : Bool) (d : Dev) : Dev :=
  match d.start.migrationWait with
  | some t => if d.start.stage = .booting then migrateAtStart p translates (reach d t) else d
  | none => d

/-- SETTINGS_MIGRATION_RETRY (R514). -/
def execSettingsMigrationRetry (migrationOk : Bool) (s : State) : Host.Outcome State Fault Refusal :=
  onDevSettled s (migrationRetry s.perm migrationOk)

/-- WATCHDOG: the runtime is not ready 2 s after the start of step 10 (R483). -/
def watchdog (d : Dev) : Dev :=
  if d.start.stage ≠ .booting || d.start.ready || d.fw.running.isNone then d
  else watchdogReset (reach d (d.start.runtimeAt + sec 2))

/-- WATCHDOG (R483). -/
def execWatchdog (s : State) : Host.Outcome State Fault Refusal := onDevSettled s watchdog

/-! ## M5 (R486, R487) -/

/-- ROOT is drawn and committed in M5 (R486): whether it is now held, and the device. -/
def rootCommit (p : Perm) (trngOk : Bool) (d : Dev) : Dev × Bool :=
  match d.start.rootDue with
  | none => (d, false)
  | some t =>
    if d.pwr.mode ≠ .m5 then (d, false)
    else if !trngOk then (startFault d 6, false)
    else
      let c := commitNv (reach d t) 1 32 [cantonPage]
      if c.2 = .ok then (serveProvision { p with root := true } { c.1 with can := { c.1.can with kek := true }, start := { c.1.start with rootDue := none } }, true)
      else ({ c.1 with start := { c.1.start with rootDue := some (c.1.clk.up + sec 1) } }, false)

/-- ROOT_COMMIT (R486). -/
def execRootCommit (trngOk : Bool) (s : State) : Host.Outcome State Fault Refusal :=
  let r := rootCommit s.perm trngOk s.d
  .next { s with d := settle s.perm r.1, perm := if r.2 then { s.perm with root := true } else s.perm }

/-- Octets that are all zero. -/
def allZero (l : List Byte) : Bool := l.all (fun b => b = 0)

/-- An enabled credential of level L2 exists (R64, R65, R487). -/
def hasL2 (d : Dev) : Bool :=
  (upTo 16).any (fun n => flag d ((0x0210 + n) * 256 + 3) && numN d ((0x0210 + n) * 256 + 2) = 2)

/-- A boot flash slot holds an image that passes its checks (R487, R507). -/
def imageHeld (p : Perm) (d : Dev) : Bool := (upTo 2).any (fun s => 2 ≤ (fwSlot d s).st && (fwSlot d s).st ≤ 4 && slotReason p d s 0 = 0)

/-- The roles and IDs that provisioning admits (R487 check 2). -/
def roleLegal (role id : Nat) : Bool := (role = 1 && id = 0) || (role = 2 && 1 ≤ id && id ≤ 159)

/-- Checks 1 to 6 of R487: the first that fails, with its status. -/
def provisionCheck (p : Perm) (d : Dev) : Option (Nat × Status) :=
  let role := numN d 0x120008
  let id := numN d 0x120009
  if !p.root then some (1, .wrongMode)
  else if !roleLegal role id then some (2, .outOfRange)
  else if allZero (octets d 0x500014) then some (3, .wrongMode)
  else if !hasL2 d then some (4, .wrongMode)
  else if role = 2 && allZero (octets d 0x700002) then some (5, .wrongMode)
  else if (keyPresent d 5 0).isNone || !imageHeld p d then some (6, .wrongMode)
  else none

/-- The command PROVISION_COMMIT (R487); log 14 for the size of its commit. -/
def provisionCore (p : Perm) : Core := fun arg d =>
  if !argLen arg 0 then answer d .malformed
  else match provisionCheck p d with
    | some (n, st) => (d, st, toLe 1 n)
    | none =>
      let c := commitNv d 5 64 [cantonPage]
      if c.2 = .ok then
        let x := scheduleReset c.1 7
        ({ x with start := { x.start with record := some (numN d 0x120008, numN d 0x120009) } }, .ok, toLe 1 0)
      else (c.1, c.2, toLe 1 7)

/-- What provisioning fixes (R487): the record, ROLE, WORKER_ID and the lock of the debug access port. -/
def provisioned (p : Perm) (role id : Nat) : Perm := { p with provisioned := true, role := role, workerId := id, debugLocked := true }

/-- The state after requests that may have committed the provisioning record (R487): a record that passed checks 1 and 2 is in force. -/
def withProvision (s : State) (d : Dev) : State :=
  match d.start.record with
  | some (role, id) =>
    { s with d := { d with start := { d.start with record := none } }
             perm := if s.perm.root && roleLegal role id then provisioned s.perm role id else s.perm }
  | none => { s with d := d }

/-- PROVISION_COMMIT (R487): the record takes effect with the commit. -/
def execProvisionCommit (r : Req) (arg : List Byte) (s : State) : Host.Outcome State Fault Refusal :=
  .next (withProvision s (serveExec r 0x12000A arg (provisionCore s.perm) s.d))

/-! ## Runtime faults (R551) -/

/-- ARG0 of a runtime fault (R547). -/
def fatalNum : FatalCause → Nat
  | .workingSpace => 1 | .coreException => 2 | .sequencer => 3 | .canton => 4

/-- UNIT of a runtime fault's record (R546). -/
def fatalUnit : FatalCause → Nat
  | .workingSpace => 9 | .coreException => 9 | .sequencer => 5 | .canton => 12

/-- A runtime fault (R551): the record in the fatal latch and to P1, transmission stopped, and a reset with cause 6. -/
def runtimeFault (c : FatalCause) (unit_ : Nat) (d : Dev) : Dev :=
  if d.pwr.mode = .m0 || d.pwr.mode.asleep || d.start.stage = .waitPg then d
  else
    let x : ErrRec := { severity := 4, buf := none, time := tbNs d, unit := fatalUnit c, inst := 0, code := 0x60, nest := 1, addr := none
                        arg0 := fatalNum c, arg1 := unit_, rseq := d.err.rseq + 1 }
    let d1 := errRecord { d with err := { d.err with lastFatal := some x } } x
    watchdogReset (stopTransmission d1)

/-- RUNTIME_FAULT (R551). -/
def execRuntimeFault (cause : FatalCause) (unit_ : Nat) (s : State) : Host.Outcome State Fault Refusal :=
  onDevSettled s (runtimeFault cause unit_)

end Sys2Proof.Machine
end

