-- ==== Sys2Proof/Machine/Power.lean ====
section
/-!
DEFINITION. Modes, sleep and wake (R450-R477): MAINTENANCE, SLEEP and its entry, the wake sources, and a write of DUTY_MODE's effect.
-/
namespace Sys2Proof.Machine

/-! ## Maintenance (R457) -/

/-- Work that waits for a slot starts at once in M10, where none is prepared (R102, R233). -/
def startWaiting (d : Dev) (b : Band) : Dev :=
  match (band d b).calWait with
  | some k => if (band d b).cal.isSome then d else startCal d b k
  | none => d

/-- M10 entered: no slot is prepared any more, and each band goes off unless it calibrates (R457, R459). -/
def enterMaintenance (d : Dev) : Dev :=
  let d1 : Dev := { d with sched := { d.sched with prep := none, prepAsn := none, now := none, spans := [], cellLanes := [] } }
  let waits (b : Band) : Option CalKind := (band d1 b).calWait
  let sf := waits .sf
  let g := waits .g
  let d2 := setMode (restBand (restBand d1 .sf) .g) .m10
  let d3 := updBand (updBand d2 .sf (fun x => { x with calWait := sf })) .g (fun x => { x with calWait := g })
  let d4 : Dev := startWaiting (startWaiting { d3 with pwr := { d3.pwr with domains := setBit d3.pwr.domains 3 } } .sf) .g
  match d4.nbr.burst with
  | some x => if x.begun.isNone then burstNow d4 x else d4
  | none => d4

/-- The base mode entered again from M10, by DUTY_MODE as it stands now (R452, R453, R457). -/
def leaveMaintenance (d : Dev) : Dev :=
  let d1 : Dev := { d with pwr := { d.pwr with baseFull := d.pwr.fullOnly || numN d 0x100003 = 0 } }
  modeBands (gateCores (setMode d1 (baseMode d1)))

/-- The command MAINTENANCE (R457). -/
def maintenanceCore : Core := fun arg d =>
  match arg with
  | [b] => match argBool b with
    | some true =>
      if (d.pwr.mode = .m6 || d.pwr.mode = .m7) && (d.sched.st = .none || d.sched.st = .stopped) then answer (enterMaintenance d) .ok
      else answer d .wrongMode
    | some false => if d.pwr.mode = .m10 then answer (leaveMaintenance d) .ok else answer d .wrongMode
    | none => answer d .outOfRange
  | _ => answer d .malformed

/-- MAINTENANCE_ENTER (R457): MAINTENANCE with ENTER 1. -/
def execMaintenanceEnter (r : Req) (arg : List Byte) (s : State) : Host.Outcome State Fault Refusal :=
  onDevSettled s (serveExec r 0x10000A arg maintenanceCore)

/-- MAINTENANCE_EXIT (R457): MAINTENANCE with ENTER 0. -/
def execMaintenanceExit (r : Req) (arg : List Byte) (s : State) : Host.Outcome State Fault Refusal :=
  onDevSettled s (serveExec r 0x10000A arg maintenanceCore)

/-! ## Sleep (R461, R462) -/

/-- The sources that a sleep mode offers, as bits of WAKE_EN (R464). -/
def offered (mode : Nat) : Nat := match mode with | 1 => 12 | 2 => 13 | _ => 15

/-- The modes from which SLEEP leads into a sleep mode (R452). -/
def sleepable (d : Dev) : Bool := match d.pwr.mode with | .m6 => true | .m7 => true | .m8 => true | .m10 => true | _ => false

/-- The first check of R461: MODE, HBAND, HCHANNEL and the reserved fields. -/
def sleepFieldsOk (d : Dev) (arg : List Byte) : Bool :=
  let mode := leAt arg 0 1
  let hb := leAt arg 2 1
  1 ≤ mode && mode ≤ 3 && leAt arg 1 1 ≤ 1 && leAt arg 4 4 = 0
    && (if mode = 3 then (hb = 0 && (bandChannels d .sf).contains (leAt arg 3 1)) || (hb = 1 && (bandChannels d .g).contains (leAt arg 3 1)) else hb = 0)

/-- The command SLEEP (R461): entry begins 50 ms later. -/
def sleepCore : Core := fun arg d =>
  if !argLen arg 16 then answer d .malformed
  else
    let mode := leAt arg 0 1
    let alarm := signedOf 8 (leAt arg 8 8)
    let enabled := numN d 0x10000B &&& offered mode
    if !sleepFieldsOk d arg then answer d .outOfRange
    else if alarm ≠ 0 && alarm < tbNs d + 100000000 then answer d .outOfRange
    else if (if alarm = 0 then clearBit enabled 3 else enabled) = 0 then answer d .outOfRange
    else if !(leAt arg 1 1).testBit 0 && (d.hier.st = .leased || d.hier.st = .autonomous || d.hier.st = .takingOver) then answer d .wrongMode
    else if d.pwr.sleepReq.isSome then answer d .busy
    else answer { d with pwr := { d.pwr with sleepReq := some (mode, leAt arg 2 1, leAt arg 3 1, alarm), sleepDue := d.clk.up + ms 50 } } .ok

/-- SLEEP (R461). -/
def execSleep (r : Req) (arg : List Byte) (s : State) : Host.Outcome State Fault Refusal := onDev s (serveExec r 0x100009 arg sleepCore)

/-- Every session closed with a CLOSE (R42, R462). -/
def closeSessions (d : Dev) : Dev :=
  let d1 := d.qdl.sessions.foldl (fun x s => tell x s.id (.qdlClose s.id)) d
  { d1 with qdl := { d1.qdl with sessions := [], handshakes := [], relays := [], held := [] } }

/-- Offset 0 of entry (R462): sessions closed, nothing prepared for a later slot; MESH_OK_N follows. -/
def entryBegins (mode : Nat) (d : Dev) : Dev :=
  let d1 : Dev := closeSessions (reach d d.pwr.sleepDue)
  { d1 with
    pwr := { d1.pwr with entering := true, sleepEntryTime := tbNs d1, lastSleep := mode, halyardForeign := 0, sleepDistrict := d1.hier.district }
    sched := { d1.sched with prep := none, prepAsn := none } }

/-- The slots that Canton keeps in the retention bank (R345): slot 0, and the own district's DMK and DGK. -/
def retained (d : Dev) : List HotKey :=
  if tampered d then []
  else [.level2 0 0] ++ ([6, 7].filter (fun k => (keyPresent d k d.hier.district).isSome)).map (fun k => .level2 k d.hier.district)

/-- PPS_OUT driven low (R462). -/
def ppsLow (d : Dev) : Dev :=
  if d.pps.out then emit { d with pps := { d.pps with out := false, ticksLeft := 0 } } (.ppsOut false) else d

/-- The rest of entry (R462): transmission ended, domains off, the bank filled in M2 and M3, pads latched, VCORE off, the time base on
the slow tick, and the sleep mode entered. -/
def entryEnds (mode : Nat) (d : Dev) : Dev :=
  let d1 := ppsLow (bandOff (bandOff (handover (reach d (d.pwr.sleepDue + ms 58)) false) .sf) .g)
  let d2 := vcoreOff { d1 with
    can := { d1.can with hot := [], kek := false, retention := if mode = 1 then [] else retained d1 }
    start := { d1.start with served := false, stage := .idle }
    shp := { d1.shp with ports := d1.shp.ports.map (fun y => { y with sending := none }) }
    gpio := { d1.gpio with latched := (upTo 24).foldl (fun m n => putBit m n (flag d1 ((0x9040 + n) * 256 + 3))) 0 }
    clk := (endSlew d1).clk }
  setMode { d2 with pwr := { d2.pwr with entering := false, padHold := 0x980, domains := if mode = 1 then 1 else 3 } }
    (match mode with | 1 => .m1 | 2 => .m2 | _ => .m3)

/-- SLEEP_ENTRY: entry begins when it is due; once begun, it runs to its end (R462). -/
def sleepEntry (d : Dev) : Dev :=
  match d.pwr.sleepReq with
  | some (mode, _, _, _) =>
    if d.pwr.entering then entryEnds mode d
    else if sleepable d then entryBegins mode d
    else d
  | none => d

/-- SLEEP_ENTRY (R462, R473). -/
def execSleepEntry (s : State) : Host.Outcome State Fault Refusal := onDevSettled s sleepEntry

/-! ## Wake (R463-R469) -/

/-- Entry abandoned before the point of no return (R463): event 4, and the mode that was left. -/
def abortSleep (d : Dev) (bit : Nat) : Dev := raise { d with pwr := { d.pwr with entering := false, sleepReq := none } } 4 (2 ^ bit)

/-- A wake by source `bit` begins (R468): WAKE_CAUSE and WAKE_TIME latched, VCORE commanded on. -/
def wakes (bit : Nat) (d : Dev) : Dev := vcoreOn (restart { d with pwr := { d.pwr with wakeCause := 2 ^ bit, wakeTime := tbNs d } } 3)

/-- A wake source `bit` fires (R463, R464, R468, R469): enabled and offered by the mode, it abandons entry before the point of no return, and
wakes the device after it; within one slow tick of the wake it adds its bit. -/
def wakeBy (bit : Nat) (d : Dev) : Dev :=
  match d.pwr.sleepReq with
  | none => d
  | some (mode, _, _, _) =>
    if !(numN d 0x10000B &&& offered mode).testBit bit then d
    else if d.pwr.entering && d.clk.up < d.pwr.sleepDue + ms 57 then abortSleep d bit
    else if d.pwr.entering then wakes bit (entryEnds mode d)
    else if !d.pwr.mode.asleep then d
    else if d.start.stage = .waitPg then
      if tbNs d - d.pwr.wakeTime ≤ 30518 then { d with pwr := { d.pwr with wakeCause := setBit d.pwr.wakeCause bit } } else d
    else wakes bit d

/-- WAKE_IN: the ball holds its active level for 100 µs (R465). -/
def execWakeIn (s : State) : Host.Outcome State Fault Refusal := onDevSettled s (wakeBy 2)

/-- WAKE_ALARM: the first slow tick at or after ALARM (R465). -/
def wakeAlarm (d : Dev) : Dev :=
  match d.pwr.sleepReq with
  | some (_, _, _, alarm) =>
    if alarm = 0 || !(d.pwr.entering || d.pwr.mode.asleep) then d else wakeBy 3 (reachTb d alarm)
  | none => d

/-- WAKE_ALARM (R465). -/
def execWakeAlarm (s : State) : Host.Outcome State Fault Refusal := onDevSettled s wakeAlarm

/-- E0_LINK_ENERGY: 1 ms of signal energy on E0's receive pair, which D0 watches in M2 and M3 (R466). -/
def execE0LinkEnergy (s : State) : Host.Outcome State Fault Refusal :=
  onDevSettled s (fun d => if d.pwr.mode.asleep then wakeBy 0 d else d)

/-- A window of the Halyard detector in M3 (R467): a match with the own district or 0xFFFF wakes, any other is counted. -/
def halyardWindow (symbols : Nat) (complements : Bool) (ident : Nat) (d : Dev) : Dev :=
  if d.pwr.mode ≠ .m3 || d.start.stage = .waitPg || symbols < numN d 0x100011 || !complements then d
  else if ident = d.pwr.sleepDistrict || ident = 0xFFFF then wakeBy 1 d
  else { d with pwr := { d.pwr with halyardForeign := satAdd d.pwr.halyardForeign 1, halyardLastId := ident } }

/-- HALYARD_WINDOW (R467). -/
def execHalyardWindow (symbols : Fin 65) (complements : Bool) (ident : BitVec 16) (s : State) : Host.Outcome State Fault Refusal :=
  onDevSettled s (halyardWindow symbols.val complements ident.toNat)

end Sys2Proof.Machine
end

