-- ==== Sys2Proof/Machine/Timers.lean ====
section
/-!
DEFINITION. General timers TM0 to TM23 (R525-R538): the update of one tick, capture, arming, groups, and the debug halt.
-/
namespace Sys2Proof.Machine

/-- expire() of R527: the count restarts, or the one-shot timer stops at its period; event 116 if enabled, at most once per
millisecond (R535). -/
def expire (d : Dev) (n : Nat) : Dev :=
  let p := tmPeriod d n
  let d1 := updTimer d n (fun t =>
    let t1 := { t with expiries := satAdd t.expiries 1 }
    if numN d (tmKey n 1) = 0 then { t1 with count := 0 } else { t1 with count := p, run := false, expired := true })
  if flag d (tmKey n 0x0B) then raiseRate d1 116 n 1 (ms 1) (fun k => n * 65536 + Nat.min k 65535) else d1

/-- The next tick of the timer's source makes it expire (R527, R529). -/
def willExpire (d : Dev) (n : Nat) : Bool :=
  let t := timer d n
  let p := tmPeriod d n
  timersOn d && t.run && !tmFrozen d n && p ≠ 0 && (p ≤ t.count || (gateOpen d n && t.count ≠ maxCount && t.count + 1 = p))

/-- The next tick of the timer's source makes it wrap (R527). -/
def willWrap (d : Dev) (n : Nat) : Bool :=
  let t := timer d n
  let p := tmPeriod d n
  timersOn d && t.run && !tmFrozen d n && gateOpen d n && t.count = maxCount && !(p ≠ 0 && p ≤ t.count)

/-- One tick of the source of TM`n` (R527), and then what was asked of it (R528, R534). -/
def timerTick (d : Dev) (n : Nat) : Dev :=
  applyDeferred (
    if willExpire d n then expire d n
    else if willWrap d n then raise (updTimer d n (fun t => { t with count := 0, wrap := true })) 118 n
    else if timersOn d && (timer d n).run && !tmFrozen d n && gateOpen d n then updTimer d n (fun t => { t with count := t.count + 1 })
    else d) n

/-- `k` ticks of the source of TM`n`. -/
def timerTicks : Nat → Dev → Nat → Dev
  | 0, d, _ => d
  | k + 1, d, n => timerTicks k (timerTick d n) n

/-- Time passing at one timer: the ticks of its source that fall into it. -/
def timerPass (dt : Nat) (d : Dev) (n : Nat) : Dev :=
  let k := srcTicks d (tmSel d n) dt
  if k = 0 || (!(timer d n).run && (timer d n).deferred.isEmpty) then d else timerTicks k d n

/-- The clock carried through the next `k` ticks of the timer's source; an expiry or a wrap among them is still to come (log 11). -/
def reachTicks (d : Dev) (n k : Nat) : Dev := reach d (d.clk.up + (k * tmTick d n - srcPhase d (tmSel d n)))

/-- What was asked of the timer, if anything, applied at the next tick of its source. -/
def settled (d : Dev) (n : Nat) : Dev := if (timer d n).deferred.isEmpty then d else reachTicks d n 1

/-- TIMER_EXPIRY: the tick at which a running TM`n` reaches its period, or the next one where it stands at or past it (R527, R529). -/
def timerExpiry (d : Dev) (n : Nat) : Dev :=
  if !srcRuns d (tmSel d n) then d
  else
    let d1 := settled d n
    let t := timer d1 n
    if t.run && !tmFrozen d1 n && tmPeriod d1 n ≠ 0 && (gateOpen d1 n || tmPeriod d1 n ≤ t.count) then
      expire (reachTicks d1 n (Nat.max 1 (tmPeriod d1 n - t.count))) n
    else d1

/-- TIMER_EXPIRY (R527). -/
def execTimerExpiry (n : Fin 24) (s : State) : Host.Outcome State Fault Refusal :=
  .next { s with d := timerExpiry s.d n }

/-- TIMER_WRAP: the tick at which a running TM`n` wraps at 2⁴⁸; a timer with a period expires before (R527). -/
def timerWrap (d : Dev) (n : Nat) : Dev :=
  if !srcRuns d (tmSel d n) then d
  else
    let d1 := settled d n
    if (timer d1 n).run && !tmFrozen d1 n && gateOpen d1 n && tmPeriod d1 n = 0 then
      raise (updTimer (reachTicks d1 n (maxCount + 1 - (timer d1 n).count)) n (fun t => { t with count := 0, wrap := true })) 118 n
    else d1

/-- TIMER_WRAP (R527). -/
def execTimerWrap (n : Fin 24) (s : State) : Host.Outcome State Fault Refusal :=
  .next { s with d := timerWrap s.d n }

/-- The edge is one that CAP_EDGE selects: 0 rising, 1 falling, 2 both (R531, R537). -/
def capEdge (d : Dev) (n : Nat) (falling : Bool) : Bool :=
  match numN d (tmKey n 9) with | 0 => !falling | 1 => falling | _ => true

/-- COUNT copied into the capture register; a capture not yet read is overrun and event 117 raised (R531). -/
def capture (d : Dev) (n : Nat) : Dev :=
  let t := timer d n
  let d1 := updTimer d n (fun x => { x with capture := x.count, capNew := true, overrun := x.overrun || x.capNew })
  if t.capNew then raise d1 117 n else d1

/-- The level that an edge leaves at an input. -/
def setInput (d : Dev) (src : Nat) (high : Bool) : Dev :=
  if src = 25 then { d with gpio := { d.gpio with ppsIn := high } }
  else { d with gpio := { d.gpio with input := putBit d.gpio.input (src - 1) high } }

/-- An edge at the capture input of TM`n` (R531). -/
def captureEdge (d : Dev) (n : Nat) (falling : Bool) : Dev :=
  let src := numN d (tmKey n 8)
  if src = 0 || !timersOn d then d
  else
    let d1 := setInput d src !falling
    if capEdge d n falling then capture d1 n else d1

/-- TIMER_CAPTURE (R530, R531). -/
def execTimerCapture (n : Fin 24) (falling : Bool) (s : State) : Host.Outcome State Fault Refusal :=
  .next { s with d := captureEdge s.d n falling }

/-! ## Commands -/

/-- An ARM or a STOP, which takes effect at the next tick of the source, on a frozen timer at the first after the halt (R528, R532). -/
def armTimer (d : Dev) (n : Nat) : Dev := updTimer d n (fun t => { t with deferred := t.deferred ++ [true] })
def stopTimer (d : Dev) (n : Nat) : Dev := updTimer d n (fun t => { t with deferred := t.deferred ++ [false] })

/-- The command ARM (R528). -/
def armCore (n : Nat) : Core := fun arg d =>
  if !argLen arg 0 then answer d .malformed
  else if tmPeriod d n ≠ 0 ∧ tmPeriod d n ≤ tmPhase d n then answer d .outOfRange
  else answer (armTimer d n) .ok

/-- ARM (R528). -/
def execArm (r : Req) (n : Fin 24) (arg : List Byte) (s : State) : Host.Outcome State Fault Refusal :=
  .next { s with d := serveExec r (tmKey n 0x0C) arg (armCore n) s.d }

/-- The command STOP (R528). -/
def stopCore (n : Nat) : Core := fun arg d =>
  if !argLen arg 0 then answer d .malformed else answer (stopTimer d n) .ok

/-- STOP (R528). -/
def execStop (r : Req) (n : Fin 24) (arg : List Byte) (s : State) : Host.Outcome State Fault Refusal :=
  .next { s with d := serveExec r (tmKey n 0x0D) arg (stopCore n) s.d }

/-- The command CLEAR_FLAGS: bits 1, 3 and 4 clear EXPIRED, OVERRUN and WRAP; another bit gives OUT_OF_RANGE (R537). -/
def clearFlagsCore (n : Nat) : Core := fun arg d =>
  if !argLen arg 4 then answer d .malformed
  else
    let m := leNat arg
    if !maskOk 0x1A m then answer d .outOfRange
    else answer (updTimer d n (fun t =>
      { t with expired := t.expired && !m.testBit 1, overrun := t.overrun && !m.testBit 3, wrap := t.wrap && !m.testBit 4 })) .ok

/-- CLEAR_FLAGS (R537). -/
def execClearFlags (r : Req) (n : Fin 24) (arg : List Byte) (s : State) : Host.Outcome State Fault Refusal :=
  .next { s with d := serveExec r (tmKey n 0x0F) arg (clearFlagsCore n) s.d }

/-- The members of a group, in ascending timer number (R533). -/
def members (d : Dev) (g : Nat) : List Nat := (upTo 24).filter (fun n => numN d (tmKey n 7) = g)

/-- Every element of the list equals the first. -/
def allSame (l : List Nat) : Bool := match l with | [] => true | a :: t => t.all (· = a)

/-- GROUP_START finds the members fit to start together (R533). -/
def groupOk (d : Dev) (m : List Nat) (stagger : Bool) : Bool :=
  !m.isEmpty && allSame (m.map (fun n => numN d (tmKey n 2))) && allSame (m.map (fun n => tmPeriod d n))
    && (!stagger || m.all (fun n => numN d (tmKey n 1) = 0 && tmPeriod d n ≠ 0))

/-- Staggered phases: the `i`th member's PHASE is floor(i × PERIOD / m) (R533). -/
def staggerPhases (d : Dev) (m : List Nat) : Dev :=
  m.zipIdx.foldl (fun x p => putRw x (tmKey p.1 6) (.num ((p.2 * tmPeriod d p.1 / m.length : Nat) : Int))) d

/-- The command GROUP_START (R533). -/
def groupStartCore : Core := fun arg d =>
  match arg with
  | [g, b] =>
    match argBool b with
    | none => answer d .outOfRange
    | some stagger =>
      if 7 < g.toNat then answer d .outOfRange
      else
        let m := members d g.toNat
        if !groupOk d m stagger then answer d .outOfRange
        else
          let d1 := if stagger then staggerPhases d m else d
          let d2 := m.foldl armTimer d1
          (raise d2 119 (g.toNat * 256 + m.length), .ok, [BitVec.ofNat 8 m.length])
  | _ => answer d .malformed

/-- GROUP_START (R533). -/
def execGroupStart (r : Req) (arg : List Byte) (s : State) : Host.Outcome State Fault Refusal :=
  .next { s with d := serveExec r 0x190002 arg groupStartCore s.d }

/-- The command GROUP_STOP stops the members on one tick (R533, R536). -/
def groupStopCore : Core := fun arg d =>
  match arg with
  | [g] => if 7 < g.toNat then answer d .outOfRange else answer ((members d g.toNat).foldl stopTimer d) .ok
  | _ => answer d .malformed

/-- GROUP_STOP (R536). -/
def execGroupStop (r : Req) (arg : List Byte) (s : State) : Host.Outcome State Fault Refusal :=
  .next { s with d := serveExec r 0x190003 arg groupStopCore s.d }

/-- DEBUG_HALT: a halt begins, only while the debug access port is not locked, or ends (R532, R487). -/
def execDebugHalt (begin_ : Bool) (s : State) : Host.Outcome State Fault Refusal :=
  .next { s with d :=
    if begin_ then (if s.perm.debugLocked then s.d else { s.d with halted := true })
    else { s.d with halted := false } }

end Sys2Proof.Machine
end

