-- ==== Sys2Proof/Machine/EventNames.lean ====
section
/-!
DEFINITION. EVT_NAME and EVT_OWNER of the 128 events (R558, R612), from the event tables of the chapters; a reserved event has the
empty name.
-/
namespace Sys2Proof.Machine

/-- EVT_NAME of events 0–31 (R558). -/
def eventNames0 : List String :=
  ["MODE_CHANGED", "WAKE", "BROWNOUT", "PADS_RELEASED", "SLEEP_ABORTED", "HALYARD_FOREIGN", "WAKE_RETRY", "MESH_OK",
   "GOV_STATE_CHANGED", "CLASS_STARVED", "BATT_STALE", "SENSOR_FAULT", "THERM_CRITICAL", "PROFILE_CHANGED",
   "SYNC_DEFERRED", "OVERTEMP", "SYNC_STATE_CHANGED", "ALIGN_EXCEEDED", "TIME_STEPPED", "PPS_IN_MISSING", "OUTLIER",
   "PTP_PARENT_CHANGED", "REF_LOST", "SLEW_SATURATED", "CAL_DONE", "CAL_ABANDONED", "TX_LATE", "MASK_VIOLATION",
   "TX_INHIBITED", "TX_RESUMED", "PREOFFSET_CLAMPED", "IMAGE_REJ_LOW"]

/-- EVT_NAME of events 32–63 (R558). -/
def eventNames1 : List String :=
  ["LANE_FAULT", "LANE_QUARANTINED", "LANE_RESTORED", "CHANNEL_UNCOVERED", "RX_NO_BUFFER", "RX_QUEUE_FULL",
   "FALSE_PREAMBLE_STORM", "RX_CLIPPED", "SCHEDULE_SWITCHED", "SWITCH_LATE", "DELTA_REJECTED", "NEARFAR_EXCEEDED",
   "ACK_OVERRUN", "RX_PREEMPTED", "SCHEDULE_STOPPED", "AUTONOMY", "NEIGHBOUR_ADRIFT", "NEIGHBOUR_RESYNC",
   "TX_ABANDONED", "REPLAY_DROPPED", "PENNANT_SPILL", "NODE_JOINED", "JOIN_REFUSED", "HALYARD_SENT", "ECC_CORRECTED",
   "ECC_UNCORRECTABLE", "GRANULE_RETIRED", "GRANULE_RESTORED", "POOL_EXHAUSTED", "QUEUE_RESET", "QUEUE_QUARANTINED",
   "QUEUE_RESTORED"]

/-- EVT_NAME of events 64–95 (R558). -/
def eventNames2 : List String :=
  ["QUEUE_REWIND", "SCRUB_PASS_DONE", "SCRUB_BEHIND", "MAP_CHANGED", "ORPHANED_GRANULE", "", "", "", "TABLE_FULL",
   "LEARN_OVERFLOW", "NODE_AGED", "AGE_PASS_DONE", "AGE_BEHIND", "TABLE_LOSS", "ROUTE_FAILED", "REASM_DROP",
   "GATE_SWITCHED", "GATE_BASE_ADJUSTED", "OVERSIZE_DROP", "LINK_DOWN_DROP", "HOLD_FULL", "HOLD_EXPIRED",
   "GATE_RESTORE_WAIT", "", "TAMPER", "TAMPER_CLEARED", "KEY_INSTALLED", "KEY_INVALIDATED", "KEY_UPDATE_REJECTED",
   "KEY_USES_LOW", "KEY_EXHAUSTED", "KEY_EXPORTED"]

/-- EVT_NAME of events 96–127 (R558). -/
def eventNames3 : List String :=
  ["KEY_REBUILT", "SEC_FAIL", "GROUP_FC", "HOT_SLOTS_FULL", "FW_WRITTEN", "HOIST_DONE", "FW_REJECTED", "FW_CONFIRMED",
   "IMAGE_COMMITTED", "CAMPAIGN_STATE", "IMAGE_DAMAGED", "CAMPAIGN_STALLED", "LEASE_EXPIRED", "FENCED",
   "WORKER_SUSPECT", "WORKER_DEAD", "TAKEOVER_DONE", "NODE_DROPPED", "HL_LINK", "MANAGER_LOST", "TIMER_EXPIRED",
   "CAPTURE_OVERRUN", "TIMER_WRAP", "GROUP_STARTED", "", "", "", "", "ERROR_LOGGED", "ERRORS_LOST", "UNIT_QUARANTINED",
   "TELEM_OVERRUN"]

/-- EVT_NAME of event `e` (R558). -/
def eventName (e : Nat) : String := nth (eventNames0 ++ eventNames1 ++ eventNames2 ++ eventNames3) e ""

/-- EVT_OWNER of event `e` (R612). -/
def eventOwner (e : Nat) : Nat :=
  if e < 8 then 0x1000 else if e < 16 then 0x1100 else if e < 24 then 0x1800 else if e < 32 then 0x2000 else if e < 40 then 0x2200 else if e < 48 then 0x3000 else if e < 56 then 0x3100 else if e < 72 then 0x4000
  else if e < 80 then 0x4400 else if e < 88 then 0x4800 else if e < 100 then 0x5000 else if e < 104 then 0x6000 else if e < 108 then 0x6100 else if e < 116 then 0x7000 else if e < 124 then 0x1900 else 0x8000

end Sys2Proof.Machine
end

