-- ==== Sys2Proof/Machine/Manager.lean ====
section
/-!
DEFINITION. The hierarchy as the manager sees it (R366, R372, R379-R393, R397, R398), and the arrival of every link message.
-/
namespace Sys2Proof.Machine

/-! ## Districts (R366, R397) -/

/-- The manager's record of a district. -/
def distRec (d : Dev) (k : Nat) : DistrictRec := (findKey DistrictRec.district k d.hier.districts).getD { district := k }

/-- The record of a district changed. -/
def updDist (d : Dev) (k : Nat) (f : DistrictRec → DistrictRec) : Dev :=
  { d with hier := { d.hier with districts := putKey DistrictRec.district (f (distRec d k)) d.hier.districts } }

/-- The district a device serves or is to serve (R397). -/
def districtOf (d : Dev) (w : Nat) : Option DistrictRec := d.hier.districts.find? (fun x => x.server = w && x.dstate ≠ 0)

/-- W_STATE (R398). -/
def wState (d : Dev) (w : Nat) : Nat :=
  if !wProvisioned d w then 0
  else if (wRec d w).dead then 4
  else if (wRec d w).suspect then 3
  else if linkUp d w then 2 else 1

/-- The takeover of a district under way. -/
def takeoverOf (d : Dev) (k : Nat) : Option Takeover := d.hier.takeovers.find? (fun t => t.district = k)

/-- The takeover of a district replaced. -/
def setTakeover (d : Dev) (t : Takeover) : Dev :=
  { d with hier := { d.hier with takeovers := putKey Takeover.district t d.hier.takeovers } }

/-! ## Heartbeats (R372, R379, R393) -/

/-- A HEARTBEAT sent to a device (R372): its HB_SEQ awaits its acknowledgement. -/
def sendHb (d : Dev) (w district epoch : Nat) (revoke standby : Bool) (till : Int) : Dev :=
  let seq := d.hier.nextHb
  let d1 := updW { d with hier := { d.hier with
      nextHb := seq + 1
      requests := d.hier.requests.filter (fun r => !(r.peer = w && (match r.msg with | .heartbeat .. => true | _ => false))) } }
    w (fun x => { x with hbSeq := some seq, acked := false, leaseEnd := if x.leaseEnd < till then till else x.leaseEnd })
  hlSend d1 w (.heartbeat seq district revoke standby (numN d 0x701003) epoch (numN d 0x701001) till)

/-- The lease a heartbeat sent now carries (R372). -/
def leaseFrom (d : Dev) : Int := tbNs d + num d 0x701002 * 1000000

/-- The heartbeat due to a device (R372, R379, R381). -/
def heartbeatTo (d : Dev) (w : Nat) : Dev :=
  match districtOf d w with
  | some x =>
    match takeoverOf d x.district with
    | some t =>
      if t.target = some w then sendHb d w x.district x.epoch false false 0
      else sendHb d w x.district x.epoch (t.key.isSome && !(wRec d w).dead) false (wRec d w).leaseEnd
    | none => sendHb d w x.district x.epoch false false (if (wRec d w).suspect then (wRec d w).leaseEnd else leaseFrom d)
  | none => sendHb d w 0 0 false true 0

/-- A heartbeat that was not acknowledged counts as missed; MISS_LIMIT of them make the device SUSPECT (R379). -/
def countMiss (d : Dev) (w : Nat) : Dev :=
  let x := wRec d w
  if x.acked || x.hbSeq.isNone then d
  else
    let m := sat255 (x.missed + 1)
    let d1 := updW d w (fun y => { y with missed := m })
    if numN d 0x701003 ≤ m && !x.suspect && !x.dead then raise (updW d1 w (fun y => { y with suspect := true, witness := [] })) 110 w else d1

/-- The witnesses of a SUSPECT worker's district are asked (R379). -/
def askWitnesses (d : Dev) (w : Nat) : Dev :=
  if !(wRec d w).suspect || (wRec d w).dead then d
  else
    match districtOf d w with
    | some x => (marked d w).foldl (fun y v =>
        if linkUp y v then hlSend { y with hier := { y.hier with nextReq := y.hier.nextReq + 1 } } v (.witnessReq y.hier.nextReq x.district) else y) d
    | none => d

/-- A key of the manager's table sent to a device as a KEY_MSG (R339, R391): EXPORT_CTR is committed first; whether it was sent. -/
def sendKey (d : Dev) (w kind id : Nat) : Dev × Bool :=
  match keyEntry d kind id with
  | some e =>
    if !e.exportable || !e.present || tampered d then (d, false)
    else
      let c := commitNv d 1 8 [cantonPage]
      if c.2 ≠ .ok then (c.1, false)
      else
        let d1 : Dev := { c.1 with can := { c.1.can with exportCtr := d.can.exportCtr + 1 } }
        let m := exportMessage d1 kind id (leNat (octets d1 (wKey w 1))) (d.can.exportCtr + 1) (octets d1 (wKey w 2))
        (hlSend (raise (drawn d1) 95 id) w (.keyMsg m { hashOk := true, sigOk := true, key := some e.key }), true)
  | none => (d, false)

/-- An INVALIDATE of a district's DGK sent to a device that is no longer its witness (R335, R393); whether it was sent. -/
def sendInvalidate (d : Dev) (w id : Nat) : Dev × Bool :=
  let c := commitNv d 1 8 [cantonPage]
  if tampered d then (d, false)
  else if c.2 ≠ .ok then (c.1, false)
  else
    let d1 : Dev := { c.1 with can := { c.1.can with exportCtr := d.can.exportCtr + 1 } }
    let m := toLe 1 1 ++ toLe 1 2 ++ toLe 1 7 ++ toLe 1 0 ++ toLe 2 id ++ toLe 2 0 ++ toLe 8 (leNat (octets d1 (wKey w 1))) ++ toLe 8 0
      ++ sha256 (octets d1 (wKey w 2)) ++ toLe 8 (d.can.exportCtr + 1) ++ toLe 1 1 ++ toLe 7 0 ++ toLe 64 0 ++ toLe 40 0
      ++ toLe 64 (Config.exportSig d1.free)
    (hlSend (drawn d1) w (.keyMsg m { hashOk := true, sigOk := true, key := none }), true)

/-- The districts whose beacons a device is to authenticate (R393), with the generation of the DGK held. -/
def witnessed (d : Dev) (w : Nat) : List (Nat × Nat) :=
  (d.hier.districts.filter (fun x => x.dstate = 1 && x.server ≠ w && (marked d x.server).contains w)).filterMap (fun x =>
    match keyEntry d 7 x.district with | some e => if e.present && e.exportable then some (x.district, e.gen) else none | none => none)

/-- The DGKs of the districts that a device witnesses, sent after a link opens, an INSTALL or a change of server (R393). -/
def sendDgks (d : Dev) (w : Nat) : Dev :=
  if !linkUp d w then d
  else
    let want := witnessed d w
    let have_ := (wRec d w).dgks
    let sent := (want.filter (fun x => !have_.contains x)).foldl (fun (y : Dev × List (Nat × Nat)) x =>
      let r := sendKey y.1 w 7 x.1
      (r.1, if r.2 then y.2.filter (fun z => z.1 ≠ x.1) ++ [x] else y.2)) (d, have_)
    let dropped := (sent.2.filter (fun x => !want.any (fun z => z.1 = x.1))).foldl (fun (y : Dev × List (Nat × Nat)) x =>
      let r := sendInvalidate y.1 w x.1
      (r.1, if r.2 then y.2.filter (fun z => z.1 ≠ x.1) else y.2)) sent
    updW dropped.1 w (fun x => { x with dgks := dropped.2 })

/-- What the manager does for one device each HB_INTERVAL. -/
def tendDevice (p : Perm) (d : Dev) (w : Nat) : Dev :=
  if !wProvisioned d w then d
  else
    let d1 := if d.hier.links.any (fun l => l.peer = w) || d.hier.opening.any (fun o => o.1 = w) then d else sendOpen p d w
    if (wRec d1 w).hbSeq.isNone && !linkUp d1 w then d1
    else sendDgks (askWitnesses (heartbeatTo (countMiss d1 w) w) w) w

/-- HEARTBEAT_SEND: every HB_INTERVAL (R372, R379). -/
def heartbeatSend (p : Perm) (d : Dev) : Dev :=
  if !p.manager || !qdlServed d || !d.pwr.mode.running then d
  else
    let d1 := reach d (d.hier.hbAt + ms (numN d 0x701001))
    (upTo 160).foldl (tendDevice p) { d1 with hier := { d1.hier with hbAt := d1.clk.up } }

/-- HEARTBEAT_SEND (R372). -/
def execHeartbeatSend (s : State) : Host.Outcome State Fault Refusal := onDev s (heartbeatSend s.perm)

/-! ## Takeovers (R381-R385) -/

/-- A device that can take a district over (R381). -/
def qualifies (d : Dev) (t : Takeover) (w : Nat) : Bool :=
  wProvisioned d w && linkUp d w && (wRec d w).hstate = 6 && (wRec d w).align ≤ 1000 && !t.tried.contains w

/-- The new server (R381): the lowest-ID spare, failing that the lowest-ID worker; a restart's or command's own target. -/
def chooseServer (d : Dev) (t : Takeover) : Option Nat :=
  match t.wanted with
  | some w => if linkUp d w && !t.tried.contains w then some w else none
  | none =>
    match ((upTo 32).map (· + 128)).find? (qualifies d t) with
    | some w => some w
    | none => ((upTo 127).map (· + 1)).find? (qualifies d t)

/-- The first grid instant at or after a time (R383). -/
def gridAt (d : Dev) (t : Int) : Int :=
  let len := num d 0x70100D
  let o := num d 0x70100E
  o + (-((-(t - o)) / len)) * len

/-- The new epoch committed, with the time reference of a first one (R366, R383); false where the commit is refused. -/
def commitEpoch (d : Dev) (t : Takeover) : Dev × Bool :=
  if t.restart && !t.assign then (d, true)
  else if t.committed then (d, true)
  else
    let c := commitNv d 1 8 [counterPage]
    if c.2 ≠ .ok then (c.1, false)
    else if t.assign then
      let start := tbNs c.1 + num d 0x701004 * 1000000
      (updDist c.1 t.district (fun x => { x with
        epoch := 1, fresh := true, asnRef := 0, asnRefTime := gridAt d start, slotLen := numN d 0x70100D, mark := 0, deltaSeq := 0, nodes := [] }), true)
    else (updDist c.1 t.district (fun x => { x with epoch := x.epoch + 1 }), true)

/-- The district's schedule sent as deltas numbered from BASE_SEQ + 1 on (R382, R391); the counter persists. -/
def sendDeltas (d : Dev) (w k : Nat) : Dev :=
  let l := Config.scheduleDeltas k d.free
  let base := (distRec d k).deltaCtr
  let d1 := l.zipIdx.foldl (fun x q =>
    ((chunks 1400 q.1.length q.1).zipIdx).foldl (fun y c => hlSend y w (.deltaPart (base + 1 + q.2) q.1.length (1400 * c.2) c.1)) x) (drawn d)
  updDist d1 k (fun x => { x with deltaCtr := base + l.length })

/-- TAKEOVER and what follows it, sent to the new server (R381, R382). -/
def sendTakeover (d : Dev) (t : Takeover) (w : Nat) (start : Int) : Dev :=
  let x := distRec d t.district
  let d1 := hlSend d w (.takeover t.district t.restart x.epoch x.deltaCtr start)
  let d2 := (sendKey (sendKey d1 w 6 t.district).1 w 7 t.district).1
  let d3 := hlSend d2 w (.replDistrict t.district x.epoch x.asnRef x.asnRefTime x.slotLen x.mark x.deltaSeq x.nodes.length)
  let d4 := sendDeltas (sendNodes d3 w x.nodes) w t.district
  hlSend d4 w (.restoreEnd x.nodes.length (distRec d4 t.district).deltaCtr)

/-- One attempt at a takeover (R366, R381): no candidate, or a refused commit, is tried again in one second. -/
def tryTakeover (d : Dev) (t : Takeover) : Dev :=
  match chooseServer d t with
  | none => setTakeover (updDist d t.district (fun x => { x with dstate := 3 })) { t with due := d.clk.up + sec 1 }
  | some w =>
    let c := commitEpoch d t
    if !c.2 then setTakeover c.1 { t with due := d.clk.up + sec 1 }
    else
      let start : Int := if t.assign then tbNs d + num d 0x701004 * 1000000 else (wRec d t.old).leaseEnd + num d 0x701004 * 1000000
      let d1 := updDist c.1 t.district (fun x => { x with server := w, dstate := 2 })
      sendTakeover (setTakeover d1 { t with committed := true, target := some w, start := start }) t w start

/-- The takeover whose attempt is due first. -/
def firstDue (d : Dev) : Option Takeover :=
  (d.hier.takeovers.filter (fun t => t.target.isNone)).foldl
    (fun b t => match b with | none => some t | some x => if t.due < x.due then some t else some x) none

/-- TAKEOVER_START (R381). -/
def takeoverStart (p : Perm) (d : Dev) : Dev :=
  if !p.manager then d
  else match firstDue d with | some t => tryTakeover (reach d t.due) t | none => d

/-- TAKEOVER_START (R381). -/
def execTakeoverStart (s : State) : Host.Outcome State Fault Refusal := onDev s (takeoverStart s.perm)

/-- EPOCH_COMMIT: the commit of a new epoch is tried again (R366). -/
def epochCommit (p : Perm) (d : Dev) : Dev :=
  if !p.manager then d
  else match d.hier.takeovers.find? (fun t => t.target.isNone && !t.committed && !(t.restart && !t.assign)) with
    | some t => tryTakeover (reach d t.due) t
    | none => d

/-- EPOCH_COMMIT (R366). -/
def execEpochCommit (s : State) : Host.Outcome State Fault Refusal := onDev s (epochCommit s.perm)

/-- A takeover begun. -/
def beginTakeover (d : Dev) (k old : Nat) (restart assign : Bool) (wanted key : Option Nat) : Dev :=
  if (takeoverOf d k).isSome then d
  else
    updDist (setTakeover d { district := k, restart := restart, assign := assign, wanted := wanted, tried := [], old := old, committed := false
                             target := none, start := 0, due := d.clk.up, key := key }) k (fun x => { x with dstate := 2 })

/-- A SUSPECT worker is declared DEAD (R380): event 111, and its district is taken over (R381). -/
def declareDead (d : Dev) (w : Nat) : Dev :=
  let d1 := raise (updW d w (fun x => { x with dead := true, suspect := false })) 111 w
  match districtOf d1 w with
  | some x => beginTakeover d1 x.district w false false none none
  | none => d1

/-- The command TAKEOVER: DISTRICT, TARGET (R381, R397). -/
def takeoverCore (p : Perm) : Core := fun arg d =>
  if !p.manager then answer d .wrongMode
  else if !argLen arg 3 then answer d .malformed
  else
    let k := leAt arg 0 2
    let w := leAt arg 2 1
    if k = 0 ∨ 127 < k ∨ !(w = 255 || wProvisioned d w) then answer d .outOfRange
    else if (distRec d k).dstate = 0 ∨ (takeoverOf d k).isSome then answer d .wrongMode
    else
      let old := (distRec d k).server
      let d1 := beginTakeover (accept d 0x701009) k old false false (if w = 255 then none else some w) (some 0x701009)
      answer (if wProvisioned d1 old then sendHb d1 old k (distRec d1 k).epoch true false (tbNs d1) else d1) .ok

/-- TAKEOVER_COMMAND (R381). -/
def execTakeoverCommand (r : Req) (arg : List Byte) (s : State) : Host.Outcome State Fault Refusal :=
  onDev s (serveExec r 0x701009 arg (takeoverCore s.perm))

/-- The command ASSIGN: WORKER, DISTRICT (R383, R397). -/
def assignCore (p : Perm) : Core := fun arg d =>
  if !p.manager then answer d .wrongMode
  else if !argLen arg 3 then answer d .malformed
  else
    let w := leAt arg 0 1
    let k := leAt arg 1 2
    if k = 0 ∨ 127 < k ∨ !wProvisioned d w then answer d .outOfRange
    else if (distRec d k).dstate ≠ 0 ∨ (districtOf d w).isSome then answer d .wrongMode
    else answer (beginTakeover (accept d 0x701008) k 255 true true (some w) (some 0x701008)) .ok

/-- ASSIGN (R383). -/
def execAssign (r : Req) (arg : List Byte) (s : State) : Host.Outcome State Fault Refusal :=
  onDev s (serveExec r 0x701008 arg (assignCore s.perm))

/-- The command DECLARE_DEAD: WORKER (R380, R397). -/
def declareDeadCore (p : Perm) : Core := fun arg d =>
  if !p.manager then answer d .wrongMode
  else
    match arg with
    | [b] => if wState d b.toNat = 3 then answer (declareDead d b.toNat) .ok else answer d .wrongMode
    | _ => answer d .malformed

/-- DECLARE_DEAD (R397). -/
def execDeclareDead (r : Req) (arg : List Byte) (s : State) : Host.Outcome State Fault Refusal :=
  onDev s (serveExec r 0x70100A arg (declareDeadCore s.perm))

/-! ## Messages to the manager -/

/-- An HB_ACK (R372, R379, R382): the suspicion ends; a worker that reports UNLINKED while its district is its own restarts. -/
def onHbAck (w seq hstate align : Nat) (d : Dev) : Dev :=
  let x := wRec d w
  let d1 := updW d w (fun y => { y with hstate := hstate, align := align })
  let d2 := if x.hbSeq = some seq then updW d1 w (fun y => { y with acked := true, missed := 0, suspect := false, dead := false, witness := [] }) else d1
  match districtOf d2 w with
  | some k => if hstate = 0 && k.dstate = 1 then beginTakeover d2 k.district w true false (some w) none else d2
  | none => d2

/-- A WITNESS_RSP (R380): DEAD when every response since the suspicion tells of no recent beacon of the district's epoch. -/
def onWitnessRsp (district age epoch : Nat) (d : Dev) : Dev :=
  let k := distRec d district
  let w := k.server
  if !(wRec d w).suspect || (wRec d w).dead then d
  else
    let d1 := updW d w (fun x => { x with witness := x.witness ++ [(age, epoch)] })
    if (wRec d1 w).witness.all (fun x => numN d 0x701006 < x.1 || x.2 ≠ k.epoch) then declareDead d1 w else d1

/-- A READY (R385): the server is leased and the takeover counted, or the next candidate is tried; a restart that failed is a takeover
from then on. -/
def onReady (w district status : Nat) (d : Dev) : Dev :=
  match takeoverOf d district with
  | some t =>
    if t.target ≠ some w then d
    else
      let d0 : Dev := { d with hier := { d.hier with
        requests := d.hier.requests.filter (fun r => !(r.peer = w && (match r.msg with | .takeover k _ _ _ _ => k = district | _ => false))) } }
      if status = 0 then
        let d1 := updDist { d0 with hier := { d0.hier with takeovers := d0.hier.takeovers.filter (fun x => x.district ≠ district) } } district
          (fun x => { x with server := w, dstate := 1, fresh := false })
        let d2 := sendHb d1 w district (distRec d1 district).epoch false false (leaseFrom d1)
        let d3 := count (raise d2 112 (district * 256 + w)) 0x70100C
        match t.key with | some k => finish d3 k | none => d3
      else
        setTakeover (updDist d0 district (fun x => { x with server := t.old, dstate := 2 }))
          { t with tried := t.tried ++ [w], target := none, due := d.clk.up, wanted := none, restart := t.assign }
  | none => d

/-- The holder of a node, and its last sighting (R390). -/
def holderOf (d : Dev) (eui : Nat) : Option (Nat × Int × Nat) :=
  match tableEntry d eui with
  | none => none
  | some e =>
    let repl : Option ReplNode := match districtOf d e.worker with | some x => x.nodes.find? (fun n => n.eui = eui) | none => none
    let heard := (repl.bind ReplNode.pennant).map (fun q => (q.lastHeard, q.lqi))
    let claim := (d.hier.sightings.find? (fun s => s.eui = eui && s.worker = e.worker)).map (fun s => (s.at_, s.lqi))
    let best : Int × Nat := match heard, claim with
      | some h, some c => if c.1 < h.1 then h else c
      | some h, none => h
      | none, some c => c
      | none, none => (0, 0)
    some (e.worker, best.1, best.2)

/-- A node granted to a worker (R390): its city entry and the sighting follow. -/
def grantNode (p : Perm) (d : Dev) (w id eui short lqi : Nat) (sight : Int) : Dev :=
  let k := match districtOf d w with | some x => x.district | none => 0
  let d1 := (insertEntry p d eui short w k 0xFFFFFFFF false).1
  hlSend { d1 with hier := { d1.hier with sightings := d1.hier.sightings.filter (fun s => s.eui ≠ eui) ++ [⟨eui, w, sight, lqi⟩] } } w (.verdict id true w)

/-- A CLAIM decided (R390). -/
def onClaim (p : Perm) (w id eui lqi short : Nat) (sight : Int) (d : Dev) : Dev :=
  match holderOf d eui with
  | none => grantNode p d w id eui short lqi sight
  | some (h, last, hl) =>
    if h = w then grantNode p d w id eui short lqi sight
    else if num d 0x701005 * 1000000 < ((sight - last).natAbs : Int) then
      hlSend (grantNode p d w id eui short lqi sight) h (.drop eui w)
    else if hl < lqi || (lqi = hl && w < h) then
      count (hlSend (grantNode p d w id eui short lqi sight) h (.drop eui w)) 0x70100B
    else count (hlSend d w (.verdict id false h)) 0x70100B

/-- A server's REPL_DISTRICT kept by the manager (R388). -/
def keepDistrict (w district asnRef : Nat) (asnRefTime : Int) (slotLen mark deltaSeq : Nat) (d : Dev) : Dev :=
  if (distRec d district).server ≠ w then d
  else updDist d district (fun x => { x with asnRef := asnRef, asnRefTime := asnRefTime, slotLen := slotLen, mark := mark, deltaSeq := deltaSeq })

/-- A replicated record tells of activity: LAST_HEARD or UP_PKTS has advanced (R388). -/
def advanced (old new : ReplNode) : Bool :=
  let heard (n : ReplNode) : Int := match n.pennant with | some q => q.lastHeard | none => 0
  decide (heard old < heard new) || decide (old.route.upPkts < new.route.upPkts)

/-- A replicated record kept, and the city table rebuilt from it (R288, R388). -/
def keepNode (p : Perm) (w district : Nat) (d : Dev) (n : ReplNode) : Dev :=
  let old := (distRec d district).nodes.find? (fun x => x.record = n.record)
  let d1 := updDist d district (fun x => { x with nodes := putKey ReplNode.record n x.nodes })
  match tableEntry d1 n.eui with
  | none => (insertEntry p d1 n.eui n.short w district 0xFFFFFFFF false).1
  | some _ =>
    let d2 := updEntry d1 n.eui (fun e => { e with worker := w, district := district, short := n.short })
    match old with | some o => if advanced o n then setHit d2 n.eui else d2 | none => setHit d2 n.eui

/-- A server's REPL_NODES kept by the manager (R388). -/
def keepNodes (p : Perm) (w : Nat) (items : List ReplNode) (d : Dev) : Dev :=
  match districtOf d w with | some x => items.foldl (keepNode p w x.district) d | none => d

/-- A server's REPL_GONE kept by the manager (R388). -/
def keepGone (w : Nat) (records : List Nat) (d : Dev) : Dev :=
  match districtOf d w with
  | some x => records.foldl (fun y r =>
      match (distRec y x.district).nodes.find? (fun n => n.record = r) with
      | some n =>
        let y1 := updDist y x.district (fun z => { z with nodes := dropKey ReplNode.record r z.nodes })
        match tableEntry y1 n.eui with | some e => if e.worker = w then dropEntry y1 n.eui else y1 | none => y1
      | none => y) d
  | none => d

/-! ## The arrival of a message (R369, R370) -/

/-- A request of the other device answered: the request is no longer repeated (R369). -/
def answered (d : Dev) (peer : Nat) (m : HlMsg) : Dev :=
  match ansId d.sched.epoch m with
  | some i =>
    { d with hier := { d.hier with requests := d.hier.requests.filter (fun r =>
        !(r.peer = peer && (match r.msg, m with | .deltaPart id _ _ _, .deltaResult j _ _ _ => id = j | _, _ => reqId r.msg = some i))) } }
  | none => d

/-- A message that the manager takes, other than a relayed response. -/
def managerTakes (p : Perm) (w : Nat) (m : HlMsg) (d : Dev) : Dev :=
  match m with
  | .hbAck seq hstate _ _ align _ => onHbAck w seq hstate align d
  | .witnessRsp _ district age epoch => onWitnessRsp district age epoch d
  | .replDistrict k _ asnRef t len mark seq _ => keepDistrict w k asnRef t len mark seq d
  | .replNodes l => keepNodes p w l d
  | .replGone l => keepGone w l d
  | .claim id eui lqi short sight => onClaim p w id eui lqi short sight d
  | .deltaResult id st _ asn => updW d w (fun x => { x with deltaResult := some (id, st, asn) })
  | .ready k st => onReady w k st d
  | .keyResult ctr st => updW d w (fun x => { x with keyResult := some (ctr, st) })
  | .report kind b k e a0 a1 => updW d w (fun x => { x with lastReport := some (kind, b, k, e, a0, a1) })
  | _ => d

/-- A message of the manager that a worker or spare takes, other than a relayed request. -/
def workerTakes (p : Perm) (m : HlMsg) (d : Dev) : Dev :=
  match m with
  | .heartbeat seq k revoke standby limit epoch int till => onHeartbeat p seq k revoke standby limit epoch int till d
  | .witnessReq id k => onWitnessReq p id k d
  | .replDistrict k _ asnRef t len mark _ _ => onReplDistrict k asnRef t len mark d
  | .replNodes l => onReplNodes p l d
  | .replGone l => onReplGone l d
  | .verdict id g _ => onVerdict p id g d
  | .drop eui _ => onDrop eui d
  | .deltaPart id total off l => onDeltaPart id total off l d
  | .takeover k _ epoch base start => onTakeover k epoch base start d
  | .restoreEnd _ _ => onRestoreEnd d
  | .peers l => onPeers p l d
  | .keyMsg l proof => onKeyMsg p l proof d
  | _ => d

/-- A message handled by its type and sender (R370). -/
def handleHl (p : Perm) (peer : Nat) (m : HlMsg) (d : Dev) : Dev :=
  let d1 := answered d peer m
  match m with
  | .close _ => raise (dropLink d1 peer) 114 (peer * 256)
  | .peerProbe id => if p.role = 2 then hlSend d1 peer (.peerAnswer id (ageMs d1 d1.hier.heardAt)) else d1
  | .peerAnswer id age => onPeerAnswer peer id age d1
  | _ => if p.manager then managerTakes p peer m d1 else if p.role = 2 && peer = 0 then workerTakes p m d1 else d1

/-- A request seen before: the answer given then is given again, and nothing else is done (R369). Parts of a delta are told apart
by their offsets and reassembled; a relayed request is told apart by QSEQ (R394). -/
def seenBefore (d : Dev) (peer : Nat) (m : HlMsg) : Option (Option HlMsg) :=
  match m with
  | .deltaPart .. => none
  | .relayReq .. => none
  | _ =>
    match reqId m with
    | some i => (d.hier.answers.find? (fun a => a.1 = peer && a.2.1 = i.1 && a.2.2.1 = i.2)).map (fun a => a.2.2.2)
    | none => none

/-- A request noted as received. -/
def noteSeen (d : Dev) (peer : Nat) (m : HlMsg) : Dev :=
  match m with
  | .deltaPart .. => d
  | .relayReq .. => d
  | _ => match reqId m with
    | some i => { d with hier := { d.hier with answers := d.hier.answers ++ [(peer, i.1, i.2, none)] } }
    | none => d

/-- The tag of a link message verifies (R369): under the link's key, with LINK and SEQ as sent and the octet of its direction. -/
def hlTagOk (l : Link) (h : HlHead) : Bool := h.tag = ⟨l.key, h.link, h.seq, if l.opened then 1 else 0⟩

/-- The link that a message is of (R369): LINK names it, and the tag verifies under its key. Two peers may have chosen the same LINK. -/
def linkFor (d : Dev) (h : HlHead) : Option Link := d.hier.links.find? (fun l => l.link = h.link && hlTagOk l h)

/-- Octets of a link message with its header and tag (R369, R370). -/
def hlLen (m : HlMsg) : Nat :=
  32 + match m with
  | .openMsg .. => 84 | .openAck .. => 84 | .close _ => 1 | .heartbeat .. => 24 | .hbAck .. => 24 | .peerProbe _ => 4 | .peerAnswer .. => 8
  | .witnessReq .. => 8 | .witnessRsp .. => 16 | .replDistrict .. => 40 | .replNodes l => 4 + 132 * l.length | .replGone l => 4 + 4 * l.length
  | .claim .. => 24 | .verdict .. => 8 | .drop .. => 12 | .deltaPart _ _ _ l => 12 + l.length | .deltaResult .. => 16 | .takeover .. => 24
  | .restoreEnd .. => 8 | .ready .. => 4 | .peers l => 4 + 84 * l.length | .keyMsg .. => 240 | .keyResult .. => 12 | .relayReq .. => 8
  | .relayRsp .. => 4 | .report .. => 24

/-- A link message waits for the hierarchy service in a granule that P4 names (R371), where both are to be had; else its sender repeats it. -/
def hlQueue (d : Dev) (peer : Nat) (m : HlMsg) : Dev × Bool :=
  let a := alloc d 9 (hlLen m) (.hl m)
  match a.2 with
  | none => (a.1, false)
  | some g => let r := push a.1 (pq 4) ⟨0x0F, 0, hlLen m, some g, .hier 1 255 0 0 0 0 (some (peer, m))⟩; if r.2 then r else (dropBuf r.1 (some g), false)

/-- Link messages wait: in a Hoist, and after it until they have been served (R191, R371, R374). -/
def hlWaits (d : Dev) : Bool :=
  d.pwr.mode = .m9 || (queue d (pq 4)).packets.any (fun x => match x.body with | .hier 1 _ _ _ _ _ _ => true | _ => false)

/-- A message on an open link (R369): discarded when its tag fails or its SEQ is not above the last; otherwise `run` handles it, once
per identifier, now or after those that wait in P4. -/
def receiveHl (h : HlHead) (m : HlMsg) (run : Nat → Dev → Dev) (d : Dev) : Dev :=
  if !hlArrives d h.port then d
  else
    match linkFor d h with
    | none => discardHl d
    | some l =>
      if h.seq ≤ l.rxSeq then discardHl d
      else
        let d1 : Dev := { d with hier := { d.hier with links := d.hier.links.map (fun x =>
          if x.peer = l.peer then { x with rxSeq := h.seq, lastRx := d.clk.up, up := true } else x) } }
        let d2 := if l.up then d1 else raise d1 114 (l.peer * 256 + 1)
        match seenBefore d2 l.peer m with
        | some (some a) => hlSend d2 l.peer a
        | some none => d2
        | none =>
          if hlWaits d2 && !relayed m then
            let q := hlQueue d2 l.peer m
            if q.2 then noteSeen q.1 l.peer m else q.1
          else run l.peer (noteSeen d2 l.peer m)

/-- A message with a row of its own: received and handled. -/
def takeHl (p : Perm) (h : HlHead) (m : HlMsg) (d : Dev) : Dev := receiveHl h m (fun peer => handleHl p peer m) d

/-- HL_CLOSE (R370). -/
def execHlClose (h : HlHead) (reason : Nat) (s : State) : Host.Outcome State Fault Refusal := onDev s (takeHl s.perm h (.close reason))

/-- HEARTBEAT (R373). -/
def execHeartbeat (h : HlHead) (hbSeq district : Nat) (revoke standby : Bool) (missLimit epoch hbInt : Nat) (leaseEnd : Int) (s : State) :
    Host.Outcome State Fault Refusal :=
  onDevSettled s (takeHl s.perm h (.heartbeat hbSeq district revoke standby missLimit epoch hbInt leaseEnd))

/-- HB_ACK (R372). -/
def execHbAck (h : HlHead) (hbSeq hstate schedState asn align backlog : Nat) (s : State) : Host.Outcome State Fault Refusal :=
  onDev s (takeHl s.perm h (.hbAck hbSeq hstate schedState asn align backlog))

/-- PEER_PROBE (R370). -/
def execPeerProbe (h : HlHead) (id : Nat) (s : State) : Host.Outcome State Fault Refusal := onDev s (takeHl s.perm h (.peerProbe id))

/-- PEER_ANSWER (R377). -/
def execPeerAnswer (h : HlHead) (id age : Nat) (s : State) : Host.Outcome State Fault Refusal := onDev s (takeHl s.perm h (.peerAnswer id age))

/-- WITNESS_REQ (R379). -/
def execWitnessReq (h : HlHead) (id district : Nat) (s : State) : Host.Outcome State Fault Refusal :=
  onDev s (takeHl s.perm h (.witnessReq id district))

/-- WITNESS_RSP (R380). -/
def execWitnessRsp (h : HlHead) (id district age epoch : Nat) (s : State) : Host.Outcome State Fault Refusal :=
  onDev s (takeHl s.perm h (.witnessRsp id district age epoch))

/-- TAKEOVER (R384). -/
def execTakeover (h : HlHead) (district : Nat) (restart : Bool) (epoch baseSeq : Nat) (start : Int) (s : State) : Host.Outcome State Fault Refusal :=
  onDevSettled s (takeHl s.perm h (.takeover district restart epoch baseSeq start))

/-- REPL_DISTRICT (R384). -/
def execReplDistrict (h : HlHead) (district epoch asnRef : Nat) (asnRefTime : Int) (slotLen mark deltaSeq records : Nat) (s : State) :
    Host.Outcome State Fault Refusal :=
  onDev s (takeHl s.perm h (.replDistrict district epoch asnRef asnRefTime slotLen mark deltaSeq records))

/-- REPL_NODES (R384). -/
def execReplNodes (h : HlHead) (items : List ReplNode) (s : State) : Host.Outcome State Fault Refusal := onDev s (takeHl s.perm h (.replNodes items))

/-- REPL_GONE (R388). -/
def execReplGone (h : HlHead) (records : List Nat) (s : State) : Host.Outcome State Fault Refusal := onDev s (takeHl s.perm h (.replGone records))

/-- RESTORE_END (R384). -/
def execRestoreEnd (h : HlHead) (records deltaSeq : Nat) (s : State) : Host.Outcome State Fault Refusal :=
  onDev s (takeHl s.perm h (.restoreEnd records deltaSeq))

/-- READY (R385). -/
def execReady (h : HlHead) (district status : Nat) (s : State) : Host.Outcome State Fault Refusal := onDev s (takeHl s.perm h (.ready district status))

/-- PEERS (R392). -/
def execPeers (h : HlHead) (list : List PeerItem) (s : State) : Host.Outcome State Fault Refusal := onDev s (takeHl s.perm h (.peers list))

/-- KEY_MSG (R391). -/
def execKeyMsg (h : HlHead) (octets : List Byte) (proof : KeyProof) (s : State) : Host.Outcome State Fault Refusal :=
  onDevSettled s (takeHl s.perm h (.keyMsg octets proof))

/-- KEY_RESULT (R370). -/
def execKeyResult (h : HlHead) (counter status : Nat) (s : State) : Host.Outcome State Fault Refusal := onDev s (takeHl s.perm h (.keyResult counter status))

/-- DELTA_PART (R391). -/
def execDeltaPart (h : HlHead) (id total offset : Nat) (data : List Byte) (s : State) : Host.Outcome State Fault Refusal :=
  onDev s (takeHl s.perm h (.deltaPart id total offset data))

/-- DELTA_RESULT (R370). -/
def execDeltaResult (h : HlHead) (id status reason asn : Nat) (s : State) : Host.Outcome State Fault Refusal :=
  onDev s (takeHl s.perm h (.deltaResult id status reason asn))

/-- REPORT (R371). -/
def execReport (h : HlHead) (kind bandNo district epoch arg0 arg1 : Nat) (s : State) : Host.Outcome State Fault Refusal :=
  onDev s (takeHl s.perm h (.report kind bandNo district epoch arg0 arg1))

/-- CLAIM (R390). -/
def execClaim (h : HlHead) (id eui lqi short : Nat) (sight : Int) (s : State) : Host.Outcome State Fault Refusal :=
  onDev s (takeHl s.perm h (.claim id eui lqi short sight))

/-- VERDICT (R389). -/
def execVerdict (h : HlHead) (id : Nat) (grant : Bool) (winner : Nat) (s : State) : Host.Outcome State Fault Refusal :=
  onDev s (takeHl s.perm h (.verdict id grant winner))

/-- DROP (R390). -/
def execDrop (h : HlHead) (eui winner : Nat) (s : State) : Host.Outcome State Fault Refusal := onDev s (takeHl s.perm h (.drop eui winner))

end Sys2Proof.Machine
end

