-- ==== Sys2Proof/Machine/Shaping.lean ====
section
/-!
DEFINITION. Shaping and gate lists (R299-R323): Ethernet egress, gate lists, and the downlink airtime shaper with its hold.
-/
namespace Sys2Proof.Machine

/-! ## Eligibility (R303-R308) -/

/-- Enabled shapers of an output that cover a class. -/
def shapersOf (d : Dev) (o c : Nat) : List Nat :=
  (upTo 32).filter (fun s => shEnabled d s && shOutput d s = o && (shMask d s).testBit c)

/-- A class is eligible by credit (R303). -/
def eligible (d : Dev) (o c : Nat) : Bool := (shapersOf d o c).all (fun s => 0 ≤ nth d.shp.credits s 0)

/-- Time on the wire of a frame of LEN octets at a port (R304), in 1/64 ns. -/
def wireTime (d : Dev) (p len : Nat) : Nat := ceilDiv (8 * (len + 4 + numN d (gateKey p 1)) * 64000000) (lineRate d p).toNat

/-- When the gate of a class next closes in a list after an instant (R308), none where it never does. -/
def nextClose (g : GateList) (t : Int) (c : Nat) : Option Int :=
  let off := cycleOff g t
  let l := stretches g.cycle 0 g.entries
  let two := l ++ l.map (fun s => (s.1 + g.cycle, s.2.1 + g.cycle, s.2.2))
  (two.find? (fun s => off < s.2.1 && !s.2.2.testBit c)).map (fun s => t - (off : Int) + (Nat.max s.1 off : Int))

/-- The longest run of open stretches of a class (R308), ns, over two cycles laid end to end. -/
def longestRun (c : Nat) : List (Nat × Nat × Nat) → Nat → Nat → Nat
  | [], run, best => Nat.max run best
  | s :: t, run, best => if s.2.2.testBit c then longestRun c t (run + (s.2.1 - s.1)) best else longestRun c t 0 (Nat.max run best)

/-- MAX_WINDOW of a class (R308): all ones where the gate never closes, and without an active list (R307). -/
def maxWindow (d : Dev) (p c : Nat) : Nat :=
  match (port d p).active with
  | none => maxU32
  | some g =>
    let l := stretches g.cycle 0 g.entries
    if l.all (fun s => s.2.2.testBit c) then maxU32 else longestRun c (l ++ l) 0 0

/-- The gates of a port bind its packets (R307): it has an active list and GATE_EN is true. -/
def gatesBind (d : Dev) (p : Nat) : Bool := (port d p).active.isSome && flag d (gateKey p 2)

/-- A packet of a class fits the window of its open gate (R308). -/
def fits (d : Dev) (p c len : Nat) : Bool :=
  match (port d p).active with
  | none => true
  | some g =>
    if !flag d (gateKey p 2) then true
    else
      let fin := tbNs d * 64 + (wireTime d p len : Int)
      (match nextClose g (tbNs d) c with | some t => decide (fin ≤ t * 64) | none => true)
        && (match (port d p).waiting with | some (_, t) => decide (fin ≤ t * 64) | none => true)

/-! ## Ethernet egress (R305, R306) -/

/-- The shaper works: it is powered, and neither quarantined nor recovering. -/
def shaperOn (d : Dev) : Bool := queuesOn d && unitWorks d .shaper

/-- A frame sent to its end (R305): it leaves, counted, and its buffer goes. -/
def finishSend (d : Dev) (p : Nat) : Dev :=
  match (port d p).sending with
  | none => d
  | some x =>
    if d.clk.up < x.fin then d
    else
      let d1 := match (x.desc.buf.bind (granule d)).map Granule.body with
        | some (.eth f) => emit d (.eth p f)
        | _ => d
      count (dropBuf (updPort d1 p (fun y => { y with sending := none })) x.desc.buf) ((0x9010 + p) * 256 + 8)

/-- A head that could not fit even the longest window is discarded (R308). -/
def dropOversize (p c : Nat) : Nat → Dev → Dev
  | 0, d => d
  | n + 1, d =>
    match classHead d p c with
    | none => d
    | some x =>
      if gatesBind d p && maxWindow d p c ≠ maxU32 && maxWindow d p c * 64 < wireTime d p x.len then
        let r := takeFrom d (8 + 8 * p + c)
        dropOversize p c n (raiseRate (count (dropBuf r.1 x.buf) (gateKey p 0x0E)) 82 (p * 8 + c) 1 (sec 1) (fun _ => p * 256 + c))
      else d

/-- The class a port sends next (R305): the highest that waits, is eligible, and whose packet fits its open gate. -/
def nextClass (d : Dev) (p : Nat) : Option Nat :=
  [7, 6, 5, 4, 3, 2, 1, 0].find? (fun c =>
    match classHead d p c with
    | some x => eligible d p c && (gatesNow d p).testBit c && fits d p c x.len
    | none => false)

/-- FRAMES of the enabled shapers of a class (R321). -/
def countFrames (d : Dev) (o c : Nat) : Dev := (shapersOf d o c).foldl (fun x s => count x (shKey s 8)) d

/-- A port starts the head of the class chosen (R305). -/
def startSend (d : Dev) (p c : Nat) : Dev :=
  let r := takeFrom d (8 + 8 * p + c)
  match r.2 with
  | none => r.1
  | some x =>
    countFrames (updPort r.1 p (fun y => { y with sending := some { cls := c, desc := x, fin := r.1.clk.up + wireTime r.1 p x.len } })) p c

/-- A port, once idle, starts its next packet (R305). -/
def ethernetTransmit (p : Nat) (d : Dev) : Dev :=
  if !shaperOn d || !domainOn d 11 || !(port d p).up then d
  else
    let d1 := match (port d p).sending with | some x => finishSend (reach d x.fin) p | none => d
    let d2 := (upTo 8).foldl (fun y c => dropOversize p c 512 y) d1
    match nextClass d2 p with | some c => startSend d2 p c | none => d2

/-- ETHERNET_TRANSMIT (R305). -/
def execEthernetTransmit (prt : Fin 2) (s : State) : Host.Outcome State Fault Refusal := onDev s (ethernetTransmit prt.val)

/-- Packets waiting in a port's queue, and the queue emptied. -/
def emptyClass (d : Dev) (p c : Nat) : Dev × Nat :=
  let q := 8 + 8 * p + c
  let l := (match (queue d q).taken with | some x => [x] | none => []) ++ (queue d q).packets
  (l.foldl (fun x y => dropBuf x y.buf) (updQueue d q (fun x => { x with fill := [], drain := [], reading := 0, taken := none })), l.length)

/-- What a link going down does to a port's packets (R306). -/
def flushPort (d : Dev) (p : Nat) : Dev :=
  let r := (upTo 8).foldl (fun x c => let y := emptyClass x.1 p c; (y.1, x.2 + y.2)) (d, 0)
  let d1 := match (port r.1 p).sending with
    | some x => dropBuf (updPort r.1 p (fun y => { y with sending := none })) x.desc.buf
    | none => r.1
  let cr := d1.shp.credits.zipIdx.map (fun x => if shOutput d1 x.2 = p then 0 else x.1)
  raise (countBy { d1 with shp := { d1.shp with credits := cr } } (gateKey p 0x0F) r.2) 83 (p * 65536 + r.2)

/-! ## Gate lists (R307-R312) -/

/-- The pending list's octets (R322): staged content over what PEND_LIST holds. -/
def pendOctets (d : Dev) (p n : Nat) : List Byte :=
  let st := stagedOctets d (gateKey p 9)
  let base := octets d (gateKey p 9)
  (upTo n).map (fun i => match st.find? (fun x => x.1 = i) with | some x => x.2 | none => nth base i 0)

/-- The pending list read from its entries (R307). -/
def pendList (d : Dev) (p : Nat) : GateList :=
  let n := numN d (gateKey p 0x0A)
  let o := pendOctets d p (8 * n)
  { base := num d (gateKey p 7), cycle := numN d (gateKey p 8), entries := (upTo n).map (fun i => (leAt o (8 * i) 1, leAt o (8 * i + 4) 4)) }

/-- The check of R309 step 1. -/
def gateListOk (d : Dev) (p : Nat) : Bool :=
  let g := pendList d p
  let o := pendOctets d p (8 * g.entries.length)
  1 ≤ g.entries.length && g.entries.length ≤ 1024 && 10000 ≤ g.cycle && g.cycle ≤ 1000000000
    && g.entries.all (fun e => 1000 ≤ e.2 && e.2 ≤ 1000000000) && (upTo g.entries.length).all (fun i => leAt o (8 * i + 1) 3 = 0)

/-- The command GATE_COMMIT (R309): check, commit, schedule. -/
def gateCommitCore (p : Nat) : Core := fun arg d =>
  if !argLen arg 0 then answer d .malformed
  else if !gateListOk d p then answer d .outOfRange
  else
    let g := pendList d p
    let n := 8 * g.entries.length
    let c := commitNv d 1 (14 + n) ((upTo (ceilDiv (14 + n) 4096)).map (fun i => gatePage p + i))
    if c.2 ≠ .ok then answer c.1 c.2
    else
      let d1 := putRw (unstage c.1 (gateKey p 9)) (gateKey p 9) (.bytes (pendOctets d p 8192))
      let d2 := scheduleGate (updPort d1 p (fun y => { y with committed := some g })) p g
      (d2, .ok, sle 8 (port d2 p).switch)

/-- GATE_COMMIT (R309). -/
def execGateCommit (r : Req) (prt : Fin 2) (arg : List Byte) (s : State) : Host.Outcome State Fault Refusal :=
  onDev s (serveExec r (gateKey prt.val 0x0B) arg (gateCommitCore prt.val))

/-- The command GATE_CANCEL (R309, R322): of a list that waits for its instant, or, restored, for LOCKED (log 150). -/
def gateCancelCore (p : Nat) : Core := fun arg d =>
  if !argLen arg 0 then answer d .malformed
  else if (port d p).waiting.isNone && (port d p).restored.isNone then answer d .wrongMode
  else answer (updPort d p (fun y => { y with waiting := none, restored := none })) .ok

/-- GATE_CANCEL (R322). -/
def execGateCancel (r : Req) (prt : Fin 2) (arg : List Byte) (s : State) : Host.Outcome State Fault Refusal :=
  onDev s (serveExec r (gateKey prt.val 0x12) arg (gateCancelCore prt.val))

/-- The switch instant of a waiting list comes (R309). -/
def gateSwitched (p : Nat) (d : Dev) : Dev :=
  match (port d p).waiting with
  | some (_, t) => switchGate (reachTb d t) p
  | none => d

/-- GATE_SWITCHED (R309). -/
def execGateSwitched (prt : Fin 2) (s : State) : Host.Outcome State Fault Refusal :=
  onDev s (fun d => if queuesOn d then gateSwitched prt.val d else d)

/-- The next entry or cycle boundary of a list after an instant (R307). -/
def nextBoundary (g : GateList) (t : Int) : Int :=
  let off := cycleOff g t
  match (stretches g.cycle 0 g.entries).find? (fun s => off < s.1) with
  | some s => t - (off : Int) + (s.1 : Int)
  | none => t - (off : Int) + (g.cycle : Int)

/-- The active list moves to its next entry or cycle (R307): the time base reaches the boundary, and GATES_NOW follows it. -/
def gateBoundary (p : Nat) (d : Dev) : Dev :=
  match (port d p).active with
  | some g => reachTb d (nextBoundary g (tbNs d))
  | none => d

/-- GATE_ENTRY_BOUNDARY (R307). -/
def execGateEntryBoundary (prt : Fin 2) (s : State) : Host.Outcome State Fault Refusal :=
  onDev s (fun d => if queuesOn d then gateBoundary prt.val d else d)

/-! ## The downlink airtime shaper (R313-R317) -/

/-- BAND and SPREAD of a neighbour (R314): the slowest of its transmit cells that are not MCAST, else Band SF code 0. -/
def ledgerLink (d : Dev) (short : Nat) : Band × Nat :=
  let v := d.sched.ver
  ((v.cells.filter (fun c => c.neighbour = short && c.tx && !c.mcast)).map (fun c => (v.bandOf c, c.spread))).foldl
    (fun (b : Option (Band × Nat)) x => match b with | none => some x | some y => if byteNs y.1 y.2 < byteNs x.1 x.2 then some x else some y) none
    |>.getD (.sf, 0)

/-- The cost of a mesh frame, ns (R313). -/
def meshCost (d : Dev) (short len : Nat) : Nat :=
  let l := ledgerLink d short
  let n := len + numN d 0x44001A
  (n + numN d 0x480006 + (if 127 < n then 1 else 0)) * byteNs l.1 l.2

/-- CREDIT of a neighbour, in ns × 64,000,000 (R314). -/
def nbCredit (d : Dev) (short : Nat) : Int := match findKey Ledger.short short d.shp.ledger with | some e => e.credit | none => 0

/-- A neighbour charged (R315). -/
def chargeNb (d : Dev) (short cost : Nat) : Dev :=
  let c := nbCredit d short - (cost * 64000000 : Nat)
  { d with shp := { d.shp with ledger := if c = 0 then dropKey Ledger.short short d.shp.ledger else putKey Ledger.short ⟨short, c⟩ d.shp.ledger } }

/-- Every enabled shaper of a mesh class charged at the pop (R302, R315). -/
def chargeClass (d : Dev) (c cost : Nat) : Dev :=
  let l := shapersOf d 2 c
  countFrames { d with shp := { d.shp with
    credits := d.shp.credits.zipIdx.map (fun x => if l.contains x.2 then x.1 - (cost * 64000000 : Nat) else x.1) } } 2 c

/-- A frame pushed to Q32 with its cost (R315, R319). -/
def pushQ32 (d : Dev) (x : Desc) (cost : Nat) : Dev × Bool :=
  match x.body with
  | .down i => push d 32 ⟨0x06, 0, x.len, x.buf, .down { i with airtime := cost, seq := 0 }⟩
  | _ => (d, false)

/-- Releases from the hold, oldest first (R315, R316): in a turn each neighbour whose credit allows it, or whose oldest held frame is a later
fragment, is tried once. -/
def releaseHeld : List Held → List Nat → Dev → Dev
  | [], _, d => d
  | h :: t, seen, d =>
    match downOf h.desc with
    | none => releaseHeld t seen { d with shp := { d.shp with hold := d.shp.hold.erase h } }
    | some i =>
      if seen.contains i.neighbour then releaseHeld t seen d
      else if i.frag ≠ 0 || 0 ≤ nbCredit d i.neighbour then
        let r := pushQ32 d h.desc h.cost
        releaseHeld t (i.neighbour :: seen)
          (if r.2 then chargeNb { r.1 with shp := { r.1.shp with hold := r.1.shp.hold.erase h } } i.neighbour h.cost else r.1)
      else releaseHeld t (i.neighbour :: seen) d

/-- The head of a mesh class may be popped: its class is eligible, or it is a later fragment (R315, R316). -/
def meshEligible (d : Dev) (c : Nat) : Bool :=
  match classHead d 2 c with
  | some x => eligible d 2 c || (match downOf x with | some i => i.frag ≠ 0 | none => false)
  | none => false

/-- A popped frame of a class released or held (R315, R316); false where the hold is full and the class is skipped. -/
def popClass (d : Dev) (c : Nat) : Dev × Bool :=
  match classHead d 2 c with
  | none => (d, false)
  | some x =>
    match downOf x with
    | none => ((takeFrom d (24 + c)).1, true)
    | some i =>
      let cost := meshCost d i.neighbour x.len
      let t := takeFrom d (24 + c)
      if t.2.isNone then (t.1, true)
      else if i.frag ≠ 0 && d.shp.cut.contains (i.neighbour, i.pktTag) then
        let d1 := count (dropBuf t.1 x.buf) 0x480003
        ({ d1 with shp := { d1.shp with cut := if i.lastFrag then d1.shp.cut.erase (i.neighbour, i.pktTag) else d1.shp.cut } }, true)
      else
        let go := heldOf d i.neighbour = 0 && (i.frag ≠ 0 || 0 ≤ nbCredit d i.neighbour)
        let r := if go then pushQ32 t.1 x cost else (t.1, false)
        if r.2 then (chargeClass (chargeNb r.1 i.neighbour cost) c cost, true)
        else if d.shp.hold.length < 2048 then
          (chargeClass { r.1 with shp := { r.1.shp with hold := r.1.shp.hold ++ [{ desc := x, cost := cost }] } } c cost, true)
        else (raiseRate (if go then (pushQ32 d x cost).1 else d) 84 0 1 (sec 1) (fun _ => c), false)

/-- The pop of a turn (R315): the highest class that may be popped; one skipped gives way to the next. -/
def popTurn : List Nat → Dev → Dev
  | [], d => d
  | c :: t, d => if meshEligible d c then let r := popClass d c; if r.2 then r.1 else popTurn t r.1 else popTurn t d

/-- A turn of the airtime shaper: releases before pops (R315). -/
def meshTurn (d : Dev) : Dev := popTurn [7, 6, 5, 4, 3, 2, 1, 0] (releaseHeld d.shp.hold [] d)

/-- MESH_SHAPER_TURN (R315). -/
def execMeshShaperTurn (s : State) : Host.Outcome State Fault Refusal := onDev s (fun d => if shaperOn d then meshTurn d else d)

/-- Frames held for a neighbour whose table entry was removed (R317). -/
def heldOrphan (d : Dev) : Option Held :=
  d.shp.hold.find? (fun h => match downOf h.desc with
    | some i => i.neighbour ≠ 0xFFFF && d.fwd.entries.all (fun e => e.short ≠ i.neighbour)
    | none => true)

/-- The held frame that entered its queue first. -/
def oldestHeld (d : Dev) : Option (Held × Int) :=
  d.shp.hold.foldl (fun (b : Option (Held × Int)) h => match downOf h.desc, b with
    | some i, none => some (h, i.enq)
    | some i, some y => if i.enq < y.2 then some (h, i.enq) else some y
    | none, y => y) none

/-- A held frame is discarded: its neighbour is gone, or its ENQ_TIME is more than TX_HOLD_MAX in the past (R317). -/
def holdExpired (d : Dev) : Dev :=
  match heldOrphan d with
  | some h => dropHeld d h
  | none =>
    match oldestHeld d with
    | none => d
    | some (h, t) =>
      let d1 := reachTb d (t + (numN d 0x31000E : Int) * 1000000000 + 1)
      let n := match downOf h.desc with | some i => i.neighbour | none => 0xFFFF
      raiseRate (dropHeld d1 h) 85 0 1 (sec 1) (fun _ => n)

/-- HOLD_EXPIRED (R317). -/
def execHoldExpired (s : State) : Host.Outcome State Fault Refusal := onDev s (fun d => if queuesOn d then holdExpired d else d)

/-- A credit as it reads: whole bits or ns, within 32 bits (R314, R321). -/
def creditRead (c : Int) : Int := satI32 (c / 64000000)

/-- The command NB_QUERY: SHORT (R314, R320). -/
def nbQueryCore : Core := fun arg d =>
  if !argLen arg 2 then answer d .malformed
  else
    let n := leNat arg
    let l := ledgerLink d n
    (d, .ok, sle 4 (creditRead (nbCredit d n)) ++ toLe 1 (bandNum l.1) ++ toLe 1 l.2 ++ toLe 2 (heldOf d n))

/-- NB_QUERY (R320). -/
def execNbQuery (r : Req) (arg : List Byte) (s : State) : Host.Outcome State Fault Refusal :=
  onDev s (serveExec r 0x480007 arg nbQueryCore)

end Sys2Proof.Machine
end

