-- ==== Sys2Proof/Machine/Readings.lean ====
section
/-!
DEFINITION. What every entry of the dictionary reads (R30): the settings, the registers and the counters of each range, META (R33),
and the content of the BULK read targets (R55).
-/
namespace Sys2Proof.Machine

/-! ## Forms -/

/-- A natural number, a BOOL, and octets as values. -/
def vN (n : Nat) : Val := .num n
def vB (b : Bool) : Val := .num (boolNum b)
def vO (n : Nat) (l : List Byte) : Val := .bytes ((l ++ List.replicate n 0).take n)

/-- HOP_LEN (sub-index 1) and HOP_SEQ (2) of a hopping sequence (R199). -/
def hopEntry (l : List Nat) (k : Nat) : Val := if k = 1 then vN l.length else vO 64 (l.map (BitVec.ofNat 8))

/-- A number as `n` octets, most significant first: IPv6 addresses, digests, key coordinates. -/
def be (n v : Nat) : List Byte := (toLe n v).reverse

/-- A counter of an RO entry, or the entry's fixed value where it has none (R27). -/
def fixedOrCount (d : Dev) (key : Nat) : Val := if counter d key = 0 then defaultOf key else vN (counter d key)

/-! ## Addresses (R567) -/

/-- The modified EUI-64 interface identifier of E0's MAC address (R567, RFC 4291). -/
def mgmtIid (d : Dev) : Nat :=
  let m := beNat (octets d 0x901003)
  (m / 16777216 ^^^ 0x020000) * 1099511627776 + 0xFFFE000000 + m % 16777216

/-- The link-local address, and a /64 prefix with the same interface identifier (R567). -/
def linkLocalAddr (d : Dev) : Nat := 0xFE80 * 2 ^ 112 + mgmtIid d
def autoAddr (d : Dev) (pfx : Nat) : Nat := pfx / 2 ^ 64 * 2 ^ 64 + mgmtIid d

/-! ## The ranges -/

/-- The order of P-256. -/
def p256Order : Nat := 0xFFFFFFFF00000000FFFFFFFFFFFFFFFFBCE6FAADA7179E84F3B9CAC2FC632551

/-- The private scalar of IDENTITY (R326): 40 octets by HKDF from ROOT, DEVICE_EUI and "Canton identity". -/
def identityScalar (p : Perm) : Nat :=
  beNat (Config.hkdf Config.rootSecret (toLe 8 p.deviceEui)
    [0x43, 0x61, 0x6E, 0x74, 0x6F, 0x6E, 0x20, 0x69, 0x64, 0x65, 0x6E, 0x74, 0x69, 0x74, 0x79] 40) % (p256Order - 1) + 1

/-- 0x0100-0x02FF: identity, sessions (R63, R64). -/
def readIdentity (p : Perm) (d : Dev) (key : Nat) : Val :=
  match key with
  | 0x010002 => vN p.siliconRev
  | 0x010003 => .bytes (toLe 8 p.deviceEui)
  | 0x010004 => vN p.role
  | 0x010005 => vN p.workerId
  | 0x010006 => vN d.hier.district
  | 0x010007 => vN (match d.fw.running with | some s => (fwSlot d s).version | none => 0)
  | 0x010008 => vN (d.fw.running.getD 0)
  | 0x010009 => vN (match d.fw.running with | some s => (fwSlot d s).dict | none => 0)
  | 0x01000A => if p.root then .bytes ((upTo 64).map (Config.publicKey (identityScalar p))) else zb 64
  | 0x020005 => vN d.qdl.sessions.length
  | _ => fixedOrCount d key

/-- 0x1000-0x10FF: modes and domains (R476). -/
def readModes (d : Dev) (key : Nat) : Val :=
  match key with
  | 0x100001 => vN d.pwr.mode.num
  | 0x100002 => vN (if d.pwr.baseFull then 7 else 6)
  | 0x100004 => vN d.pwr.faultCause
  | 0x100005 => vN d.pwr.domains
  | 0x100006 => vN d.pwr.padHold
  | 0x10000D => vN d.pwr.wakeCause
  | 0x10000E => .num d.pwr.wakeTime
  | 0x10000F => vN d.pwr.lastSleep
  | 0x100010 => .num d.pwr.sleepEntryTime
  | 0x100012 => vN d.pwr.halyardForeign
  | 0x100013 => vN d.pwr.halyardLastId
  | 0x100014 => vN d.pwr.wakeFails
  | 0x100015 => vB d.pwr.meshOk
  | _ => fixedOrCount d key

/-- T_MAX_SENSOR: the first sensor in service that shows T_MAX (R448). -/
def tMaxSensor (d : Dev) : Nat := ((upTo 8).find? (fun i => (nth d.gov.sensors i {}).inService && (nth d.gov.sensors i {}).temp = tMax d)).getD 0

/-- 0x1100-0x11FF: governor (R445, R447, R448). -/
def readGovernor (d : Dev) (key : Nat) : Val :=
  if 0x115000 ≤ key then
    let s : Sensor := nth d.gov.sensors (key / 256 - 0x1150) {}
    match key % 256 with
    | 1 => .num s.temp
    | 2 => .num s.peak
    | 3 => vB s.inService
    | _ => fixedOrCount d key
  else
    match key with
    | 0x110001 => vN d.gov.st
    | 0x110002 => .num (satI32 (eCredit d))
    | 0x110004 => .num (satI32 (if hCredit d < 0 then -((-hCredit d) / 1000) else hCredit d / 1000))
    | 0x110005 => vB d.gov.night
    | 0x110011 => vN d.gov.inputPower
    | 0x110012 => vN d.gov.inputEnergy
    | 0x110013 => .num d.gov.unattributed
    | 0x11001C => vB d.gov.battStale
    | 0x114005 => .num (tMax d)
    | 0x114006 => vN (tMaxSensor d)
    | _ => fixedOrCount d key

/-- 0x1200-0x13FF: start-up, persistent store (R489, R502). -/
def readStart (p : Perm) (d : Dev) (key : Nat) : Val :=
  if 0x134000 ≤ key ∧ key % 256 ≠ 0 then vN (pageWrites d (64 * (key / 256 - 0x1340) + key % 256 - 1))
  else
    match key with
    | 0x120001 => vN d.start.cause
    | 0x120002 => vN d.start.detail
    | 0x120003 => vN d.start.startCount
    | 0x120004 => vN (Nat.min maxU32 d.start.lastStartTime)
    | 0x120006 => vB p.provisioned
    | 0x120007 => vB p.debugLocked
    | 0x12000B => vN d.start.pgFails
    | 0x12000C => vN d.start.watchdogResets
    | 0x130002 => vN (spares d).length
    | 0x130003 => vN d.nv.retired.length
    | 0x130007 => vN d.nv.version
    | 0x132004 => vN (holdupVx d / 1000)
    | 0x132005 => vN (holdupAvail d)
    | 0x132007 => vN d.nv.lastNeed
    | _ => fixedOrCount d key

/-- 0x1800-0x18FF: time base and clocks (R87, R88). -/
def readTime (d : Dev) (key : Nat) : Val :=
  match key with
  | 0x180001 => .num (tbNs d)
  | 0x180002 => vN (tbFrac d)
  | 0x180004 => vN (syncNum d.clk.sync)
  | 0x180005 => .num d.clk.offset
  | 0x180006 => .num d.clk.freqAdj
  | 0x180009 => .num d.clk.phaseSlew
  | 0x18000B => vN (incrNow d)
  | 0x18000C => vB d.clk.fast
  | 0x18000E => vN (alignNow d)
  | 0x181001 => vB d.clk.refOk
  | 0x181002 => .num (-d.clk.freqAdj)
  | 0x181003 => vB d.clk.slowOk
  | 0x181004 => .num d.clk.slowErr
  | 0x182008 => match d.ptp.parent with | some f => .bytes (be 8 f.identity ++ toLe 2 f.portNumber) | none => zb 10
  | 0x182009 => .num d.ptp.meanPath
  | 0x18200C => .num d.ptp.utcOffset
  | 0x183004 => .num d.pps.inLast
  | _ => fixedOrCount d key

/-- 0x1900-0x19FF: timers (R536, R537). -/
def readTimers (d : Dev) (key : Nat) : Val :=
  if 0x191000 ≤ key then
    let n := key / 256 - 0x1910
    match key % 256 with
    | 0x0E => vN (timerStatus d n)
    | 0x10 => vN ((timer d n).count % 4294967296)
    | 0x11 => vN ((timer d n).count / 4294967296)
    | 0x12 => vN ((timer d n).capture % 4294967296)
    | 0x13 => vN ((timer d n).capture / 4294967296)
    | 0x14 => vN (timer d n).expiries
    | _ => fixedOrCount d key
  else
    match key with
    | 0x190004 => maskOf 24 (fun i => (timer d i).run)
    | 0x190005 => vB d.halted
    | 0x190006 => .bytes ((upTo 24).flatMap (fun i => toLe 8 (timer d i).count))
    | _ => fixedOrCount d key

/-- 0x2000-0x21FF: a band's front end (R117, R118). -/
def readFrontEnd (d : Dev) (b : Band) (key : Nat) : Val :=
  let x := band d b
  if key / 256 % 256 = 0x20 then
    if key % 256 = 0 then fixedOrCount d key else .num (ceiling d b (key % 256 - 1))
  else
    match key % 256 with
    | 0x02 => vN (radioNum x.state)
    | 0x03 => vN (rxLoKhz d b)
    | 0x04 => vN (x.txChannel.getD 255)
    | 0x05 => vN x.synWord
    | 0x06 => .num x.preoffset
    | 0x07 => vN x.gain
    | 0x12 => vB x.calPending.isSome
    | 0x13 => .num x.lastTemp
    | 0x14 => .num x.lastTime
    | 0x15 => .num x.imageRej
    | _ => fixedOrCount d key

/-- The lanes of a band as a BITS32. -/
def laneMask (d : Dev) (b : Band) (f : Lane → Bool) : Val :=
  maskOf 16 (fun i => f (lane d (bandNum b * 16 + i)))

/-- 0x2200-0x22FF: lanes (R155-R157). -/
def readLanes (d : Dev) (key : Nat) : Val :=
  if 0x224000 ≤ key then
    let x := lane d (key / 256 - 0x2240)
    match key % 256 with
    | 1 => vN (laneNum x.state)
    | 2 => vN (match x.bind with | some y => y.channel | none => 255)
    | 3 => vN (match x.bind with | some y => y.spread | none => 255)
    | 4 => .num (match x.bind with | some y => y.pretune | none => 0)
    | 0x0E => .num x.lastRssi
    | 0x0F => vN x.lastLqi
    | 0x10 => .num x.lastCfo
    | _ => fixedOrCount d key
  else if 0x222000 ≤ key then
    let c := key / 256 - 0x2220
    if key % 256 = 1 then vB ((lane d (2 * c)).powered || (lane d (2 * c + 1)).powered) else fixedOrCount d key
  else
    let b : Band := if key < 0x221000 then .sf else .g
    match key % 256 with
    | 0x08 => laneMask d b Lane.powered
    | 0x09 => laneMask d b (fun x => x.state = .quarantined)
    | _ => fixedOrCount d key

/-- 0x2300-0x23FF: transmit shaping and mask (R119). -/
def readMask (d : Dev) (key : Nat) : Val :=
  let x := band d (if key < 0x231000 then .sf else .g)
  match key % 256 with
  | 6 => vB x.inhibit
  | 9 => .num x.margin
  | _ => fixedOrCount d key

/-- 0x3000-0x30FF: schedule (R197-R200). -/
def readSchedule (d : Dev) (key : Nat) : Val :=
  let s := d.sched
  if 0x304000 ≤ key ∧ key < 0x308000 then
    let h := key / 256 - 0x3040
    match key % 256 with
    | 1 => vN (match s.ver.frame h with | some f => f.size | none => 0)
    | 2 => vN (match s.ver.frame h with | some f => bandNum f.band | none => 255)
    | 3 => vN (s.ver.cells.filter (fun c => c.handle = h)).length
    | _ => fixedOrCount d key
  else
    match key with
    | 0x300001 => vN s.asn
    | 0x300002 => vN s.epoch
    | 0x300003 => vN (schedNum s.st)
    | 0x300004 => vN s.deltaSeq
    | 0x300005 => vN s.pending.length
    | 0x300006 => vN s.ver.frames.length
    | 0x300007 => vN s.ver.cells.length
    | 0x30000C => vN s.stopCause
    | 0x30000D => vN s.asnRef
    | 0x30000E => .num s.asnRefTime
    | 0x300401 => vN s.timingAsn
    | 0x300402 => vN s.ver.tmpl.slotLen
    | 0x300403 => vN s.ver.tmpl.txOffset
    | 0x300404 => vN s.ver.tmpl.ackDelay
    | 0x300405 => vN s.ver.tmpl.ackGuard
    | 0x300406 => vN s.ver.tmpl.sharedGuard
    | 0x300407 => vN s.ver.tmpl.guardBudget
    | 0x300408 => vN s.ver.tmpl.slotTail
    | 0x300409 => vN s.ver.tmpl.ackPsdu
    | 0x30040A => vN s.ver.tmpl.rescueLead
    | 0x30040B => vN s.ver.tmpl.minBe
    | 0x30040C => vN s.ver.tmpl.maxBe
    | 0x300801 => hopEntry (s.ver.hop d .sf) 1
    | 0x300802 => hopEntry (s.ver.hop d .sf) 2
    | 0x300901 => hopEntry (s.ver.hop d .g) 1
    | 0x300902 => hopEntry (s.ver.hop d .g) 2
    | 0x301004 => vN s.lastStatus
    | 0x301005 => vN s.lastReason
    | 0x301006 => vN s.lastSwitch
    | _ => fixedOrCount d key

/-- 0x3100-0x31FF: neighbours (R234). -/
def readNeighbours (p : Perm) (d : Dev) (key : Nat) : Val :=
  match key with
  | 0x310001 => vN (d.nbr.nodes.filter (fun n => n.pennant.isSome)).length
  | 0x310002 => vN (d.nbr.nodes.filter (fun n => match n.pennant with | some q => q.onDie | none => false)).length
  | 0x310003 => vN (d.nbr.nodes.filter (fun n => n.state = .adrift)).length
  | 0x310004 => vN (boolNum (bandRescue d .sf) + 2 * boolNum (bandRescue d .g))
  | 0x310011 => vB (joinsOpen p d)
  | 0x31001D => vN d.nbr.slewActive
  | _ => fixedOrCount d key

/-- Size of region `r` of the store in force, and after the next reset (R236, R237). -/
def regionSize (d : Dev) (r : Nat) : Nat :=
  if r = 8 then 4294967296 - regionBase d 8 else regionBase d (r + 1) - regionBase d r
def nextRegionSize (d : Dev) (r : Nat) : Nat :=
  let u (k : Nat) : Nat := numN d (0x400002 + k) * 67108864
  match r with
  | 5 => u 0 | 6 => u 1 | 7 => u 2
  | 8 => 4294967296 - (0x78000000 + u 0 + u 1 + u 2)
  | _ => regionSize d r

/-- 0x4000-0x40FF: store map and scrub (R264, R265). -/
def readStore (d : Dev) (key : Nat) : Val :=
  if 0x401000 ≤ key ∧ key < 0x402000 then
    let r := key / 256 - 0x4010
    match key % 256 with
    | 1 => vN (regionBase d r)
    | 2 => vN (regionSize d r)
    | 3 => vN (nextRegionSize d r)
    | _ => fixedOrCount d key
  else
    match key with
    | 0x400006 => vN (freeGranules d)
    | 0x400007 => vN d.store.freeMin
    | 0x400008 => vN d.store.retired.length
    | 0x400009 => vN d.store.orphans.length
    | 0x402002 => vN d.store.scrubPos
    | 0x402003 => vN d.store.passes
    | 0x402004 => vN d.store.lastPass
    | 0x402006 => vB d.store.behind
    | _ => fixedOrCount d key

/-- 0x4100-0x41FF: queues (R266). -/
def readQueues (d : Dev) (key : Nat) : Val :=
  if key = 0x410002 then .bytes ((upTo 56).flatMap (fun q => toLe 2 (queue d q).count))
  else if 0x411000 ≤ key then
    let q := key / 256 - 0x4110
    let x := queue d q
    match key % 256 with
    | 1 => vB (circular q)
    | 2 => vN (slotsOf q)
    | 3 => vN (8 * wordsOf q)
    | 4 => vN x.count
    | 5 => vN x.refused
    | 6 => vN x.resets
    | 7 => vN x.rewinds
    | 8 => vN x.dropRests
    | 9 => vN (qstateNum x.state)
    | _ => fixedOrCount d key
  else fixedOrCount d key

/-- 0x4400-0x44FF: forwarding (R297, R298). -/
def readForwarding (p : Perm) (d : Dev) (key : Nat) : Val :=
  match key with
  | 0x440001 => vN d.fwd.entries.length
  | 0x440002 => vN (entryMax p)
  | 0x440004 => vN (d.fwd.entries.filter NtEntry.ovf).length
  | 0x440009 => .bytes (toLe 4 (Config.hashSeed (2 * d.fwd.seedDraw)) ++ toLe 4 (Config.hashSeed (2 * d.fwd.seedDraw + 1)))
  | 0x44000C => vN d.fwd.lps.length
  | 0x440014 => vB d.fwd.behind
  | 0x44001E => vN d.fwd.reasm.length
  | 0x44100A => vN (d.fwd.entries.filter NtEntry.routeValid).length
  | _ => fixedOrCount d key

/-- 0x4800-0x48FF: shapers and gates (R320-R322). -/
def readShaping (d : Dev) (key : Nat) : Val :=
  if 0x484000 ≤ key then
    let p := key / 256 - 0x4840
    let x := port d p
    match key % 256 with
    | 0x03 => .num (match x.active with | some g => g.base | none => 0)
    | 0x04 => vN (match x.active with | some g => g.cycle | none => 0)
    | 0x05 => vN (match x.active with | some g => g.entries.length | none => 0)
    | 0x0C => vN (gateState x)
    | 0x0D => .num x.switch
    | 0x10 => vN (gatesNow d p)
    | 0x11 => .bytes ((upTo 8).flatMap (fun c => toLe 4 (maxWindow d p c)))
    | _ => fixedOrCount d key
  else if 0x481000 ≤ key then
    if key % 256 = 7 then .num (creditRead (nth d.shp.credits (key / 256 - 0x4810) 0)) else fixedOrCount d key
  else if key = 0x480002 then vN d.shp.hold.length
  else fixedOrCount d key

/-- Slots 0 to 63 that hold keys while KEK is in slot 0: KEK, and the secret keys of the table as far as they go (R332; log 152). -/
def levelTwoHot (d : Dev) : Nat :=
  if d.can.kek then Nat.min 64 (1 + (d.can.table.filter (fun e => e.present && e.kind ≠ 4)).length) else 0

/-- 0x5000-0x51FF: Canton, frame security (R363, R364). -/
def readKeys (p : Perm) (d : Dev) (key : Nat) : Val :=
  match key with
  | 0x500001 => vB p.root
  | 0x500002 => vN (if tampered d then 2 else boolNum d.start.served)
  | 0x500003 => vN (d.can.hot.length + levelTwoHot d)
  | 0x500004 => vN (d.can.hot.filter (fun h => 64 ≤ h.slot && !h.pins.isEmpty)).length
  | 0x500007 => vN d.can.ctrOperator
  | 0x500008 => vN d.can.ctrManager
  | 0x500009 => vN d.can.exportCtr
  | 0x500012 => vN d.can.cause
  | 0x500013 => .num d.can.time
  | 0x51000B => vN (groupIndex d)
  | 0x51000C => vN d.can.groupFc
  | 0x51000D => vN d.can.groupMark
  | _ => fixedOrCount d key

/-- 0x6000-0x60FF: device firmware update (R522, R523). -/
def readFirmware (d : Dev) (key : Nat) : Val :=
  if 0x601000 ≤ key then
    let x := fwSlot d (key / 256 - 0x6010)
    let y : FwSlot := if x.st = 0 then {} else x
    match key % 256 with
    | 1 => vN y.st
    | 2 => vN y.reason
    | 3 => vN y.version
    | 4 => vN y.sec
    | 5 => vN y.dict
    | 6 => vN y.keyGen
    | 7 => vN y.len
    | 8 => .bytes (toLe 32 y.digest)
    | _ => fixedOrCount d key
  else
    match key with
    | 0x600008 => vN d.fw.floor
    | 0x600009 => vN d.fw.progress
    | 0x60000A => vN d.fw.last
    | 0x60000B => vN d.fw.hoists
    | 0x60000C => .num (if d.fw.slots.any (fun x => x.st = 3) then d.fw.trialSince else 0)
    | _ => fixedOrCount d key

/-- 0x6100-0x61FF: Bunting (R422, R423). -/
def readBunting (d : Dev) (key : Nat) : Val :=
  if 0x611000 ≤ key then
    let k := camp d (key / 256 - 0x6110)
    match key % 256 with
    | 0x01 => vN k.st
    | 0x11 => vN k.round
    | 0x12 => vN k.targetsN
    | 0x13 => vN k.doneN
    | 0x14 => vN k.refusedN
    | 0x15 => vN k.failedN
    | 0x16 => vN k.lostN
    | 0x17 => vN k.skipped
    | 0x18 => vN k.pauseCause
    | _ => fixedOrCount d key
  else
    match key with
    | 0x610001 => vN (repoSlots d)
    | 0x610002 => vN d.bunting.images.length
    | 0x61000E => vN ((upTo 8).filter (campActive d)).length
    | _ => fixedOrCount d key

/-- An item of PEERS as octets (R370). -/
def peerOctets (q : PeerItem) : List Byte := toLe 1 q.id ++ toLe 3 0 ++ be 16 q.addr ++ be 64 q.pub

/-- A record of DISTRICT_TABLE (R397). -/
def districtOctets (d : Dev) (k : Nat) : List Byte :=
  match d.hier.districts.find? (fun x => x.district = k) with
  | some x => toLe 1 (if x.dstate = 3 then 255 else x.server) ++ toLe 1 x.dstate ++ toLe 2 0 ++ toLe 4 x.epoch
  | none => toLe 8 255

/-- 0x7000-0x70FF: hierarchy (R396-R398). -/
def readHierarchy (p : Perm) (d : Dev) (key : Nat) : Val :=
  if 0x702000 ≤ key then
    let w := key / 256 - 0x7020
    let x := wRec d w
    match key % 256 with
    | 5 => vN (wState d w)
    | 6 => vN x.hstate
    | 7 => .num x.leaseEnd
    | 8 => vN x.missed
    | 9 => vN x.align
    | _ => fixedOrCount d key
  else
    match key with
    | 0x700001 => vN (hierNum d.hier.st)
    | 0x700004 => .num d.hier.leaseEnd
    | 0x700005 => .num d.hier.lastHeartbeat
    | 0x700007 => .num d.hier.autonomyEnd
    | 0x700009 => vO 672 (d.hier.peers.flatMap peerOctets)
    | 0x70000D => vN d.hier.fenceEpoch
    | 0x701007 => if p.manager then .bytes ((upTo 127).flatMap (fun k => districtOctets d (k + 1))) else zb 1016
    | _ => fixedOrCount d key

/-- An error record as its 64 octets (R545). -/
def errOctets (r : ErrRec) : List Byte :=
  toLe 1 0x0C ++ toLe 1 r.severity ++ toLe 2 56 ++ toLe 4 (r.buf.getD 0xFFFFFFFF) ++ sle 8 r.time ++ toLe 1 r.unit ++ toLe 1 r.inst
    ++ toLe 2 r.code ++ toLe 1 r.nest ++ toLe 3 0 ++ toLe 8 (r.addr.getD 0xFFFFFFFFFFFFFFFF) ++ toLe 8 r.arg0 ++ toLe 8 r.arg1
    ++ toLe 4 r.rseq ++ toLe 12 0

/-- Class of background task `t` (R437). -/
def taskClass (t : Nat) : Nat := if t < 5 then 4 else 5

/-- 0x8000-0x82FF: events, error records, telemetry (R557-R560). -/
def readEvents (d : Dev) (key : Nat) : Val :=
  if 0x822000 ≤ key then
    let t := key / 256 - 0x8220
    match key % 256 with
    | 1 => vN (taskClass t)
    | 4 => .num (nth d.gov.taskAt t 0)
    | _ => fixedOrCount d key
  else if 0x808000 ≤ key ∧ key < 0x810000 then
    let e := key / 256 - 0x8080
    let x : EvRec := nth d.ev.recs e {}
    match key % 256 with
    | 1 => tx (eventName e)
    | 2 => vN (eventOwner e)
    | 3 => vN x.count
    | 4 => .num x.lastTime
    | 5 => vN x.lastData
    | _ => fixedOrCount d key
  else
    match key with
    | 0x800001 => vN (d.ev.pending % 4294967296)
    | 0x800002 => vN (d.ev.pending / 2 ^ 32 % 4294967296)
    | 0x800003 => vN (d.ev.pending / 2 ^ 64 % 4294967296)
    | 0x800004 => vN (d.ev.pending / 2 ^ 96 % 4294967296)
    | 0x800006 => vN d.ev.seq
    | 0x800009 => vB (evtN d)
    | 0x810004 => vN d.err.log.length
    | 0x810006 => match d.err.lastFatal with | some r => .bytes (errOctets r) | none => zb 64
    | 0x810007 => vN d.err.quarantined
    | 0x820001 => vN d.tel.head
    | 0x820002 => vN d.tel.tail
    | 0x820003 => vN d.tel.nextSeq
    | 0x820009 => vN (sumNat (d.tel.staged.map TelemRec.len))
    | _ => fixedOrCount d key

/-- VCORE_PG as the PMIC drives it (R574): power-good has come and VCORE stays on. -/
def pgState (d : Dev) : Bool := d.pwr.vcoreOn && d.start.stage ≠ .waitPg && d.start.stage ≠ .waitRetry

/-- 0x9000-0x90FF: interfaces (R567, R581, R582). -/
def readInterfaces (p : Perm) (d : Dev) (key : Nat) : Val :=
  if 0x904000 ≤ key ∧ key < 0x905800 then
    if key % 256 = 6 then vB (inputLevel d (key / 256 - 0x9040 + 1)) else fixedOrCount d key
  else if 0x901000 ≤ key ∧ key < 0x902000 then
    match key % 256 with
    | 5 => vB (port d (key / 256 - 0x9010)).up
    | 6 => vN (port d (key / 256 - 0x9010)).speed
    | 0x0A => .bytes (((d.ifs.rxLatency.drop (3 * (key / 256 - 0x9010))).take 3).flatMap (toLe 4))
    | 0x0B => .bytes (((d.ifs.txLatency.drop (3 * (key / 256 - 0x9010))).take 3).flatMap (toLe 4))
    | _ => fixedOrCount d key
  else
    match key with
    | 0x900803 => .bytes (be 16 (d.ifs.global_.getD 0))
    | 0x900804 => .bytes (be 16 (linkLocalAddr d))
    | 0x900808 => .bytes (be 16 (meshAddr d))
    | 0x903001 => .bytes (toLe 8 d.fw.flashId)
    | 0x903002 => vN d.fw.flashSize
    | 0x903004 => vB d.fw.fastFlash
    | 0x903809 => vB (pgState d)
    | 0x905801 => maskOf 24 (fun i => inputLevel d (i + 1))
    | 0x906001 => vN (p.siliconRev % 16 * 2 ^ 28 + 0x7720 * 4096 + Config.idcodeLow % 4096)
    | 0x906002 => vB p.debugLocked
    | _ => fixedOrCount d key

/-- What a register or counter of the RO class reads now (R30), by its range (R62). -/
def readRegister (p : Perm) (d : Dev) (key : Nat) : Val :=
  match key / 65536 with
  | 0x01 => readIdentity p d key
  | 0x02 => readIdentity p d key
  | 0x10 => readModes d key
  | 0x11 => readGovernor d key
  | 0x12 => readStart p d key
  | 0x13 => readStart p d key
  | 0x18 => readTime d key
  | 0x19 => readTimers d key
  | 0x20 => readFrontEnd d .sf key
  | 0x21 => readFrontEnd d .g key
  | 0x22 => readLanes d key
  | 0x23 => readMask d key
  | 0x30 => readSchedule d key
  | 0x31 => readNeighbours p d key
  | 0x40 => readStore d key
  | 0x41 => readQueues d key
  | 0x44 => readForwarding p d key
  | 0x48 => readShaping d key
  | 0x50 => readKeys p d key
  | 0x51 => readKeys p d key
  | 0x60 => readFirmware d key
  | 0x61 => readBunting d key
  | 0x70 => readHierarchy p d key
  | 0x80 => readEvents d key
  | 0x81 => readEvents d key
  | 0x82 => readEvents d key
  | 0x90 => readInterfaces p d key
  | _ => fixedOrCount d key

/-- A setting never written, by default. -/
def neverWritten (d : Dev) (key : Nat) : Bool := (dictGet key d.rw).isNone && (dictGet key d.nv.rp).isNone

/-- The default that holds for this device now (R33): ENTRY_LIMIT of the role (R297), MASK_OFFSET, RX_LO_FREQ and the hopping sequences of the
plan (R114, R117, R169), the gain ceilings as measured (R118), GPIO_OUT of GPIO_INIT (R577), and the table's for all others. -/
def defaultNow (p : Perm) (d : Dev) (key : Nat) : Val :=
  if key = 0x440003 then vN (entryMax p)
  else if key = 0x200003 then vN (rxLoKhz d .sf)
  else if key = 0x210003 then vN (rxLoKhz d .g)
  else if 0x202001 ≤ key ∧ key ≤ 0x20201C then .num (ceiling d .sf (key % 256 - 1))
  else if 0x212001 ≤ key ∧ key ≤ 0x212015 then .num (ceiling d .g (key % 256 - 1))
  else if key / 256 = 0x3008 ∧ key % 256 ≠ 0 then hopEntry (defaultHop d .sf) (key % 256)
  else if key / 256 = 0x3009 ∧ key % 256 ≠ 0 then hopEntry (defaultHop d .g) (key % 256)
  else if key = 0x230002 ∧ numN d 0x200001 = 1 then vN 1000000
  else if 0x904003 ≤ key ∧ key ≤ 0x905703 ∧ key % 256 = 3 then setting d (key - 1)
  else defaultOf key

/-- The value that a READ of an entry returns (R30). -/
def readEntry (p : Perm) (d : Dev) (e : Entry) (key : Nat) : Val :=
  match e.acc with
  | .ro => readRegister p d key
  | _ => if neverWritten d key then defaultNow p d key else setting d key

/-- The range of an entry now (R33), where the table gives it by another entry or the role. -/
def rangeNow (p : Perm) (d : Dev) (e : Entry) (key : Nat) : Int × Int :=
  if key = 0x440003 then (1, entryMax p)
  else if key = 0x110010 then (num d 0x11000F + 5, 100)
  else if key = 0x114003 then (num d 0x114001 + 20, 1240)
  else if 0x481005 ≤ key ∧ key ≤ 0x482F05 ∧ key % 256 = 5 then (1000, if num d (key - 4) < 2 then 2500000 else 2000000)
  else (e.lo, e.hi)

/-- META of an entry (R33). -/
def metaNow (p : Perm) (d : Dev) (e : Entry) (key : Nat) : List Byte :=
  let r := rangeNow p d e key
  metaOctets e (defaultNow p d key) (.num r.1) (.num r.2)

/-! ## BULK read targets (R55) -/

/-- A record of KEY_LIST (R329); the KCV is zero for AUTHORITY and for a key that is absent. -/
def keyOctets (e : KeyEntry) : List Byte :=
  toLe 1 e.kind ++ toLe 1 (boolNum e.exportable + 2 * boolNum e.present) ++ toLe 2 e.keyId ++ toLe 4 e.gen
    ++ (if e.kind = 4 || !e.present then toLe 3 0 else toLe 3 (Config.kcv e.key)) ++ toLe 1 e.signer ++ toLe 4 0

/-- A candidate of the learn-pending store as its 32 octets (R283). -/
def candidateOctets (c : Candidate) : List Byte :=
  toLe 8 c.eui ++ toLe 2 c.short ++ toLe 1 c.st ++ toLe 1 c.bestLqi ++ toLe 1 c.bestFrom ++ toLe 1 c.ingress ++ toLe 2 c.count
    ++ sle 8 c.first ++ sle 8 c.last

/-- The directory record of an image slot (R400). -/
def imageOctets (d : Dev) (slot : Nat) : List Byte :=
  match imageAt d slot with
  | some i =>
    toLe 2 slot ++ toLe 1 i.st ++ toLe 1 0 ++ toLe 2 i.kind ++ toLe 2 i.blocks ++ toLe 4 i.version ++ toLe 4 i.size ++ sle 8 i.time
      ++ toLe 1 (slotUsers d slot).length ++ toLe 7 0 ++ toLe 32 i.digest
  | none => toLe 2 slot ++ toLe 62 0

/-- The records of an image list as one string. -/
def recordsOf {α : Type} (f : α → List Byte) (l : List α) : List Byte := l.flatMap f

/-- An octet of the telemetry ring: of a poisoned burst, a DAMAGED header with RLEN 64 and zeros (R556). -/
def ringOctet (m : Memory) (d : Dev) (off : Nat) : Byte :=
  let a := regionBase d 7 + off
  if d.store.poisoned.contains (a / 64) then
    match a % 64 with | 0 => 255#8 | 2 => 64#8 | _ => 0#8
  else memGet a m

/-- Whether an entry is a BULK read target, and a BULK write target (R55). -/
def bulkReadable (key : Nat) : Bool :=
  [0x308002, 0x31001F, 0x440010, 0x440018, 0x484006, 0x484106, 0x484009, 0x484109, 0x500015, 0x610006, 0x810003, 0x820004].contains key
    || (0x611019 ≤ key && key ≤ 0x611719 && key % 256 = 0x19)
def bulkWritable (key : Nat) : Bool :=
  [0x301001, 0x484009, 0x484109, 0x600001, 0x610003, 0x61000C].contains key

/-- The content of a BULK read target other than the telemetry ring. -/
def bulkContent (d : Dev) (key : Nat) : List Byte :=
  match key with
  | 0x308002 => recordsOf cellOctets (sortBy (fun c => ((c.handle * 65536 + c.slotOffset) * 256 + c.loc : Int)) d.sched.ver.cells)
  | 0x31001F => recordsOf pennantOctets (sortBy (fun q => (q.short : Int)) (d.nbr.nodes.filterMap Node.pennant))
  | 0x440010 => (upTo 256).flatMap (fun i => match d.fwd.lps.find? (fun c => c.index = i) with | some c => candidateOctets c | none => toLe 32 0)
  | 0x440018 => recordsOf entryOctets (sortBy (fun e => ((boolNum e.ovf * 2097152 + e.loc : Nat) : Int)) d.fwd.entries)
  | 0x500015 => (recordsOf keyOctets d.can.table ++ List.replicate 6144 0).take 6144
  | 0x610006 => (upTo (repoSlots d)).flatMap (imageOctets d)
  | 0x810003 => recordsOf errOctets d.err.log
  | _ =>
    if key % 256 = 0x19 then (upTo 4096).flatMap (fun b => toLe 2 (demand d (key / 256 - 0x6110) b))
    else if key % 256 = 6 then
      match (port d (key / 256 - 0x4840)).active with
      | some g => (gateOctets g ++ List.replicate 8192 0).take 8192
      | none => List.replicate 8192 0
    else (octets d key ++ List.replicate 8192 0).take 8192

/-- `n` octets of a BULK read target from an offset, shortened to the end of the content (R55). -/
def bulkSlice (m : Memory) (d : Dev) (key off n : Nat) : List Byte :=
  if key = 0x820004 then (upTo (Nat.min n (d.store.telemUnits * 67108864 - off))).map (fun i => ringOctet m d (off + i))
  else slice (bulkContent d key) off n

end Sys2Proof.Machine
end

