-- ==== Sys2Proof/Machine/Links.lean ====
section
/-!
DEFINITION. What the interfaces do beside carrying PDUs: the ports' links and the management addresses (R306, R562, R563, R567), the
two-wire link and the pins (R575-R577), and what waits for MUART (R568).
-/
namespace Sys2Proof.Machine

/-! ## Management addresses (R567) -/

/-- The global address to be: the static one in force, else the autoconfigured one once a prefix has come (R567). -/
def wantedGlobal (d : Dev) : Option Nat :=
  if d.ifs.addr6 ≠ 0 then some d.ifs.addr6 else d.ifs.raPrefix.map (autoAddr d)

/-- Duplicate Address Detection begins on an address that is neither in use nor under it (R567). -/
def beginDad (d : Dev) (addr : Nat) : Dev :=
  if d.ifs.tentative.contains addr || d.ifs.linkLocal = some addr || d.ifs.global_ = some addr then d
  else emit { d with ifs := { d.ifs with tentative := d.ifs.tentative ++ [addr] } } (.dadProbe addr)

/-- Duplicate Address Detection of the addresses the device is to have, while a link is up (R567). -/
def wantAddresses (d : Dev) : Dev :=
  if (port d 0).up || (port d 1).up then
    let d1 := beginDad d (linkLocalAddr d)
    match wantedGlobal d1 with | some a => beginDad d1 a | none => d1
  else d

/-- Duplicate Address Detection of a tentative address ends: it is taken into use, or counted in DAD_FAILS and left unused (R567). -/
def dadEnds (d : Dev) (addr : Nat) (duplicate : Bool) : Dev :=
  if !d.ifs.tentative.contains addr then d
  else
    let d1 : Dev := { d with ifs := { d.ifs with tentative := d.ifs.tentative.filter (· ≠ addr) } }
    if duplicate then count d1 0x900809
    else if addr = linkLocalAddr d then { d1 with ifs := { d1.ifs with linkLocal := some addr } }
    else { d1 with ifs := { d1.ifs with global_ := some addr } }

/-- A Router Advertisement: its sender is the default router; the first prefix with the A flag forms the global address where none is
static (R567). -/
def routerAdvert (router : Nat) (pfx : Option Nat) (d : Dev) : Dev :=
  let d1 : Dev := { d with ifs := { d.ifs with router := some router, raPrefix := if d.ifs.raPrefix.isSome then d.ifs.raPrefix else pfx } }
  wantAddresses d1

/-- The answer to a Neighbor Solicitation, or an ARP request, for one of the device's own addresses (R567). -/
def solicited (prt : Nat) (arp : Bool) (target : Nat) (d : Dev) : Dev :=
  if arp then (if d.ifs.addr4 ≠ 0 && target = d.ifs.addr4 then emit d (.arpReply prt target) else d)
  else if d.ifs.linkLocal = some target || d.ifs.global_ = some target then emit d (.neighborAdvert prt target)
  else d

/-! ## Ports (R306, R562, R563) -/

/-- The link of a port goes down (R306): with the last link the link-local address goes (R567). -/
def portDown (p : Nat) (d : Dev) : Dev :=
  if !(port d p).up then d
  else
    let d1 := count (flushPort (updPort d p (fun x => { x with up := false, speed := 0 })) p) ((0x9010 + p) * 256 + 0x0C)
    if (port d1 0).up || (port d1 1).up then d1
    else { d1 with ifs := { d1.ifs with linkLocal := none, tentative := [] } }

/-- The speed that training resolves to (R562): in SGMII 10, 100 or 1000 Mbit/s, else the mode's own. -/
def resolvedSpeed (d : Dev) (p offered : Nat) : Nat :=
  match numN d ((0x9010 + p) * 256 + 1) with | 0 => if 1 ≤ offered ∧ offered ≤ 3 then offered else 3 | 1 => 3 | _ => 4

/-- Training ends with the link up (R562, R563). -/
def portUp (p offered : Nat) (d : Dev) : Dev :=
  if (port d p).up then d
  else wantAddresses (count (updPort d p (fun x => { x with up := true, speed := resolvedSpeed d p offered })) ((0x9010 + p) * 256 + 0x0C))

/-- A port's link goes down to train again (R563). -/
def retrain (d : Dev) (p : Nat) : Dev := portDown p d

/-! ## Pins, and the two-wire link (R575-R577) -/

/-- GPIO `n` driven as GPIO_DIR and GPIO_OUT say, unless the pads are latched (R577). -/
def drivePin (d : Dev) (n : Nat) : Dev :=
  if d.pwr.padHold.testBit 11 || numN d ((0x9040 + n) * 256 + 1) = 0 then d
  else emit d (.gpio n (flag d ((0x9040 + n) * 256 + 3)))

/-- The code of VCORE_SET written: an attempt that is not acknowledged is counted and repeated up to three times (R575, R576). -/
def voltageWrite (nacks : Nat) (d : Dev) : Dev :=
  (upTo (Nat.min nacks 3 + 1)).foldl (fun x _ => writeVoltage x) (countBy d 0x903806 (Nat.min nacks 4))

/-- MUART may send: what has waited goes out in order (R568). -/
def flushMuart (d : Dev) : Dev :=
  d.ifs.muartOut.foldl (fun x o => emit x o.pdu) { d with ifs := { d.ifs with muartOut := [] } }

end Sys2Proof.Machine
end

