-- ==== Sys2Proof/Machine/TimeBase.lean ====
section
/-!
DEFINITION. Time base and clocks (R66-R89): the reference, calibration of the slow tick, steering, stepping, the PTP subset,
and the PPS pins.
-/
namespace Sys2Proof.Machine

/-! ## The reference (R68) -/

/-- REFCLK is expected: it runs in M4 to M11 (R67). -/
def refRuns (d : Dev) : Bool := d.pwr.mode ≠ .m0 && !d.pwr.mode.asleep

/-- The receive windows of the slot in progress are given up: slot activity resumes with a slot prepared after relock (R68). -/
def dropWindows (d : Dev) : Dev :=
  let d1 := shutWindows (shutWindows d .sf (fun _ => true)) .g (fun _ => true)
  { d1 with lanes := d1.lanes.map (fun l => { l with next := none }) }

/-- No REFCLK edge for 1 µs: transmission stops, lanes are blanked, event 22, and the slow tick takes over (R68, R71). -/
def refLost (d : Dev) : Dev :=
  if !refRuns d || !d.clk.refOk then d
  else
    let d1 := dropWindows (stopSlots (stopTransmission d))
    handover (raise { d1 with clk := { d1.clk with refOk := false, refLostAt := some d.clk.up } } 22 0) false

/-- REF_LOST (R68). -/
def execRefLost (s : State) : Host.Outcome State Fault Refusal := onDev s refLost

/-- A band's lanes come out of the blanking of a lost reference, unless a calibration blanks them. -/
def unblankIdle (d : Dev) (b : Band) : Dev := if (band d b).cal.isSome then d else unblank d b

/-- PLL0 relocks within 100 ms: event 22, SYNC_STATE HOLDOVER, the fast tick from the next SLOWCLK edge; slot activity follows from the next
preparation (R68, R71). -/
def refRestored (d : Dev) : Dev :=
  match d.clk.refLostAt with
  | none => d
  | some t =>
    if ms 100 < since d t then d
    else
      let d1 : Dev := { d with clk := { d.clk with refOk := true, refLostAt := none } }
      handover (setSync (raise (unblankIdle (unblankIdle d1 .sf) .g) 22 1) .holdover) true

/-- REF_RESTORED (R68). -/
def execRefRestored (s : State) : Host.Outcome State Fault Refusal := onDev s refRestored

/-- 100 ms have passed without relock: M11 with cause REF_LOST (R68). -/
def refRelockTimeout (d : Dev) : Dev :=
  match d.clk.refLostAt with
  | none => d
  | some t =>
    let d1 := reach d (t + ms 100)
    enterFault { d1 with clk := { d1.clk with refLostAt := none } } 2

/-- REF_RELOCK_TIMEOUT (R68). -/
def execRefRelockTimeout (s : State) : Host.Outcome State Fault Refusal := onDevSettled s refRelockTimeout

/-- The end of a 1 s window: the slow increment is set to 10⁹ / f, with f measured against TBCLK (R70). -/
def slowCalibration (slow fast : Nat) (d : Dev) : Dev :=
  if !refRuns d || !d.clk.refOk || slow = 0 || fast = 0 then d
  else
    let d1 := reach d (d.clk.calStart + sec 1)
    { d1 with clk := { d1.clk with
      calStart := d1.clk.up
      slowIncr := BitVec.ofNat 64 (roundDiv ((fast * fastNominal : Nat) : Int) slow).toNat
      slowErr := roundDiv (((slow * 400000000 : Nat) : Int) * 100000000 - ((fast * 32768 : Nat) : Int) * 100000000) (fast * 32768) } }

/-- SLOW_CALIBRATION (R70). -/
def execSlowCalibration (slowTicks fastTicks : Nat) (s : State) : Host.Outcome State Fault Refusal :=
  onDev s (slowCalibration slowTicks fastTicks)

/-! ## Steering and stepping (R73-R77) -/

/-- The prediction of the remaining offset reaches zero: PHASE_SLEW := 0 (R74). -/
def phaseSlewEnd (d : Dev) : Dev := match d.clk.slewUntil with | none => d | some t => endSlew (reach d t)

/-- PHASE_SLEW_END (R74). -/
def execPhaseSlewEnd (s : State) : Host.Outcome State Fault Refusal := onDev s phaseSlewEnd

/-- Where R77 permits a step: the manager always, a worker or spare while no district schedule runs. -/
def stepAllowed (p : Perm) (d : Dev) : Bool := p.manager || d.pwr.mode = .m5 || d.pwr.mode = .m10 || d.sched.st = .none

/-- The time base moved by `off` ns, its fraction kept (R76 KIND 0). -/
def addTb (d : Dev) (off : Int) : Dev :=
  { d with clk := { d.clk with tb := d.clk.tb + (BitVec.ofInt 96 off <<< 32) } }

/-- The time base set to `v` ns (R76 KIND 1). -/
def setTb (d : Dev) (v : Int) : Dev := { d with clk := { d.clk with tb := BitVec.ofInt 96 v <<< 32 } }

/-- What a step by `off` ns does beside the time base (R76): PHASE_SLEW cleared, LOCKED to ACQUIRING, event 18; gate lists keep their
times (R311). -/
def stepped (d : Dev) (off : Int) : Dev :=
  let d1 := endSlew d
  let d2 : Dev := { d1 with clk := { d1.clk with pred := none } }
  switchDue (switchDue (raise (if d2.clk.sync = .locked then setSync d2 .acquiring else d2) 18 (u32Of (satI32 off))) 0) 1

/-- The command STEP: KIND, seven reserved bytes, VALUE (R76, R77). -/
def stepCore (p : Perm) : Core := fun arg d =>
  if !argLen arg 16 then answer d .malformed
  else if 1 < leAt arg 0 1 || leAt arg 1 7 ≠ 0 then answer d .outOfRange
  else if !stepAllowed p d then answer d .wrongMode
  else
    let v := signedOf 8 (leAt arg 8 8)
    let off := if leAt arg 0 1 = 0 then v else v - tbNs d
    (stepped (if leAt arg 0 1 = 0 then addTb d v else setTb d v) off, .ok, toLe 8 (off % 18446744073709551616).toNat)

/-- STEP (R76, R77). -/
def execStep (r : Req) (arg : List Byte) (s : State) : Host.Outcome State Fault Refusal :=
  onDev s (serveExec r 0x180008 arg (stepCore s.perm))

/-! ## Backhaul time transfer (R79, R80) -/

/-- PTP is served by the full runtime (R457, R480). -/
def ptpRuns (d : Dev) : Bool := qdlServed d && !d.start.bootRuntime

/-- Mode of a port as its latency is listed (R566). -/
def portMode (d : Dev) (p : Nat) : Nat := Nat.min 2 (numN d ((0x9010 + p) * 256 + 1))

/-- Ethernet stamps: the time base corrected by the port's fixed latency for its mode (R78, R566). -/
def rxStamp (d : Dev) (p : Nat) : Int := stampNs d - ((nth d.ifs.rxLatency (3 * p + portMode d p) 0 : Nat) : Int)
def txStamp (d : Dev) (p : Nat) : Int := stampNs d + ((nth d.ifs.txLatency (3 * p + portMode d p) 0 : Nat) : Int)

/-- A port carries the device's PTP messages (R79, R88). -/
def ptpPort (d : Dev) (p : Nat) : Bool := (ptpN d 0x182003).testBit p && (port d p).up

/-- A message is the device's to process, in the given mode: its port is enabled, its transport and its domain are the device's (R79). -/
def ptpAccepts (d : Dev) (mode : Nat) (h : PtpHead) : Bool :=
  ptpRuns d && ptpN d 0x182001 = mode && ptpN d 0x182002 = h.domain && ptpN d 0x182004 = h.transport && ptpPort d h.port.val

/-- The message comes from the chosen parent, through its port (R80). -/
def fromParent (d : Dev) (h : PtpHead) : Bool :=
  match d.ptp.parent with | some f => f.port = h.port && f.identity = h.source && f.portNumber = h.sourcePort | none => false

/-- A Sync event with origin `t1` (correction applied) received at `t2`: a measurement with source 1; with source 2 it gives the seconds
(R74, R79, R81). -/
def ptpMeasure (d : Dev) (t1 t2 : Int) : Dev :=
  let d1 : Dev := { d with ptp := { d.ptp with lastSync := some (t1, t2) } }
  let off := t2 - t1 - d.ptp.meanPath - ptpNum d 0x18200A
  if numN d 0x180003 = 1 then measure d1 off false
  else if numN d 0x180003 = 2 then { d1 with ptp := { d1.ptp with seconds := (off + 500000000) / nsPerSec } }
  else d1

/-- A received Sync: stamped; one-step measures, two-step awaits its Follow_Up (R79). -/
def ptpSync (m : PtpSync) (d : Dev) : Dev :=
  if !ptpAccepts d 1 m.head || !fromParent d m.head then d
  else
    let t2 := rxStamp d m.head.port.val
    if m.twoStep then { d with ptp := { d.ptp with pendingSync := some (m.head.seq, t2, m.corr) } }
    else ptpMeasure d (m.origin + m.corr) t2

/-- SYNC (R79). -/
def execSync (m : PtpSync) (s : State) : Host.Outcome State Fault Refusal := onDev s (ptpSync m)

/-- A Follow_Up completes the Sync of its sequence number (R79). -/
def ptpFollowUp (h : PtpHead) (origin corr : Int) (d : Dev) : Dev :=
  if !ptpAccepts d 1 h || !fromParent d h then d
  else
    match d.ptp.pendingSync with
    | some (sq, t2, c) =>
      if sq = h.seq then ptpMeasure { d with ptp := { d.ptp with pendingSync := none } } (origin + corr + c) t2 else d
    | none => d

/-- FOLLOW_UP (R79). -/
def execFollowUp (h : PtpHead) (origin corr : Int) (s : State) : Host.Outcome State Fault Refusal := onDev s (ptpFollowUp h origin corr)

/-- The master answers a Delay_Req with its receive stamp and the request's correctionField (R79). -/
def ptpDelayReq (p : Perm) (h : PtpHead) (corr : Int) (d : Dev) : Dev :=
  if p.manager && ptpAccepts d 2 h then
    emit d (.ptpDelayResp h.port.val h.transport h.domain h.seq h.source h.sourcePort (rxStamp d h.port.val) corr)
  else d

/-- DELAY_REQ (R79). -/
def execDelayReq (h : PtpHead) (corr : Int) (s : State) : Host.Outcome State Fault Refusal := onDev s (ptpDelayReq s.perm h corr)

/-- The mean path delay from the last Sync and this exchange, half their sum (R79). -/
def ptpDelayResp (h : PtpHead) (forUs : Bool) (receive corr : Int) (d : Dev) : Dev :=
  if !forUs || !ptpAccepts d 1 h || !fromParent d h then d
  else
    match d.ptp.pendingDelay, d.ptp.lastSync with
    | some (sq, t3), some (t1, t2) =>
      if sq = h.seq then
        { d with ptp := { d.ptp with pendingDelay := none, meanPath := roundDiv ((t2 - t1) + (receive - corr - t3)) 2 } }
      else d
    | _, _ => d

/-- DELAY_RESP (R79). -/
def execDelayResp (h : PtpHead) (forUs : Bool) (receive corr : Int) (s : State) : Host.Outcome State Fault Refusal :=
  onDev s (ptpDelayResp h forUs receive corr)

/-- Lexicographic order. -/
def lexLt : List Nat → List Nat → Bool
  | [], [] => false
  | [], _ => true
  | _, [] => false
  | a :: s, b :: t => a < b || (a = b && lexLt s t)

/-- One master is better than another by the standard's dataset comparison (R79): of one grandmaster, fewer steps removed, then the identities of
the senders and of the receiving ports; else the first attribute that differs. -/
def better (a b : Foreign) : Bool :=
  if a.grandmaster = b.grandmaster then
    lexLt [a.stepsRemoved, a.identity, a.portNumber, a.port.val] [b.stepsRemoved, b.identity, b.portNumber, b.port.val]
  else
    lexLt [a.priority1, a.clockClass, a.accuracy, a.variance, a.priority2, a.grandmaster]
      [b.priority1, b.clockClass, b.accuracy, b.variance, b.priority2, b.grandmaster]

/-- The announce timeout of a master has passed (R75, R88). -/
def masterStale (d : Dev) (f : Foreign) : Bool := ptpN d 0x182007 * f.interval * 64 ≤ since d f.at_

/-- The best of the masters heard (R79, R80). -/
def bestMaster (l : List Foreign) : Option Foreign :=
  l.foldl (fun b f => match b with | none => some f | some x => if better f x then some f else some x) none

/-- Two records of one master heard on one port. -/
def sameMaster (a b : Foreign) : Bool := a.port = b.port && a.identity = b.identity && a.portNumber = b.portNumber

/-- The parent chosen anew; a change raises event 21 with its port number (R79, R89). -/
def chooseParent (d : Dev) : Dev :=
  match bestMaster d.ptp.foreign with
  | none => d
  | some f =>
    let d1 : Dev := { d with ptp := { d.ptp with parent := some f, utcOffset := f.utcOffset } }
    let same := match d.ptp.parent with | some x => sameMaster x f | none => false
    if same then d1
    else raise { d1 with ptp := { d1.ptp with pendingSync := none, pendingDelay := none, lastSync := none } } 21 f.portNumber

/-- A received Announce enters master selection (R79). -/
def ptpAnnounce (m : PtpAnnounce) (d : Dev) : Dev :=
  if !ptpAccepts d 1 m.head then d
  else
    let f : Foreign := { port := m.head.port, identity := m.head.source, portNumber := m.head.sourcePort, priority1 := m.priority1,
                         clockClass := m.clockClass, accuracy := m.accuracy, variance := m.variance, priority2 := m.priority2,
                         grandmaster := m.grandmaster, stepsRemoved := m.stepsRemoved, utcOffset := m.utcOffset,
                         at_ := d.clk.up, interval := m.intervalNs }
    let l := d.ptp.foreign.filter (fun x => !sameMaster x f && !masterStale d x)
    chooseParent { d with ptp := { d.ptp with foreign := l ++ [f] } }

/-- ANNOUNCE (R79). -/
def execAnnounce (m : PtpAnnounce) (s : State) : Host.Outcome State Fault Refusal := onDev s (ptpAnnounce m)

/-- PTP_DISCARD: a message of an unsupported type is counted (R79). -/
def execPtpDiscard (port : Fin 2) (transport : Nat) (s : State) : Host.Outcome State Fault Refusal :=
  onDev s (fun d => if ptpRuns d && ptpPort d port.val && ptpN d 0x182004 = transport then count d 0x18200B else d)

/-- clockClass of the manager's Announce (R80). -/
def clockClass (d : Dev) : Nat :=
  if d.clk.sync = .locked && 2 ≤ numN d 0x180003 then 6 else if d.clk.sync = .holdover then 7 else 248

/-- 2 to the power of a signed number, in real time (R88). -/
def logTime (n : Int) : Nat := if n < 0 then sec 1 / 2 ^ n.natAbs else sec 1 * 2 ^ n.natAbs

/-- An interval of PTP messages (R88); of Announce messages it is 2 s, as the profile of R79 has it (log 124). -/
def ptpEvery (d : Dev) : PtpTimer → Nat
  | .sync => logTime (ptpNum d 0x182005)
  | .announce => sec 2
  | .delayReq => logTime (ptpNum d 0x182006)

/-- When the last interval of a kind ended, and its end noted. -/
def ptpLast (d : Dev) : PtpTimer → Nat
  | .sync => d.ptp.syncAt | .announce => d.ptp.announceAt | .delayReq => d.ptp.delayAt
def ptpNote (d : Dev) (k : PtpTimer) : Dev :=
  { d with ptp := match k with
    | .sync => { d.ptp with syncAt := d.clk.up, kept := [] }
    | .announce => { d.ptp with announceAt := d.clk.up, kept := [] }
    | .delayReq => { d.ptp with delayAt := d.clk.up } }

/-- The messages that the master or the slave sends at the end of an interval (R79, R80). -/
def ptpSend (p : Perm) (k : PtpTimer) (d : Dev) : Dev :=
  let tr := ptpN d 0x182004
  let dom := ptpN d 0x182002
  let ports := (upTo 2).filter (ptpPort d)
  let master := p.manager && ptpN d 0x182001 = 2
  match k with
  | .sync =>
    if master then
      let n := d.ptp.seqSync
      ports.foldl (fun x q => emit (emit x (.ptpSync q tr dom n)) (.ptpFollowUp q tr dom n (txStamp x q)))
        { d with ptp := { d.ptp with seqSync := (n + 1) % 65536 } }
    else d
  | .announce =>
    if master then
      let n := d.ptp.seqAnnounce
      ports.foldl (fun x q => emit x (.ptpAnnounce q tr dom n (clockClass x))) { d with ptp := { d.ptp with seqAnnounce := (n + 1) % 65536 } }
    else d
  | .delayReq =>
    match d.ptp.parent with
    | some f =>
      if ptpN d 0x182001 = 1 && ptpPort d f.port.val then
        let n := d.ptp.seqDelay
        emit { d with ptp := { d.ptp with seqDelay := (n + 1) % 65536, pendingDelay := some (n, txStamp d f.port.val) } }
          (.ptpDelayReq f.port.val tr dom n)
      else d
    | none => d

/-- A Sync, Announce or Delay_Req interval ends: with a Sync or Announce interval the settings written take effect, and the device sends its
messages (R80, R88). -/
def ptpInterval (p : Perm) (k : PtpTimer) (d : Dev) : Dev :=
  if !ptpRuns d then d else ptpSend p k (ptpNote (reach d (ptpLast d k + ptpEvery d k)) k)

/-- PTP_INTERVAL (R79, R80, R88). -/
def execPtpInterval (kind : PtpTimer) (s : State) : Host.Outcome State Fault Refusal := onDev s (ptpInterval s.perm kind)

/-- When the source times out (R75): the parent's announce timeout for PTP, 3 s for PPS_IN, from the last valid measurement. -/
def sourceTimeoutAt (d : Dev) : Nat :=
  let t := d.clk.measAt.getD 0
  if numN d 0x180003 = 1 then
    match d.ptp.parent with | some f => t + ptpN d 0x182007 * f.interval * 64 | none => t
  else t + sec 3

/-- No valid measurement for the source timeout: LOCKED or ACQUIRING goes to HOLDOVER (R75). -/
def sourceTimeout (d : Dev) : Dev :=
  if (d.clk.sync = .locked || d.clk.sync = .acquiring) && numN d 0x180003 ≠ 0 then setSync (reach d (sourceTimeoutAt d)) .holdover
  else d

/-- SOURCE_TIMEOUT (R75). -/
def execSourceTimeout (s : State) : Host.Outcome State Fault Refusal := onDev s sourceTimeout

/-- The estimate has grown in HOLDOVER to more than 1,000 ns (R84). -/
def alignExceeded (d : Dev) : Dev :=
  match d.clk.sync, d.clk.holdover with
  | .holdover, some (base, t) =>
    if 1000 < d.clk.align then d
    else
      let wait := ceilDiv ((1001 - base) * 6400000000) (Nat.max 1 (numN d 0x18000F))
      let d1 := reach d (t + wait)
      setAlign d1 (alignNow d1)
  | _, _ => d

/-- ALIGN_EXCEEDED (R84). -/
def execAlignExceeded (s : State) : Host.Outcome State Fault Refusal := onDev s alignExceeded

/-! ## PPS_IN and PPS_OUT (R81, R82) -/

/-- The PPS settings as stored (R88). -/
def ppsStored (d : Dev) : PpsSet :=
  ⟨flag d 0x183001, numN d 0x183002, num d 0x183003, flag d 0x183005, numN d 0x183006, num d 0x183007, numN d 0x183008⟩

/-- The PPS settings in force at the time-base value `t`: a write takes effect at the next second (R88). -/
def ppsAt (d : Dev) (t : Int) : PpsSet :=
  match d.pps.before with | some b => if t / nsPerSec = b.1 then b.2 else ppsStored d | none => ppsStored d

/-- The PPS settings in force now. -/
def ppsSet (d : Dev) : PpsSet := ppsAt d (tbNs d)

/-- A write to a PPS setting: those in force stay so until the next second (R88). -/
def keepPps (before d : Dev) : Dev := { d with pps := { d.pps with before := some (tbNs d / nsPerSec, ppsSet before) } }

/-- The whole second nearest to a time-base value (R81). -/
def nearestSecond (t : Int) : Int := (t + 500000000) / nsPerSec * nsPerSec

/-- The selected edge at PPS_IN: stamped, and measured where TB_SOURCE takes its phase from PPS_IN, with source 2 by the seconds of PTP
(R72, R78, R81; log 125). -/
def ppsEdge (falling : Bool) (d : Dev) : Dev :=
  if !refRuns d then d
  else
    let d1 : Dev := { d with gpio := { d.gpio with ppsIn := !falling } }
    if !d.clk.fast || !(ppsSet d).inEn || (ppsSet d).inEdge ≠ boolNum falling then d1
    else
      let t := stampNs d - (ppsSet d).inComp
      let d2 : Dev := { d1 with pps := { d1.pps with inLast := t, lastEdge := some d.clk.up, missing := 0 } }
      let off := t - nearestSecond t
      if numN d 0x180003 = 2 then measure d2 (off + d.ptp.seconds * nsPerSec) true
      else if numN d 0x180003 = 3 then measure d2 off true
      else d2

/-- PPS_IN_EDGE (R81). -/
def execPpsInEdge (falling : Bool) (s : State) : Host.Outcome State Fault Refusal := onDev s (ppsEdge falling)

/-- The instant from which missing seconds are counted (R81). -/
def ppsFrom (d : Dev) : Nat := match d.pps.lastEdge with | some t => t | none => d.pps.since

/-- One more second without an edge, from the third on: event 19 with the seconds gone by (R81). -/
def ppsMissing (d : Dev) : Dev :=
  if !refRuns d || !(ppsSet d).inEn then d
  else
    let d1 := reach d (ppsFrom d + sec (Nat.max 3 (d.pps.missing + 1)))
    let n := since d1 (ppsFrom d1) / sec 1
    raise { d1 with pps := { d1.pps with missing := n } } 19 n

/-- PPS_IN_MISSING (R81). -/
def execPpsInMissing (s : State) : Host.Outcome State Fault Refusal := onDev s ppsMissing

/-- The second whose pulse is due next: the first whole second plus PPS_OUT_PHASE at or after the time base. -/
def nextPpsSecond (d : Dev) (p : PpsSet) : Int := -((-(tbNs d - p.phase)) / nsPerSec)

/-- The settings of the next pulse: those in force when it is due (R88). -/
def ppsDue (d : Dev) : PpsSet := ppsAt d (nextPpsSecond d (ppsSet d) * nsPerSec + (ppsSet d).phase)

/-- PPS_OUT starts at a whole second plus PPS_OUT_PHASE: subject to the gate, and never twice for one second (R82). -/
def ppsOutStart (d : Dev) : Dev :=
  let p := ppsDue d
  if !refRuns d || !p.outEn || d.pwr.padHold.testBit 11 then d
  else
    let k := nextPpsSecond d p
    let d1 := reachTb d (k * nsPerSec + p.phase)
    let again := match d.pps.lastSecond with | some l => decide (k ≤ l) | none => false
    if again || (p.gate = 1 && d.clk.sync ≠ .locked) then d1
    else emit { d1 with pps := { d1.pps with out := true, ticksLeft := p.width * 2 / 5, lastSecond := some k } } (.ppsOut true)

/-- PPS_OUT_START (R82). -/
def execPpsOutStart (s : State) : Host.Outcome State Fault Refusal := onDev s ppsOutStart

/-- The pulse ends after its width, counted in fast ticks (R82). -/
def ppsOutEnd (d : Dev) : Dev :=
  if !d.pps.out then d
  else
    let d1 := reach d (d.clk.up + d.pps.ticksLeft * 160)
    emit { d1 with pps := { d1.pps with out := false, ticksLeft := 0 } } (.ppsOut false)

/-- PPS_OUT_END (R82). -/
def execPpsOutEnd (s : State) : Host.Outcome State Fault Refusal := onDev s ppsOutEnd

end Sys2Proof.Machine
end

