-- ==== Sys2Proof/Machine/Writes.lean ====
section
/-!
DEFINITION. WRITE requests (R30, R47, R48, R610): the checks of an item in their order, the checks that the chapters name for their
own entries, the commit of RP items, and what a written value does at once or after the response.
-/
namespace Sys2Proof.Machine

/-- The key of a WRITE item. -/
def itemKey (w : WItem) : Nat := w.idx * 256 + w.sub

/-- `key` is sub-index `sub` of one of `n` indices from `idx` on. -/
def atSub (key idx n sub : Nat) : Bool := decide (idx * 256 ≤ key ∧ key < (idx + n) * 256 ∧ key % 256 = sub)

/-! ## Checks of the chapters (R610 step 8) -/

/-- Levels 1 to 7 but for 4 (R364). -/
def levelOk (v : Nat) : Bool := 1 ≤ v && v ≤ 7 && v ≠ 4

/-- Two class shapers of one output and class; a class shaper whose mask is not one bit; an enabled group shaper with an empty mask or
without output (R301). -/
def shapersOk (d : Dev) : Bool :=
  let key (s sub : Nat) : Nat := (0x4810 + s) * 256 + sub
  let isClass (s : Nat) : Bool := numN d (key s 2) = 0
  (upTo 32).all (fun s =>
    if isClass s then
      ((upTo 8).filter (fun c => (numN d (key s 3)).testBit c)).length = 1
        && (upTo s).all (fun t => !(isClass t && numN d (key t 1) = numN d (key s 1) && numN d (key t 3) = numN d (key s 3)))
    else !(flag d (key s 4)) || (numN d (key s 3) ≠ 0 && numN d (key s 1) ≠ 3))

/-- The six values of a column of R447 do not decrease (R436). -/
def risingOk (d : Dev) (sub : Nat) : Bool := (upTo 5).all (fun k => decide (num d ((0x1120 + k) * 256 + sub) ≤ num d ((0x1121 + k) * 256 + sub)))

/-- The code of R576 fits a byte, and the voltage it gives lies in 760-880 mV. -/
def voltageOk (d : Dev) : Bool :=
  let set := numN d 0x903802
  let base := numN d 0x903804
  let step := numN d 0x903805
  let code := voltageCode set base step
  base ≤ set && code ≤ 255 && 760000 ≤ base * 1000 + code * step && base * 1000 + code * step ≤ 880000

/-- The check of a value by itself that a chapter names beside the range. -/
def ownValueOk (p : Perm) (key : Nat) (v : Val) : Bool :=
  let n := valNat v
  let o := valOctets v
  if key = 0x110018 then n ≤ 100 || n = 255
  else if atSub key 0x1910 24 7 then n ≤ 7 || n = 255
  else if key = 0x182001 then n ≠ 2 || p.manager
  else if key = 0x230001 || key = 0x231001 then o.any (· ≠ 0)
  else if key = 0x820008 then (upTo 64).all (fun k => leAt o (4 * k + 3) 1 = 0)
  else if key = 0x44001B then o.all (fun b => decide (b.toNat ≤ 7))
  else if key = 0x441001 then (o.drop 8).all (· = 0)
  else if key = 0x510002 || key = 0x510003 || key = 0x510004 then levelOk n
  else if key = 0x70100D then n % 100000 = 0
  else true

/-- The checks that follow, on the state as it is, the value, and the state as the request would leave it (R65, R237, R301, R350,
R397, R423, R436, R537, R576). -/
def ownCheck (p : Perm) (d outcome : Dev) (key : Nat) (v : Val) : Status :=
  if !ownValueOk p key v then .outOfRange
  else if atSub key 0x0210 16 (key % 256) then (if hasL2 d && !hasL2 outcome then .wrongMode else .ok)
  else if 0x400002 ≤ key ∧ key ≤ 0x400004 then
    (if 34 < numN outcome 0x400002 + numN outcome 0x400003 + numN outcome 0x400004 then .outOfRange else .ok)
  else if atSub key 0x4810 32 (key % 256) then (if shapersOk outcome then .ok else .outOfRange)
  else if atSub key 0x1120 6 (key % 256) then (if risingOk outcome (key % 256) then .ok else .outOfRange)
  else if key = 0x903802 || key = 0x903804 || key = 0x903805 then (if voltageOk outcome then .ok else .outOfRange)
  else if key = 0x500011 then (if tampered d then .tamper else .ok)
  else if key / 256 = 0x7010 then
    (if !p.manager then .wrongMode
     else if key % 256 ≤ 3 && numN outcome 0x701002 < (numN outcome 0x701003 + 4) * numN outcome 0x701001 then .outOfRange else .ok)
  else if atSub key 0x6110 8 (key % 256) then
    (if (camp d (key / 256 - 0x6110)).st = 0 || 5 ≤ (camp d (key / 256 - 0x6110)).st then .ok else .wrongMode)
  else if atSub key 0x1910 24 (key % 256) && [1, 2, 7].contains (key % 256) then
    (if (timer d (key / 256 - 0x1910)).run then .wrongMode else .ok)
  else .ok

/-- The entry is a parameter of a running command: PEND entries of a GATE_COMMIT (R51, R321). -/
def paramBusy (d : Dev) (key : Nat) : Bool :=
  (atSub key 0x4840 2 (key % 256) && 7 ≤ key % 256 && key % 256 ≤ 0x0A && d.qdl.running.contains (key / 256 * 256 + 0x0B))

/-! ## Checking an item (R610) -/

/-- The value that an item carries. -/
def itemVal (e : Entry) (w : WItem) : Val := decodeVal e.ty w.value

/-- A value stored as the entry's class says (R30): it has one home, so a persistent value leaves none among the others. -/
def storeVal (d : Dev) (e : Entry) (key : Nat) (v : Val) : Dev :=
  if e.acc = .rp then putRp { d with rw := d.rw.filter (fun x => x.1 ≠ key) } key v else putRw d key v

/-- Steps 1 to 7 of R610, and the type's part of step 8. -/
def itemCheck (p : Perm) (level : Nat) (d : Dev) (w : WItem) : Status :=
  match servedEntry d w.idx w.sub with
  | none => .noEntry
  | some e =>
    if e.acc = .ro || e.acc = .cx then .accessDenied
    else if level < e.wl then .accessDenied
    else if !modeAllows d e then .wrongMode
    else if paramBusy d (itemKey w) then .busy
    else if !typeMatches e w.ty w.value then .typeMismatch
    else
      let r := rangeNow p d e (itemKey w)
      if valueOk { e with lo := r.1, hi := r.2 } (itemVal e w) then .ok else .outOfRange

/-- The state as a list of items that pass steps 1 to 8 would leave it. -/
def outcomeOf (d : Dev) (items : List WItem) : Dev :=
  items.foldl (fun x w => match findEntry w.idx w.sub with | some e => storeVal x e (itemKey w) (itemVal e w) | none => x) d

/-- Steps 1 to 8 of R610 for an item of a request whose outcome is `outcome`. -/
def fullCheck (p : Perm) (level : Nat) (d outcome : Dev) (w : WItem) : Status :=
  match itemCheck p level d w with
  | .ok => match findEntry w.idx w.sub with | some e => ownCheck p d outcome (itemKey w) (itemVal e w) | none => .noEntry
  | st => st

/-! ## What a written value does -/

/-- Inputs newly enabled in TAMPER_EN that stand at their active level are asserted (R345). -/
def tamperEnabled (before d : Dev) : Dev :=
  (upTo 2).foldl (fun x i =>
    if (numN d 0x500011).testBit i && !(numN before 0x500011).testBit i && x.can.asserted.testBit i then
      tamper i true false { x with can := { x.can with asserted := clearBit x.can.asserted i } }
    else x) d

/-- BATT_SOC written: its age begins again, or it is stale (R427). -/
def battWritten (d : Dev) : Dev :=
  let d1 : Dev := { d with gov := { d.gov with battAt := some d.clk.up } }
  if numN d 0x110018 = 255 then becomeStale d1 else { d1 with gov := { d1.gov with battStale := false } }

/-- A PTP setting written whose old value stays in force until the next Announce or Sync interval (R88). -/
def keepPtp (before : Dev) (key : Nat) (d : Dev) : Dev :=
  if (dictGet key d.ptp.kept).isSome then d else { d with ptp := { d.ptp with kept := dictPut key (setting before key) d.ptp.kept } }

/-- Writing the W_PUBKEY of a linked device closes its link (R369, R398); log 37 for REASON. -/
def closeLink (d : Dev) (w : Nat) : Dev :=
  if d.hier.links.any (fun l => l.peer = w && l.up) then raise (dropLink (emit d (.hl w (.close 0))) w) 114 (w * 256) else dropLink d w

/-- Settings of slot activity: front ends, masks, lanes, neighbours and the security levels (R57). -/
def slotKey (key : Nat) : Bool :=
  (0x200000 ≤ key && key < 0x300000) || key / 256 = 0x3100 || (0x510001 ≤ key && key ≤ 0x510004)

/-- A setting written whose old value stays in force: until the next preparation while slots are prepared (R57), or the next DIO (R298). -/
def keepOld (before : Dev) (key : Nat) (d : Dev) : Dev :=
  if slotKey key && preparesSlots d && (dictGet key d.sched.kept).isNone then
    { d with sched := { d.sched with kept := d.sched.kept ++ [(key, setting before key)] } }
  else if (key / 256 = 0x4410 || atSub key 0x4420 16 (key % 256)) && (dictGet key d.fwd.rplKept).isNone then
    { d with fwd := { d.fwd with rplKept := d.fwd.rplKept ++ [(key, setting before key)] } }
  else d

/-- What the value of `key`, now in force, does at once (R57); `nacks` of the attempts at a write on the two-wire link fail. -/
def writeEffect (nacks : Nat) (before : Dev) (key : Nat) (d : Dev) : Dev :=
  if key = 0x110018 then battWritten d
  else if key = 0x100003 then (if preparesSlots d then d else followGovernor d)
  else if key = 0x180003 then (if numN d key = 0 then setSync d .free else d)
  else if key = 0x180007 then limitSlew d
  else if key / 256 = 0x1820 then keepPtp before key d
  else if key = 0x183001 then
    (if flag d key && !(flag before key) then keepPps before { d with pps := { d.pps with since := d.clk.up, lastEdge := none, missing := 0 } }
     else keepPps before d)
  else if key / 256 = 0x1830 then keepPps before d
  else if key = 0x500011 then tamperEnabled before d
  else if key = 0x500014 then storeKey d 4 0 0 0 false
  else if atSub key 0x7021 159 2 then
    closeLink d (key / 256 - 0x7020)
  else if key = 0x903802 then voltageWrite nacks d
  else if atSub key 0x9040 24 1 || atSub key 0x9040 24 3 then drivePin d (key / 256 - 0x9040)
  else if key = 0x902002 then (if flag d key then d else flushMuart d)
  else keepOld before key d

/-- Sessions of a credential that is no longer enabled end, after the response to the write (R42). -/
def closeDisabled (d : Dev) : Dev :=
  (d.qdl.sessions.filter (fun x => x.auth && !flag d ((0x0210 + x.cred) * 256 + 3))).foldl (fun y x => endSession y x.id) d

/-- What a written value does after the response: sessions of disabled credentials end (R42), a port retrains (R563), a BAUD takes
effect in 10 ms (R568). -/
def afterWrite (keys : List Nat) (d : Dev) : Dev :=
  let d1 := if keys.any (fun k => atSub k 0x0210 16 3) then closeDisabled d else d
  let d2 := (upTo 2).foldl (fun x p => if keys.any (fun k => atSub k 0x9010 2 1 && k / 256 = 0x9010 + p || atSub k 0x9010 2 2 && k / 256 = 0x9010 + p) then retrain x p else x) d1
  if keys.contains 0x902001 then { d2 with ifs := { d2.ifs with baudDue := some (numN d2 0x902001, d2.clk.up + ms 10) } } else d2

/-! ## The request (R47, R48) -/

/-- Octets of the RP items of a list, their number, and the pages they lie on. -/
def rpItems (items : List WItem) : List WItem :=
  items.filter (fun w => match findEntry w.idx w.sub with | some e => e.acc = .rp | none => false)

/-- The commit of the RP items of a request, as one (R48, R492); nothing is committed where there is none. -/
def commitItems (d : Dev) (items : List WItem) : Dev × Status :=
  let l := rpItems items
  if l.isEmpty then (d, .ok)
  else commitNv d l.length (sumNat (l.map (fun w => w.value.length))) ((l.map (fun w => settingPage (itemKey w))).eraseDups)

/-- Items that passed every check put in force together, with what they do at once. -/
def applyItems (nacks : Nat) (d : Dev) (items : List WItem) : Dev × Status :=
  let c := commitItems d items
  if c.2 ≠ .ok then c
  else
    let d1 := outcomeOf c.1 items
    (items.foldl (fun x w => writeEffect nacks c.1 (itemKey w) x) d1, .ok)

/-- One item of a WRITE that is not ATOMIC, checked and applied (R47, R610). -/
def writeOne (p : Perm) (level nacks : Nat) (d : Dev) (w : WItem) : Dev × Status :=
  match fullCheck p level d (outcomeOf d [w]) w with
  | .ok => applyItems nacks d [w]
  | st => (d, st)

/-- The items of a WRITE one by one, in order: the device, and each item's key and status. -/
def writeEach (p : Perm) (level nacks : Nat) : List WItem → Dev → Dev × List (Nat × Status)
  | [], d => (d, [])
  | w :: t, d =>
    let r := writeOne p level nacks d w
    let r2 := writeEach p level nacks t r.1
    (r2.1, (itemKey w, r.2) :: r2.2)

/-- The first status that is not OK. -/
def firstFail (l : List Status) : Status := (l.find? (fun s => s ≠ .ok)).getD .ok

/-- The statuses of the items of an ATOMIC WRITE (R47 step 1, R610): each is checked in full, against the outcome of the items that pass by
themselves (log 121). -/
def atomicChecks (p : Perm) (level : Nat) (d : Dev) (items : List WItem) : List Status :=
  items.map (fullCheck p level d (outcomeOf d (items.filter (fun w => itemCheck p level d w = .ok))))

/-- A WRITE request at a privilege level (R45, R47, R48). -/
def runWrite (p : Perm) (nacks : Nat) (level : Nat) (atomic : Bool) (items : List WItem) (d : Dev) : Served :=
  if items.isEmpty || 64 < items.length then { d := d, status := .malformed, body := .empty }
  else if !atomic then
    let r := writeEach p level nacks items d
    { d := r.1, status := .ok, body := .write r.2, after := afterWrite ((r.2.filter (fun x => x.2 = .ok)).map Prod.fst) }
  else
    let l := atomicChecks p level d items
    if firstFail l ≠ .ok then { d := d, status := firstFail l, body := .write ((items.map itemKey).zip l) }
    else
      let r := applyItems nacks d items
      { d := r.1, status := r.2, body := .write (items.map (fun w => (itemKey w, r.2)))
        after := if r.2 = .ok then afterWrite (items.map itemKey) else id }

/-- A WRITE request of a session. -/
def serveWrite (p : Perm) (nacks : Nat) (r : Req) (atomic : Bool) (items : List WItem) (d : Dev) : Dev :=
  serve (.write atomic items) r (fun x d1 => runWrite p nacks x.level atomic items d1) d

/-- A WRITE of one value to the entry at `key`, in the entry's own type (R29, R45). -/
def writeItem (key : Nat) (value : List Byte) : WItem :=
  ⟨key / 256, key % 256, (match entryOf key with | some e => e.ty.code | none => 0), value⟩

/-- A WRITE request of one item. -/
def serveWrite1 (p : Perm) (r : Req) (key : Nat) (value : List Byte) (d : Dev) : Dev :=
  serveWrite p 0 r false [writeItem key value] d

/-- ENTRY_WRITE (R30, R47). -/
def execEntryWrite (r : Req) (atomic : Bool) (items : List WItem) (s : State) : Host.Outcome State Fault Refusal :=
  onDevSettled s (serveWrite s.perm 0 r atomic items)

/-- CRED_ENABLE_WRITE (R65): written as any entry; R65 and R42 are its own checks and effects. -/
def execCredEnableWrite (r : Req) (cred : Fin 16) (enable : Bool) (s : State) : Host.Outcome State Fault Refusal :=
  onDevSettled s (serveWrite1 s.perm r ((0x0210 + cred.val) * 256 + 3) [BitVec.ofNat 8 (boolNum enable)])

/-- TB_SOURCE_WRITE (R75). -/
def execTbSourceWrite (r : Req) (value : Byte) (s : State) : Host.Outcome State Fault Refusal :=
  onDevSettled s (serveWrite1 s.perm r 0x180003 [value])

/-- SF_SUSPEND_WRITE (R193). -/
def execSfSuspendWrite (r : Req) (h : Fin 64) (suspend : Byte) (s : State) : Host.Outcome State Fault Refusal :=
  onDevSettled s (serveWrite1 s.perm r ((0x3040 + h.val) * 256 + 4) [suspend])

/-- DUTY_MODE_WRITE (R452). -/
def execDutyModeWrite (r : Req) (value : Byte) (s : State) : Host.Outcome State Fault Refusal :=
  onDevSettled s (serveWrite1 s.perm r 0x100003 [value])

/-- W_PUBKEY_WRITE (R398); index 0 is that of a record that does not exist (NO_ENTRY). -/
def execWPubkeyWrite (r : Req) (w : Fin 160) (key : List Byte) (s : State) : Host.Outcome State Fault Refusal :=
  onDevSettled s (serveWrite s.perm 0 r false [⟨0x7020 + w.val, 2, 0x11, key⟩])

/-- PERIOD_WRITE (R529): the timer follows at the next tick of its source. -/
def execPeriodWrite (r : Req) (n : Fin 24) (period : BitVec 64) (s : State) : Host.Outcome State Fault Refusal :=
  onDevSettled s (serveWrite1 s.perm r (tmKey n.val 5) (toLe 8 period.toNat))

/-- PORT_MODE_WRITE (R563): PORT_MODE, or AUTONEG. -/
def execPortModeWrite (r : Req) (prt : Fin 2) (autoneg : Bool) (value : Byte) (s : State) : Host.Outcome State Fault Refusal :=
  onDevSettled s (serveWrite1 s.perm r ((0x9010 + prt.val) * 256 + (if autoneg then 2 else 1)) [value])

/-- BAUD_WRITE (R568). -/
def execBaudWrite (r : Req) (baud : BitVec 32) (s : State) : Host.Outcome State Fault Refusal :=
  onDevSettled s (serveWrite1 s.perm r 0x902001 (toLe 4 baud.toNat))

/-- VCORE_SET_WRITE (R576); `nacks` of the write's attempts are not acknowledged. -/
def execVcoreSetWrite (r : Req) (value : BitVec 16) (nacks : Fin 5) (s : State) : Host.Outcome State Fault Refusal :=
  onDevSettled s (serveWrite s.perm nacks.val r false [writeItem 0x903802 (toLe 2 value.toNat)])

/-- GPIO_OUT_WRITE (R577). -/
def execGpioOutWrite (r : Req) (n : Fin 24) (high : Byte) (s : State) : Host.Outcome State Fault Refusal :=
  onDevSettled s (serveWrite1 s.perm r ((0x9040 + n.val) * 256 + 3) [high])

end Sys2Proof.Machine
end

