-- ==== Sys2Proof/Machine/Qdl.lean ====
section
/-!
DEFINITION. QDL beside WRITE and EXEC: READ and its latches (R45, R46, R49), BULK (R55), subscriptions (R52-R54), and the opening and
closing of sessions (R39-R42).
-/
namespace Sys2Proof.Machine

/-! ## READ (R45, R46, R49) -/

/-- A LO sub-index: COUNT_LO and CAP_LO of a timer; its HI follows it (R49, R537). -/
def latchLo (key : Nat) : Bool := atSub key 0x1910 24 0x10 || atSub key 0x1910 24 0x12

/-- A HI sub-index (R49). -/
def latchHi (key : Nat) : Bool := atSub key 0x1910 24 0x11 || atSub key 0x1910 24 0x13

/-- The latches of a session, or those of relayed requests (R49). -/
def latches (d : Dev) (who : Option Nat) : List (Nat × Nat) :=
  match who with
  | some id => (match session d id with | some x => x.latches | none => [])
  | none => d.hier.relayLatches

/-- Those latches replaced. -/
def setLatches (d : Dev) (who : Option Nat) (l : List (Nat × Nat)) : Dev :=
  match who with
  | some id => updSession d id (fun x => { x with latches := l })
  | none => { d with hier := { d.hier with relayLatches := l } }

/-- A READ of CAP_LO clears CAP_NEW (R531). -/
def capRead (d : Dev) (key : Nat) : Dev :=
  if atSub key 0x1910 24 0x12 then updTimer d (key / 256 - 0x1910) (fun t => { t with capNew := false }) else d

/-- The value that a READ of an entry returns, and what the READ does to the latches (R49). -/
def readValue (p : Perm) (who : Option Nat) (d : Dev) (e : Entry) (key : Nat) : Dev × Val :=
  if latchLo key then
    let l := putKey Prod.fst (key + 1, valNat (readRegister p d (key + 1))) (latches d who)
    (capRead (setLatches d who l) key, readEntry p d e key)
  else if latchHi key then
    match findKey Prod.fst key (latches d who) with
    | some x => (setLatches d who (dropKey Prod.fst key (latches d who)), vN x.2)
    | none => (d, readEntry p d e key)
  else (d, readEntry p d e key)

/-- Steps 1 to 3 of R610 for a READ of a value. -/
def readCheck (d : Dev) (level idx sub : Nat) : Status :=
  match servedEntry d idx sub with
  | none => .noEntry
  | some e => if e.acc = .wo || e.acc = .cx then .accessDenied else if level < e.rl then .accessDenied else .ok

/-- Octets of the value that an item returns: META of a numeric type, or the value (R29, R33). -/
def itemSize (p : Perm) (d : Dev) (i : RItem) (e : Entry) : Nat :=
  if i.meta_ then 8 + (if e.ty.numeric then 3 * e.ty.size else 0)
  else match e.ty with | .str _ => (valOctets (readEntry p d e (i.idx * 256 + i.sub))).length | t => t.size

/-- TYPE of a response item: the entry's type code, that of a BLOB under META (R33, R45); 0 where there is no such entry (log 120). -/
def itemType (i : RItem) : Nat :=
  if i.meta_ then 0x11 else match findEntry i.idx i.sub with | some e => e.ty.code | none => 0

/-- An item of a READ where `room` octets of the body are left: none where the item does not fit; the device, the response item, and
its length (R33, R45). -/
def readItem (p : Perm) (who : Option Nat) (level room : Nat) (i : RItem) (d : Dev) : Option (Dev × (Nat × Nat × Status × Val) × Nat) :=
  let key := i.idx * 256 + i.sub
  let st : Status := if i.meta_ then (if (servedEntry d i.idx i.sub).isSome then .ok else .noEntry) else readCheck d level i.idx i.sub
  match findEntry i.idx i.sub with
  | some e =>
    if st ≠ .ok then (if room < 8 then none else some (d, (key, itemType i, st, .bytes []), 8))
    else if room < 8 + itemSize p d i e then none
    else if i.meta_ then some (d, (key, itemType i, .ok, .bytes (metaNow p d e key)), 8 + itemSize p d i e)
    else
      let v := readValue p who d e key
      some (v.1, (key, itemType i, .ok, v.2), 8 + itemSize p d i e)
  | none => if room < 8 then none else some (d, (key, 0, .noEntry, .bytes []), 8)

/-- The items in order, up to the first that does not fit (R45, R46). -/
def readItems (p : Perm) (who : Option Nat) (level : Nat) : List RItem → Nat → Dev → Dev × List (Nat × Nat × Status × Val)
  | [], _, d => (d, [])
  | i :: t, room, d =>
    match readItem p who level room i d with
    | none => (d, [])
    | some r =>
      let q := readItems p who level t (room - r.2.2) r.1
      (q.1, r.2.1 :: q.2)

/-- A READ request at a privilege level, for a body of at most `limit` octets (R45, R46). -/
def runRead (p : Perm) (who : Option Nat) (level limit : Nat) (snap : Bool) (items : List RItem) (d : Dev) : Served :=
  if items.isEmpty || 64 < items.length || (snap && !(allSame (items.map RItem.idx))) then { d := d, status := .malformed, body := .empty }
  else
    let r := readItems p who level items (limit - 2) d
    { d := r.1, status := .ok, body := .read r.2 }

/-- The body limit of a session (R35). -/
def bodyLimit (x : Session) : Nat := if x.auth then 1440 else 1456

/-- A READ request of a session. -/
def serveRead (p : Perm) (r : Req) (snap : Bool) (items : List RItem) (d : Dev) : Dev :=
  serve (.read snap items) r (fun x d1 => runRead p (some r.session) x.level (bodyLimit x) snap items d1) d

/-- LO_READ (R49): the items of one READ, which latch the upper bits of each LO sub-index they name. -/
def execLoRead (r : Req) (snap : Bool) (items : List RItem) (s : State) : Host.Outcome State Fault Refusal :=
  onDevSettled s (serveRead s.perm r snap items)

/-- HI_READ (R49): the items of one READ, which return and empty the latch of each HI sub-index they name. -/
def execHiRead (r : Req) (snap : Bool) (items : List RItem) (s : State) : Host.Outcome State Fault Refusal :=
  onDevSettled s (serveRead s.perm r snap items)

/-- CAP_LO_READ (R531): a capture that falls on the same cycle enters the register after the READ. -/
def execCapLoRead (r : Req) (n : Fin 24) (captured : Bool) (s : State) : Host.Outcome State Fault Refusal :=
  onDevSettled s (fun d =>
    let d1 := serveRead s.perm r false [⟨0x1910 + n.val, 0x12, false⟩] d
    if captured && timersOn d1 && numN d1 (tmKey n.val 8) ≠ 0 then capture d1 n.val else d1)

/-! ## BULK (R55) -/

/-- A BULK read at a privilege level, shortened to the end of the content and to the body limit (R55). -/
def runBulkRead (m : Memory) (level limit idx sub off n : Nat) (d : Dev) : Served :=
  let key := idx * 256 + sub
  match servedEntry d idx sub with
  | none => { d := d, status := .noEntry, body := .bulkRead off [] }
  | some e =>
    if e.acc = .wo || e.acc = .cx || !bulkReadable key || level < e.rl then { d := d, status := .accessDenied, body := .bulkRead off [] }
    else { d := d, status := .ok, body := .bulkRead off (bulkSlice m d key off (Nat.min n (limit - 6))) }

/-- Steps 1 to 8 of R610 for a BULK write. -/
def bulkCheck (d : Dev) (level idx sub off n : Nat) : Status :=
  let key := idx * 256 + sub
  match servedEntry d idx sub with
  | none => .noEntry
  | some e =>
    if e.acc = .ro || e.acc = .cx || !bulkWritable key || level < e.wl then .accessDenied
    else if !modeAllows d e then .wrongMode
    else if paramBusy d key then .busy
    else if e.ty.size < off + n then .outOfRange
    else .ok

/-- Octets staged at an offset of a BULK target, over what was staged there (R55). -/
def stageOctets (d : Dev) (key off : Nat) (data : List Byte) : Dev :=
  let old := (stagedOctets d key).filter (fun x => x.1 < off || off + data.length ≤ x.1)
  let new := data.zipIdx.map (fun x => (off + x.2, x.1))
  { d with qdl := { d.qdl with staged := d.qdl.staged.filter (fun x => x.1 ≠ key) ++ [(key, old ++ new)] } }

/-- A BULK write at a privilege level: it stages its data and commits nothing (R55). -/
def runBulkWrite (level idx sub off : Nat) (data : List Byte) (d : Dev) : Served :=
  match bulkCheck d level idx sub off data.length with
  | .ok => { d := stageOctets d (idx * 256 + sub) off data, status := .ok, body := .bulkWrite off data.length }
  | st => { d := d, status := st, body := .bulkWrite off 0 }

/-- BULK_WRITE (R55). -/
def execBulkWrite (r : Req) (idx sub off : Nat) (data : List Byte) (s : State) : Host.Outcome State Fault Refusal :=
  onDev s (serve (.bulkWrite idx sub off data) r (fun x d => runBulkWrite x.level idx sub off data d))

/-! ## Subscriptions (R52-R54) -/

/-- What an entry reads without a session's latches, and nothing happens by it. -/
def valueNow (p : Perm) (d : Dev) (key : Nat) : Option Val := (entryOf key).map (fun e => readEntry p d e key)

/-- Whether a session at a level may subscribe to an entry, or to event `idx` (R52); log 5 for events. -/
def subCheck (d : Dev) (level kind idx sub : Nat) : Status :=
  if kind = 0 then readCheck d level idx sub
  else if kind = 1 && idx < 128 then readCheck d level (0x8080 + idx) 3
  else .outOfRange

/-- A SUB_ID that the session does not use (R52). -/
def freeSubId (d : Dev) (x : Session) : Nat :=
  (firstFrom (fun k => x.subs.all (fun s => s.id ≠ k)) 256 (x.subs.length + 1) (Config.subId d.free)).getD 0

/-- A subscription added (R52): its value is that of the instant. -/
def addSub (p : Perm) (x : Session) (kind idx sub minMs : Nat) (d : Dev) : Served :=
  if 64 ≤ x.subs.length then { d := d, status := .busy, body := .sub 0 }
  else
    let n := freeSubId d x
    let y : Sub := if kind = 1 then { id := n, event := true, key := idx, minMs := minMs, lastAt := none, lastVal := none }
      else { id := n, event := false, key := idx * 256 + sub, minMs := minMs, lastAt := none, lastVal := valueNow p d (idx * 256 + sub) }
    { d := drawn (updSession (foldMissed d) x.id (fun z => { z with subs := z.subs ++ [y] })), status := .ok, body := .sub n }

/-- A SUBSCRIBE request of a session (R52). -/
def runSubscribe (p : Perm) (x : Session) (action kind idx sub minMs : Nat) (d : Dev) : Served :=
  match action with
  | 1 => (match subCheck d x.level kind idx sub with
    | .ok => addSub p x kind idx sub minMs d
    | st => { d := d, status := st, body := .sub 0 })
  | 2 =>
    if x.subs.any (fun s => s.id = sub) then
      { d := updSession (foldMissed d) x.id (fun z => { z with subs := z.subs.filter (fun s => s.id ≠ sub) }), status := .ok, body := .sub sub }
    else { d := d, status := .noEntry, body := .sub sub }
  | 3 => { d := updSession (foldMissed d) x.id (fun z => { z with subs := [] }), status := .ok, body := .sub 0 }
  | _ => { d := d, status := .outOfRange, body := .sub 0 }

/-- SUBSCRIBE (R52). -/
def execSubscribe (r : Req) (action kind idx sub minMs : Nat) (s : State) : Host.Outcome State Fault Refusal :=
  onDev s (serve (.subscribe action kind idx sub minMs) r (fun x d => runSubscribe s.perm x action kind idx sub minMs d))

/-- A NOTIFY of a changed entry, once MIN_INTERVAL and 10 ms have passed since the last (R53). It passes through P5: where P5 cannot take
it, it is counted against P5 and dropped, and the counter still advances (R54; log 84). -/
def notifyEntry (p : Perm) (id subId : Nat) (d : Dev) : Dev :=
  match session d id with
  | none => d
  | some x =>
    match x.subs.find? (fun s => s.id = subId && !s.event) with
    | none => d
    | some s =>
      if valueNow p d s.key = s.lastVal then d
      else
        let d1 := foldMissed (match s.lastAt with | some t => reach d (t + ms (Nat.max s.minMs 10)) | none => d)
        match valueNow p d1 s.key with
        | none => d1
        | some v =>
          let d2 := updSession (numbered d1 id) id (fun y => { y with
            subs := y.subs.map (fun z => if z.id = subId then { z with lastAt := some d1.clk.up, lastVal := some v } else z) })
          let n := match session d2 id with | some y => y.notifySeq | none => 0
          if (queue d2 (pq 5)).space (pq 5) then
            tell d2 id (.notifyEntry id n subId s.key (match entryOf s.key with | some e => e.ty.code | none => 0) v)
          else refuse d2 (pq 5)

/-- NOTIFY (R53). -/
def execNotify (session subId : Nat) (s : State) : Host.Outcome State Fault Refusal :=
  onDev s (fun d => if qdlServed d then notifyEntry s.perm session subId d else d)

/-! ## Opening a session (R39-R42) -/

/-- Failures of a credential. -/
def credFail (d : Dev) (c : Nat) : CredFail := (findKey CredFail.cred c d.qdl.credFails).getD ⟨c, [], none⟩

/-- The credential is refused now (R40). -/
def refused (d : Dev) (c : Nat) : Bool := (credFail d c).refusedAt.isSome

/-- A handshake fails: counted in AUTH_FAILURES (R64), and of a credential 0 to 15 that is not refused, AUTH_FAIL_LIMIT failures within 60 s
refuse it for 60 s (R40; log 71). -/
def authFails (d : Dev) (c : Nat) : Dev :=
  let d1 := count d 0x020006
  if 15 < c || refused d c then d1
  else
    let l := ((credFail d c).fails.filter (fun t => since d t < sec 60)) ++ [d.clk.up]
    let x : CredFail := if numN d 0x020007 ≤ l.length then ⟨c, [], some d.clk.up⟩ else ⟨c, l, none⟩
    { d1 with qdl := { d1.qdl with credFails := putKey CredFail.cred x d1.qdl.credFails } }

/-- The credential can open a session: enabled, its key set (R40). -/
def credUsable (d : Dev) (c : Nat) : Bool := c ≤ 15 && flag d ((0x0210 + c) * 256 + 3) && !allZero (octets d ((0x0210 + c) * 256 + 1))

/-- A session ID that no session and no handshake has, and not 0 (R35, R39; log 5). -/
def freeSession (d : Dev) : Nat :=
  (firstFrom (fun k => k ≠ 0 && d.qdl.sessions.all (fun x => x.id ≠ k) && d.qdl.handshakes.all (fun x => x.id ≠ k)) 4294967296
    (d.qdl.sessions.length + d.qdl.handshakes.length + 2) (Config.sessionId d.free)).getD 0

/-- No further session can open (R42): handshakes under way count. -/
def sessionsFull (d : Dev) : Bool := 8 ≤ d.qdl.sessions.length + d.qdl.handshakes.length

/-- A new session. -/
def newSession (d : Dev) (id level cred : Nat) (auth : Bool) (t : Transport) (k : SessKey) : Dev :=
  { d with qdl := { d.qdl with sessions := d.qdl.sessions ++ [
      { id := id, level := level, auth := auth, cred := cred, transport := t, key := k, lastReq := d.clk.up, kept := [], topSeq := none
        subs := [], latches := [], notifySeq := 0 }] } }

/-- The level of an unauthenticated session: L2 in M5 (R486), L0 where LOCAL_L0 allows one (R41). -/
def openLevel (d : Dev) (t : Transport) : Option Nat :=
  match t with
  | .udp _ _ _ _ => none
  | _ => if d.pwr.mode = .m5 then some 2 else if flag d 0x020004 then some 0 else none

/-- The handshake that a HELLO begins: DNONCE and the device's ephemeral key are drawn (R39). -/
def newHandshake (d : Dev) (t : Transport) (cred hnonce hpub : Nat) : Handshake :=
  { id := freeSession d, cred := cred, transport := t, at_ := d.clk.up, hnonce := hnonce, hpub := hpub
    dnonce := Config.nonce d.free, dpub := Config.ephemeral d.free }

/-- The signature of a key over the HELLO and the CHALLENGE of a handshake (R39): DSIG of the device's identity key, HSIG of the credential's
(with the CHALLENGE, DSIG is covered too). -/
def handSig (pub : Option (List Byte)) (h : Handshake) : HandSig := ⟨pub, h.cred, h.hnonce, h.hpub, h.id, h.dnonce, h.dpub⟩

/-- The session key of a handshake (R39). -/
def handKey (h : Handshake) : SessKey := ⟨h.hpub, h.dpub, h.hnonce, h.dnonce⟩

/-- A HELLO with its body whole (R39-R42). -/
def hello (t : Transport) (seq cred hnonce hpub : Nat) (d : Dev) : Dev :=
  let say (x : Dev) (id : Nat) (st : Status) (b : Body) : Dev := sendOn x t none false (.qdl id seq st b)
  if cred = 255 then
    match openLevel d t with
    | none => say (authFails d cred) 0 .noSession .empty
    | some l =>
      if sessionsFull d then say d 0 .busy .empty
      else
        let id := freeSession d
        say (newSession (drawn d) id l 255 false t ⟨0, 0, 0, 0⟩) id .ok (.challenge id none)
  else if refused d cred || !credUsable d cred then say (authFails d cred) 0 .noSession .empty
  else if sessionsFull d then say d 0 .busy .empty
  else
    let h := newHandshake d t cred hnonce hpub
    let d1 : Dev := { d with qdl := { d.qdl with handshakes := d.qdl.handshakes ++ [h] } }
    say (drawn d1) h.id .ok (.challenge h.id (some (h.dnonce, h.dpub, handSig none h)))

/-- A PDU of the handshake: discarded or MALFORMED as any PDU (R35); MALFORMED too with AUTH set, which is clear in all three (R39). -/
def handshakePdu (h : PduHead) (id seq : Nat) (f : Dev → Dev) (d : Dev) : Dev :=
  if !arrives d h then d
  else if !headGood h || h.tag.isSome then sendOn d h.via none false (.qdl id seq .malformed .empty)
  else f d

/-- HELLO (R39). -/
def execHello (h : PduHead) (seq cred hnonce hpub : Nat) (s : State) : Host.Outcome State Fault Refusal :=
  onDev s (handshakePdu h 0 seq (hello h.via seq cred hnonce hpub))

/-- A handshake ended. -/
def dropHandshake (d : Dev) (id : Nat) : Dev := { d with qdl := { d.qdl with handshakes := dropKey Handshake.id id d.qdl.handshakes } }

/-- The handshake of a PROOF, where it belongs to the PROOF's transport. -/
def handshakeOn (d : Dev) (t : Transport) (id : Nat) : Option Handshake :=
  match findKey Handshake.id id d.qdl.handshakes with | some h => if alike h.transport t then some h else none | none => none

/-- HSIG verifies: the credential key's signature over the HELLO and the CHALLENGE (R39). -/
def hsigOk (d : Dev) (h : Handshake) (sig : Option HandSig) : Bool :=
  sig = some (handSig (some (octets d ((0x0210 + h.cred) * 256 + 1))) h)

/-- A PROOF (R39, R40): the session opens at the level of its credential, or the handshake fails. A credential that is refused by then opens
none. -/
def proof (t : Transport) (id seq : Nat) (sig : Option HandSig) (d : Dev) : Dev :=
  match handshakeOn d t id with
  | none => sendOn d t none false (.qdl id seq .noSession .empty)
  | some h =>
    let d1 := dropHandshake d id
    if hsigOk d h sig && credUsable d h.cred && !refused d h.cred then
      let l := numN d ((0x0210 + h.cred) * 256 + 2)
      sendTo (newSession d1 id l h.cred true t (handKey h)) id t (.qdl id seq .ok (.level l))
    else sendOn (authFails d1 h.cred) t none false (.qdl id seq .noSession .empty)

/-- PROOF (R39). -/
def execProof (h : PduHead) (session seq : Nat) (hsig : Option HandSig) (s : State) : Host.Outcome State Fault Refusal :=
  onDev s (handshakePdu h session seq (proof h.via session seq hsig))

/-- No PROOF has come 5 s after the CHALLENGE (R40). -/
def proofTimeout (id : Nat) (d : Dev) : Dev :=
  match findKey Handshake.id id d.qdl.handshakes with
  | none => d
  | some h => authFails (dropHandshake (reach d (h.at_ + sec 5)) id) h.cred

/-- PROOF_TIMEOUT (R40): a PROOF that comes after it is answered NO_SESSION. -/
def execProofTimeout (session : Nat) (s : State) : Host.Outcome State Fault Refusal := onDev s (proofTimeout session)

/-- The refusal of a credential ends after 60 s (R40). -/
def refusalEnds (c : Nat) (d : Dev) : Dev :=
  match (credFail d c).refusedAt with
  | none => d
  | some t =>
    let d1 := reach d (t + sec 60)
    { d1 with qdl := { d1.qdl with credFails := dropKey CredFail.cred c d1.qdl.credFails } }

/-- CREDENTIAL_REFUSAL_END (R40). -/
def execCredentialRefusalEnd (cred : Fin 16) (s : State) : Host.Outcome State Fault Refusal := onDev s (refusalEnds cred.val)

/-! ## Closing sessions (R42) -/

/-- A CLOSE from the host (R42): checked as any PDU (R35, R37), answered, then the session ends. -/
def close (r : Req) (d : Dev) : Dev :=
  if !arrives d r.head then d
  else if !headGood r.head then sendOn d r.head.via none false (.qdl r.session r.seq .malformed .empty)
  else match sessionOn d r.head.via r.session with
    | none => sendOn d r.head.via none false (.qdl r.session r.seq .noSession .empty)
    | some x =>
      if !authFits x r then sendOn d r.head.via none false (.qdl r.session r.seq .noSession .empty)
      else if x.auth && !tagOk x r then count d 0x020006
      else endSession (sendTo d r.session r.head.via (.qdl r.session r.seq .ok .empty)) r.session

/-- CLOSE (R42). -/
def execClose (r : Req) (s : State) : Host.Outcome State Fault Refusal := onDev s (close r)

/-- A session has been idle for IDLE_TIMEOUT seconds (R42). -/
def idleTimeout (id : Nat) (d : Dev) : Dev :=
  match session d id with
  | none => d
  | some x => endSession (reach d (x.lastReq + sec (numN d 0x020002))) id

/-- SESSION_IDLE_TIMEOUT (R42). -/
def execSessionIdleTimeout (session : Nat) (s : State) : Host.Outcome State Fault Refusal := onDev s (idleTimeout session)

/-- Every session but the caller's ends (R64); a relayed caller has none of its own. -/
def closeOthers (keep : Option Nat) (d : Dev) : Dev :=
  (d.qdl.sessions.filter (fun x => some x.id ≠ keep)).foldl (fun y x => endSession y x.id) d

/-- The command CLOSE_ALL (R64). -/
def closeAllCore : Core := fun arg d => if !argLen arg 0 then answer d .malformed else answer d .ok

/-- CLOSE_ALL at a privilege level: the sessions end after the response (R64). -/
def runCloseAll (keep : Option Nat) (level : Nat) (arg : List Byte) (d : Dev) : Served :=
  let v := runExec level 0x020008 arg closeAllCore d
  { v with after := if v.status = .ok then closeOthers keep else id }

/-- CLOSE_ALL (R64). -/
def execCloseAll (r : Req) (arg : List Byte) (s : State) : Host.Outcome State Fault Refusal :=
  onDev s (serve (.exec 0x0200 8 arg) r (fun x d => runCloseAll (some r.session) x.level arg d))

end Sys2Proof.Machine
end

