-- ==== Sys2Proof/Machine/Relay.lean ====
section
/-!
DEFINITION. Relays (R59-R61, R394), and the manager's own assignment of a campaign to a worker (R418).
-/
namespace Sys2Proof.Machine

/-! ## The manager's side (R60) -/

/-- A request sent to a target under its next QSEQ, repeated until it is answered (R60, R369, R394). -/
def relaySend (d : Dev) (who : Option Nat) (via : Transport) (seq w origin : Nat) (i : Inner) : Dev :=
  let q := (wRec d w).qseq + 1
  let m : HlMsg := .relayReq q origin i
  let d1 := updW d w (fun x => { x with qseq := q })
  let d2 : Dev := { d1 with qdl := { d1.qdl with relays := d1.qdl.relays ++ [⟨who, seq, w, q, d.clk.up, via⟩] } }
  if linkUp d2 w then hlSend d2 w m else { d2 with hier := { d2.hier with requests := d2.hier.requests ++ [⟨w, m, d.clk.up⟩] } }

/-- A target that is not provisioned, declared dead or fenced is not reachable (R60). -/
def reachable (d : Dev) (w : Nat) : Bool := wProvisioned d w && !(wRec d w).dead && (wRec d w).hstate ≠ 4

/-- An inner request that a RELAY may not carry (R60). -/
def innerBad : Inner → Bool
  | .relay _ _ => true
  | .other _ => true
  | _ => false

/-- A RELAY request of a session (R60): answered now, or forwarded and answered later. -/
def runRelay (p : Perm) (who seq : Nat) (via : Transport) (level target : Nat) (i : Inner) (d : Dev) : Served :=
  if innerBad i then { d := d, status := .malformed, body := .empty }
  else if !p.manager then { d := d, status := .wrongMode, body := .empty }
  else if !reachable d target then { d := d, status := .unreachable, body := .empty }
  else { d := relaySend d (some who) via seq target level i, status := .ok, body := .empty, reply := false }

/-- RELAY (R60). -/
def execRelay (r : Req) (target : Nat) (inner : Inner) (s : State) : Host.Outcome State Fault Refusal :=
  onDev s (serve (.relay target inner) r (fun x d => runRelay s.perm r.session r.seq r.head.via x.level target inner d))

/-- The request awaited from a target under a QSEQ, and the device without it. -/
def relayOf (d : Dev) (w q : Nat) : Option RelayWait := d.qdl.relays.find? (fun x => x.target = w && x.qseq = q)
def dropRelay (d : Dev) (w q : Nat) : Dev :=
  { d with
    qdl := { d.qdl with relays := d.qdl.relays.filter (fun x => !(x.target = w && x.qseq = q)) }
    hier := { d.hier with requests := d.hier.requests.filter (fun r => !(r.peer = w && reqId r.msg = some (0x60, q))) } }

/-! ## CAMPAIGN_ASSIGN (R418) -/

/-- The assignment ends: event 105 with the worker's C_STATE, or 0xFF (R418). -/
def assignEnds (d : Dev) (c v : Nat) : Dev :=
  raise (finish { d with bunting := { d.bunting with assign := none } } 0x61000F) 105 (c * 256 + v)

/-- A request of the assignment, with ORIGIN 3 (R394, R418). -/
def assignSend (d : Dev) (a : AssignRun) (i : Inner) : Dev :=
  if !reachable d a.worker then assignEnds d a.camp 255
  else
    let d1 := relaySend d none .muart 0 a.worker 3 i
    { d1 with bunting := { d1.bunting with assign := some { a with qseq := (wRec d1 a.worker).qseq } } }

/-- COUNT and LAST_DATA of event 104 (R558). -/
def readsOf (l : List (Nat × Nat)) : Inner := .read false (l.map (fun x => ⟨x.1, x.2, false⟩))

/-- A WRITE item of the manager's own value of an entry (R418). -/
def ownItem (d : Dev) (key : Nat) : WItem :=
  ⟨key / 256, key % 256, (match entryOf key with | some e => e.ty.code | none => 0),
    (match entryOf key with | some e => encodeVal e.ty (setting d key) | none => [])⟩

/-- The target list is the manager's own TARGET_STAGE (R418). -/
def stagesTargets (d : Dev) (c : Nat) : Bool := numN d (campKey c 4) = 1 && 0 < stagedEnd d 0x61000C

/-- The request of a step (R418). -/
def assignRequest (m : Memory) (d : Dev) (a : AssignRun) : Inner :=
  match a.step, imageAt d a.slot with
  | .count, _ => readsOf [(0x80E8, 3)]
  | .stage, some i => .bulkWrite 0x6100 3 a.off (memRead m (slotBase d a.slot + a.off) (Nat.min 1400 (i.size - a.off)))
  | .commit, some i =>
    .exec 0x6100 4 (toLe 2 a.slot ++ toLe 2 i.kind ++ toLe 4 i.version ++ toLe 4 i.size ++ toLe 32 i.digest)
  | .poll, _ => readsOf [(0x80E8, 3), (0x80E8, 5)]
  | .targets, _ => .bulkWrite 0x6100 0x0C a.off (slice (stagedString d 0x61000C (stagedEnd d 0x61000C)) a.off 1400)
  | .params, _ => .write false ((upTo 11).map (fun k => ownItem d (campKey a.camp (k + 2))))
  | .start, _ => .exec (0x6110 + a.camp) 0x0D []
  | .result, _ => readsOf [(0x6110 + a.camp, 1)]
  | _, none => .read false []

/-- A step begun; one that needs an image that is no longer held ends the command. -/
def assignStep (m : Memory) (d : Dev) (a : AssignRun) : Dev :=
  if (a.step = .stage || a.step = .commit) && (imageAt d a.slot).isNone then assignEnds d a.camp 255 else assignSend d a (assignRequest m d a)

/-- Numbers that a READ response carries, none where an item failed. -/
def readNums : Body → Option (List Nat)
  | .read l => if l.all (fun x => x.2.2.1 = .ok) then some (l.map (fun x => valNat x.2.2.2)) else none
  | _ => none

/-- What follows a response to the assignment's request (R418): the next step, the end, or none where it failed. -/
inductive AssignNext where
  | step (a : AssignRun)
  | done (state : Nat)
  | fail
  deriving DecidableEq, Repr

/-- The step after an answer with header STATUS OK (R418). -/
def assignNext (d : Dev) (a : AssignRun) (body : Body) : AssignNext :=
  let size := match imageAt d a.slot with | some i => i.size | none => 0
  let staged : AssignNext := .step { a with step := if stagesTargets d a.camp then .targets else .params, off := 0 }
  match a.step with
  | .count => (match readNums body with | some [n] => .step { a with step := .stage, off := 0, noted := n } | _ => .fail)
  | .stage => .step (if size ≤ a.off + 1400 then { a with step := .commit } else { a with off := a.off + 1400 })
  | .commit => .step { a with step := .poll }
  | .poll => (match readNums body with
    | some [n, data] => if n = a.noted then .step a else if data = a.slot * 256 then staged else .fail
    | _ => .fail)
  | .targets => .step (if stagedEnd d 0x61000C ≤ a.off + 1400 then { a with step := .params } else { a with off := a.off + 1400 })
  | .params => (match body with | .write l => if l.all (fun x => x.2 = .ok) then .step { a with step := .start } else .fail | _ => .fail)
  | .start => .step { a with step := .result }
  | .result => (match readNums body with | some [v] => .done v | _ => .fail)

/-- A response to the assignment's request (R418): it ends at the first failure. -/
def assignAnswered (m : Memory) (st : Status) (body : Body) (d : Dev) : Dev :=
  match d.bunting.assign with
  | none => d
  | some a =>
    if st ≠ .ok then assignEnds d a.camp 255
    else match assignNext d a body with
      | .step b => assignStep m d b
      | .done v => assignEnds d a.camp v
      | .fail => assignEnds d a.camp 255

/-- The command CAMPAIGN_ASSIGN: WORKER, CAMPAIGN, SLOT (R418). -/
def campaignAssignCore (p : Perm) : Core := fun arg d =>
  if !p.manager then answer d .wrongMode
  else if !argLen arg 4 then answer d .malformed
  else
    let w := leAt arg 0 1
    let c := leAt arg 1 1
    let slot := leAt arg 2 2
    if w = 0 || 159 < w || 7 < c || repoSlots d ≤ slot then answer d .outOfRange
    else if (match imageAt d slot with | some i => decide (i.st ≠ 1) | none => true) then answer d .wrongMode
    else answer (assignSend (accept d 0x61000F) { worker := w, camp := c, slot := slot, step := .count, off := 0, noted := 0, qseq := 0 }
      (readsOf [(0x80E8, 3)])) .ok

/-- CAMPAIGN_ASSIGN (R418). -/
def execCampaignAssign (r : Req) (arg : List Byte) (s : State) : Host.Outcome State Fault Refusal :=
  onDev s (serveExec r 0x61000F arg (campaignAssignCore s.perm))

/-! ## The answers (R60) -/

/-- A RELAY_RSP of a worker (R60): returned to the host, or the assignment goes on. -/
def onRelayRsp (m : Memory) (w q : Nat) (st : Status) (body : Body) (d : Dev) : Dev :=
  match relayOf d w q with
  | none => d
  | some x =>
    let d1 := dropRelay d w q
    match x.session with
    | some id => respond d1 id x.seq x.via .ok (.relay w st body)
    | none => assignAnswered m st body d1

/-- RELAY_RSP (R60). -/
def execRelayRsp (h : HlHead) (qseq : Nat) (status : Status) (body : Body) (s : State) : Host.Outcome State Fault Refusal :=
  onDev s (receiveHl h (.relayRsp qseq status body) (fun w d => if s.perm.manager then onRelayRsp s.mem w qseq status body d else d))

/-- No response has come within RELAY_TIMEOUT of the first sending (R60, R394): UNREACHABLE. -/
def relayTimeout (w q : Nat) (d : Dev) : Dev :=
  match relayOf d w q with
  | none => d
  | some x =>
    let d1 := dropRelay (reach d (x.at_ + ms (numN d 0x020009))) w q
    match x.session with
    | some id => respond d1 id x.seq x.via .unreachable .empty
    | none => match d1.bunting.assign with | some a => assignEnds d1 a.camp 255 | none => d1

/-- RELAY_TIMEOUT (R60). -/
def execRelayTimeout (target qseq : Nat) (s : State) : Host.Outcome State Fault Refusal := onDev s (relayTimeout target qseq)

end Sys2Proof.Machine
end

