-- ==== Sys2Proof/Machine/Scrub.lean ====
section
/-!
DEFINITION. Faults of the units that recover, the scrub of the central store, and what an uncorrectable word does in each region (R244-R248, R265, R281).
-/
namespace Sys2Proof.Machine

/-! ## Faults of four units (R548, R549) -/

/-- The packet in a unit's hand is abandoned as its producer would treat a refused push (R15, R548): the runtime pushes a packet of Q37
again, the sequencer gives up a frame of Q33, and the others discard it. -/
def abandon (d : Dev) (q : Nat) : Dev :=
  match (queue d q).taken with
  | none => d
  | some p =>
    let d1 := updQueue d q (fun x => { x with taken := none })
    if q = 37 then { d1 with fwd := { d1.fwd with owed := p :: d1.fwd.owed } }
    else if q = 33 then securedDownlink d1 p
    else dropBuf d1 p.buf

/-- Whether a unit has an item in hand. -/
def inHand (d : Dev) (u : RecoverUnit) : Bool := (unitInputs u).any (fun q => (queue d q).taken.isSome)

/-- A unit's own fault: a new episode, or a nested fault of the open one; an episode holds at most three (R548, R549). -/
def unitFault (u : RecoverUnit) (state : Bool) (check : Nat) (d : Dev) : Dev :=
  let c := unitCode u
  let code := if state then 0x41 else 0x40
  let n := match episode d c with | none => 0 | some e => e.2.1
  if d.err.quarantined.testBit c || 3 ≤ n then d
  else
    let sev := if inHand d u then 2 else 1
    let d1 := (unitInputs u).foldl abandon d
    let d2 := count d1 (if n = 0 then 0x810008 else 0x810009)
    errBy { d2 with err := { d2.err with episodes := putKey Prod.fst (c, n + 1, code) d2.err.episodes } } sev c 0 code none none check 0 (n + 1)

/-- UNIT_FAULT (R548, R549). -/
def execUnitFault (u : RecoverUnit) (state : Bool) (check : Nat) (s : State) : Host.Outcome State Fault Refusal :=
  .next { s with d := unitFault u state check s.d }

/-! ## Uncorrectable words by region (R245) -/

/-- A bucket of the table, or a pair of short index words, cleared (R281): event 77. -/
def tableLoss (a : Nat) (d : Dev) : Dev :=
  let clear (ovf : Bool) (b : Nat) : Dev :=
    let l := (d.fwd.entries.filter (fun e => e.ovf = ovf && e.loc / 4 = b)).map NtEntry.eui
    let d1 := l.foldl dropEntry d
    { d1 with fwd := { d1.fwd with lost := d1.fwd.lost ++ [(ovf, b)] } }
  if a < 0x02000000 then raise (clear false (a / 128)) 77 (a / 128)
  else if a < 0x02200000 then raise (clear true ((a - 0x02000000) / 128)) 77 (a / 128)
  else if a < 0x02240000 then
    let w := (a - 0x02200000) / 8 * 2
    raise { d with fwd := { d.fwd with
      sidx := d.fwd.sidx.filter (fun x => x.1 ≠ w && x.1 ≠ w + 1), lostShort := d.fwd.lostShort ++ [w, w + 1] } } 77 (a / 128)
  else d

/-- The node of a damaged record is removed (R245, R282). -/
def recordLoss (a : Nat) (d : Dev) : Dev :=
  match d.nbr.nodes.find? (fun n => n.index = (a - 0x04000000) / 512) with
  | some n => removeNode d n.eui
  | none => d

/-- The cell of a damaged record is no longer prepared, and is reported to the manager (R245, R371). -/
def cellLoss (a : Nat) (d : Dev) : Dev :=
  match d.sched.ver.cells[Config.scheduleCell a]? with
  | none => d
  | some c =>
    let x := (c.handle, c.slotOffset, c.loc)
    if d.sched.badCells.contains x then d
    else report { d with sched := { d.sched with badCells := d.sched.badCells ++ [x] } } 3 (bandNum (d.sched.ver.bandOf c))
      (c.handle + 256 * c.loc + 65536 * c.slotOffset) 0

/-- A wrapped record is unusable (R245, R331). -/
def wrappedLoss (a : Nat) (d : Dev) : Dev :=
  { d with nbr := { d.nbr with nodes := d.nbr.nodes.map (fun n =>
    if n.index = (a - 0x34000000) / 64 then { n with wrapped := n.wrapped.map (fun w => { w with good := false }) } else n) } }

/-- A granule is poisoned: one in use is retired at its last reference, a free one at once (R242, R244, R247). -/
def granuleLoss (a : Nat) (d : Dev) : Dev :=
  let g := (a - 0x78000000) / 2048
  if (granule d g).isSome then updGranule d g (fun y => { y with poison := true })
  else if d.store.retired.any (fun x => x.1 = g) then d
  else retire d g

/-- What an uncorrectable word does, by its region (R236, R245); in the runtime working space it is a runtime fault. -/
def wordLost (a : Nat) (d : Dev) : Dev :=
  if a < 0x04000000 then tableLoss a d
  else if a < 0x24000000 then recordLoss a d
  else if a < 0x34000000 then cellLoss a d
  else if a < 0x38000000 then wrappedLoss a d
  else if a < 0x78000000 then runtimeFault .workingSpace 11 d
  else if a < repoBase d then granuleLoss a d
  else match slotOf d a with | some s => damageImage d s | none => d

/-- A double-bit error (R244): the burst marked poisoned, the count, event 57, the error record, and the region's consequence. -/
def doubleError (d : Dev) (a : Nat) : Dev :=
  let b := a / 64
  let d1 := raise (count d 0x40000C) 57 b
  let d2 : Dev := { d1 with store := { d1.store with poisoned := if d1.store.poisoned.contains b then d1.store.poisoned else d1.store.poisoned ++ [b] } }
  wordLost a (errBy d2 2 11 0 0x10 none (some a) (regionOf d2 a) 0 1)

/-! ## The pass (R247, R248) -/

/-- The retired granules of an interval are tested; those of `failed` stay retired until the next reset (R247). -/
def testRetired (d : Dev) (lo hi : Nat) (failed : List Nat) : Dev :=
  let here := d.store.retired.filter (fun x => !x.2 && lo ≤ granuleAddr x.1 && granuleAddr x.1 < hi)
  here.foldl (fun y x =>
    if failed.contains x.1 then
      { y with store := { y.store with retired := y.store.retired.map (fun z => if z.1 = x.1 then (x.1, true) else z) } }
    else
      raise (cleanBursts { y with store := { y.store with retired := y.store.retired.filter (fun z => z.1 ≠ x.1) } } (granuleAddr x.1) 2048) 59 x.1) d

/-- A pass completed: event 65, and SCRUB_NOW with it (R248, R265). -/
def passDone (d : Dev) : Dev :=
  let t := since d d.store.passStart / 64000000000
  let d1 : Dev := { d with store := { d.store with
    scrubPos := 0, passes := satAdd d.store.passes 1, lastPass := t, behind := false, scrubNow := false, passStart := d.clk.up } }
  finish (raise d1 65 t) 0x402005

/-- The scrub may run now (R248, R437): SCRUB_NOW in M10 or as task 6, a late pass as task 5, any pass as task 1. -/
def scrubRuns (d : Dev) : Bool :=
  qdlServed d && domainOn d 5
    && ((d.store.scrubNow && (d.pwr.mode = .m10 || taskRuns d 6)) || (d.store.behind && taskRuns d 5) || taskRuns d 1)

/-- The scrub reads the next `n` bursts; `single` and `double` are the store addresses of the words in error (R244, R248). An error in
the working space comes last, as it ends the run. -/
def scrub (n : Nat) (single double failed : List Nat) (d : Dev) : Dev :=
  let lo := d.store.scrubPos
  let hi := Nat.min (lo + 64 * n) 4294967296
  let inRange (a : Nat) : Bool := lo ≤ a && a < hi
  let ones := (single.filter inRange).length
  let d1 := if ones = 0 then d else raiseRate (countBy d 0x40000B ones) 56 0 ones (sec 1) id
  let d2 := testRetired d1 lo hi failed
  let d3 : Dev := { d2 with store := { d2.store with scrubPos := hi } }
  let bad := double.filter inRange
  let core (a : Nat) : Bool := 0x38000000 ≤ a && a < 0x78000000
  let d4 := (bad.filter (fun a => !core a)).foldl doubleError d3
  let d5 := if hi = 4294967296 then passDone d4 else d4
  match bad.find? core with
  | some a => doubleError d5 a
  | none => d5

/-- SCRUB_BURST (R248). -/
def execScrubBurst (bursts : Nat) (single double failed : List Nat) (s : State) : Host.Outcome State Fault Refusal :=
  onDevSettled s (fun d => if scrubRuns d then scrub bursts single double failed d else d)

/-- A pass unfinished at the end of SCRUB_PERIOD (R248): event 66 with the MiB left, begun ones counting whole (log 36). -/
def scrubBehind (d : Dev) : Dev :=
  if d.store.behind || d.store.scrubNow then d
  else
    let d1 := reach d (d.store.passStart + sec (numN d 0x402001))
    raise { d1 with store := { d1.store with behind := true } } 66 (ceilDiv (4294967296 - d1.store.scrubPos) 1048576)

/-- SCRUB_BEHIND (R248). -/
def execScrubBehind (s : State) : Host.Outcome State Fault Refusal := onDev s (fun d => if qdlServed d && domainOn d 5 then scrubBehind d else d)

/-- The command SCRUB_NOW (R265). -/
def scrubNowCore : Core := fun arg d =>
  if !argLen arg 0 then answer d .malformed
  else answer (accept { d with store := { d.store with scrubNow := true, scrubPos := 0, passStart := d.clk.up } } 0x402005) .ok

/-- SCRUB_NOW (R265). -/
def execScrubNow (r : Req) (arg : List Byte) (s : State) : Host.Outcome State Fault Refusal := onDev s (serveExec r 0x402005 arg scrubNowCore)

end Sys2Proof.Machine
end

