-- ==== Sys2Proof/Machine/Update.lean ====
section
/-!
DEFINITION. Device firmware update (R503-R523): the staged image written into a slot, the Hoist and its activation, confirmation and
revert.
-/
namespace Sys2Proof.Machine

/-! ## The image file (R503, R504) -/

/-- Octets of an interval that are all zero: reserved fields. -/
def zeroAt (l : List Byte) (o n : Nat) : Bool := allZero (slice l o n)

/-- CRC-32C as the headers carry it. -/
def crcOf (l : List Byte) : Nat := crc32c 0xFFFFFFFF l

/-- The header's fields as the boot record holds them (R503, R523). -/
def headerSlot (h : List Byte) (st : Nat) : FwSlot :=
  { st := st, version := leAt h 8 4, dict := leAt h 12 2, minSet := leAt h 14 2, sec := leAt h 16 2, len := leAt h 20 4
    silicon := leAt h 24 1, digest := leAt h 32 32, keyGen := leAt h 200 4 }

/-- BLOCKS of the header. -/
def headerBlocks (h : List Byte) : Nat := leAt h 18 2

/-- The first check of R509: the staged length, MAGIC, FORMAT, BLOCKS, IMAGE_LEN, the reserved fields and HDR_CRC. -/
def formatOk (h : List Byte) (staged : Nat) : Bool :=
  staged = 256 + 4128 * headerBlocks h && beNat (slice h 0 4) = 0x4E515846 && leAt h 4 1 = 1
    && 1 ≤ leAt h 20 4 && leAt h 20 4 ≤ 25165824 && headerBlocks h = ceilDiv (leAt h 20 4) 4096
    && zeroAt h 5 3 && zeroAt h 25 7 && zeroAt h 64 64 && zeroAt h 204 4 && zeroAt h 216 36 && leAt h 252 4 = crcOf (slice h 0 252)

/-- The CRC of every block record as staged (R504). -/
def blocksOk (l : List Byte) (n : Nat) : Bool :=
  (upTo n).all (fun b => leAt l (256 + 4128 * b + 4112) 4 = crcOf (slice l (256 + 4128 * b) 4112))

/-- The checks of R509 on the staged image, in their order: the reason of the first that fails, 0 for none. -/
def stagedReason (p : Perm) (d : Dev) (l : List Byte) (sigOk tagsOk digestOk : Bool) : Nat :=
  let x := headerSlot l 2
  if !formatOk (slice l 0 256) l.length then 7
  else if leAt l 192 8 ≠ p.deviceEui || p.siliconRev < x.silicon then 7
  else if !sigOk then 2
  else if x.sec < d.fw.floor then 5
  else if !genDecrypts d x.keyGen then 6
  else if !blocksOk l (headerBlocks l) || !tagsOk then 1
  else if !digestOk then 2
  else 0

/-! ## Writing a slot (R509, R510) -/

/-- The slot that TARGET names (R509); with none running, 0xFF names A (log 33). -/
def targetSlot (d : Dev) (t : Nat) : Option Nat :=
  if t = 0 ∨ t = 1 then some t
  else if t = 0xFF then some (match d.fw.running with | some 0 => 1 | _ => 0)
  else none

/-- A slot write ends with a reason: event 100, and the command completes (R509). -/
def writeEnds (d : Dev) (s reason : Nat) : Dev :=
  raise (finish { d with fw := { d.fw with writing := none, last := reason } } 0x600002) 100 (s * 256 + reason)

/-- The reason of a boot record commit that was refused: HOLDUP, or for a worn page a free one (R506, log 30). -/
def commitReason (d : Dev) (st : Status) : Nat := if st = .nvWorn then Config.wornReason d.free else 8

/-- The command FW_WRITE (R509). -/
def fwWriteCore : Core := fun arg d =>
  if !argLen arg 1 then answer d .malformed
  else match targetSlot d (leNat arg) with
    | none => answer d .outOfRange
    | some s =>
      if d.fw.running = some s || (slotIn d 3).isSome then answer d .wrongMode
      else if d.fw.writing.isSome || d.fw.hoist.isSome then answer d .busy
      else
        let c := bootCommit (accept d 0x600002) 1
        if c.2 ≠ .ok then answer (drawn (writeEnds c.1 s (commitReason c.1 c.2))) .ok
        else
          let d1 := updSlot c.1 s (fun _ => { st := 1 })
          answer (noteAccepted { d1 with fw := { d1.fw with writing := some s, progress := 0 } } 0x600002) .ok

/-- FW_WRITE (R509). -/
def execFwWrite (r : Req) (arg : List Byte) (s : State) : Host.Outcome State Fault Refusal := onDev s (serveExec r 0x600002 arg fwWriteCore)

/-- The flash writes run (R510): as task 6, or in M5 and M11 without grants. -/
def writeRuns (d : Dev) : Bool := d.pwr.mode = .m5 || d.pwr.mode = .m11 || (qdlServed d && d.pwr.mode ≠ .m9 && taskRuns d 6)

/-- The slot write completes (R509); `flashBad` is the first block whose read-back fails. -/
def fwWritten (p : Perm) (sigOk tagsOk digestOk : Bool) (flashBad : Option Nat) (d : Dev) : Dev :=
  match d.fw.writing with
  | none => d
  | some s =>
    if !writeRuns d then d
    else
      let l := stagedString d 0x600001 (stagedEnd d 0x600001)
      let n := headerBlocks l
      let why := stagedReason p d l sigOk tagsOk digestOk
      if why ≠ 0 then writeEnds (stopWriting d) s why
      else
        let done := match flashBad with | some b => Nat.min b n | none => n
        let d1 : Dev := { d with fw := { d.fw with progress := done } }
        if done < n then writeEnds (stopWriting d1) s 1
        else
          let c := bootCommit d1 1
          if c.2 = .ok then writeEnds (unstage (updSlot c.1 s (fun _ => headerSlot l 2)) 0x600001) s 0
          else drawn (writeEnds (emptySlot c.1 s) s (commitReason c.1 c.2))

/-- FW_WRITTEN (R509). -/
def execFwWritten (sigOk tagsOk digestOk : Bool) (flashBad : Option Nat) (s : State) : Host.Outcome State Fault Refusal :=
  onDev s (fwWritten s.perm sigOk tagsOk digestOk flashBad)

/-- The command FW_DISCARD (R509). -/
def fwDiscardCore : Core := fun arg d =>
  if !argLen arg 0 then answer d .malformed
  else if d.fw.writing.isSome then answer d .busy
  else answer (unstage d 0x600001) .ok

/-- FW_DISCARD (R509). -/
def execFwDiscard (r : Req) (arg : List Byte) (s : State) : Host.Outcome State Fault Refusal :=
  onDev s (serveExec r 0x600003 arg fwDiscardCore)

/-! ## The Hoist (R511, R512, R518) -/

/-- A Hoist or revert ends: LAST_RESULT, event 101, and its command completes (R511, R522). -/
def hoistEnds (d : Dev) (s reason : Nat) : Dev :=
  raise (finish (finish { d with fw := { d.fw with last := reason, hoist := none } } 0x600004) 0x600006) 101 (s * 256 + reason)

/-- Phase 4 begins (R511, R518): M9 entered, or in M5 and M11 a reset 100 ms after the response. -/
def hoistActivate (d : Dev) (s : Nat) (revert : Bool) : Dev :=
  if d.pwr.mode.running then setMode { d with fw := { d.fw with hoist := some (s, revert, d.clk.up) } } .m9 else scheduleReset d 4

/-- Phases 2 and 3 (R511): the hold-up check against HOIST_COST, then the commit of the boot record that `f` makes. -/
def hoistCommit (d : Dev) (s : Nat) (revert : Bool) (items : Nat) (f : Dev → Dev) : Dev :=
  let h := holdupCheck d (numN d 0x111011 * 1000)
  if !h.2 then hoistEnds h.1 s 8
  else
    let c := bootCommit h.1 items
    if c.2 = .ok then hoistActivate (f c.1) s revert else drawn (hoistEnds c.1 s (commitReason c.1 c.2))

/-- Phases 1 to 3 of a Hoist (R511); `found` is what the flash shows of the slot (R507). -/
def hoistPhases (p : Perm) (found s : Nat) (d : Dev) : Dev :=
  let r := slotReason p d s found
  if r ≠ 0 then hoistEnds (rejectSlot (bootCommit d 1).1 s r) s r
  else hoistCommit d s false 2 (fun x =>
    let y := updSlot x s (fun k => { k with st := 3 })
    { y with fw := { y.fw with trialSince := tbNs y } })

/-- A command of MODE 1 is running (R511). -/
def worksOn (d : Dev) : Bool := !d.qdl.running.isEmpty || d.fw.hoist.isSome || d.fw.writing.isSome

/-- The command FW_HOIST as checked (R511). -/
def fwHoistCore : Core := fun arg d =>
  if !argLen arg 0 then answer d .malformed
  else if (slotIn d 3).isSome || (slotIn d 2).isNone then answer d .wrongMode
  else if worksOn d then answer d .busy
  else answer (accept d 0x600004) .ok

/-- A command whose phases follow its response (R511, R518). -/
def serveThen (r : Req) (key : Nat) (arg : List Byte) (core : Core) (f : Dev → Dev) (d : Dev) : Dev :=
  serve (.exec (key / 256) (key % 256) arg) r (fun x d1 =>
    let v := runExec x.level key arg core d1
    { v with after := if v.status = .ok then f else id }) d

/-- What follows an accepted FW_HOIST. -/
def hoistReady (p : Perm) (found : Nat) (d : Dev) : Dev := match slotIn d 2 with | some s => hoistPhases p found s d | none => d

/-- FW_HOIST (R511). -/
def execFwHoist (r : Req) (arg : List Byte) (found : Nat) (s : State) : Host.Outcome State Fault Refusal :=
  onDevSettled s (serveThen r 0x600004 arg fwHoistCore (hoistReady s.perm found))

/-- The command FW_REVERT as checked (R518). -/
def fwRevertCore : Core := fun arg d =>
  if !argLen arg 0 then answer d .malformed
  else if (slotIn d 3).isNone || (slotIn d 4).isNone then answer d .wrongMode
  else if worksOn d then answer d .busy
  else answer (accept d 0x600006) .ok

/-- Phases 2 and 3 of a revert (R518): the trial slot REJECTED with reason REVERTED, toward the GOOD slot. -/
def revertPhases (d : Dev) : Dev :=
  match slotIn d 3, slotIn d 4 with
  | some t, some g => hoistCommit d g true 1 (fun x => rejectSlot x t 9)
  | _, _ => d

/-- FW_REVERT (R518). -/
def execFwRevert (r : Req) (arg : List Byte) (s : State) : Host.Outcome State Fault Refusal :=
  onDevSettled s (serveThen r 0x600006 arg fwRevertCore revertPhases)

/-- M9 is left for the base mode, or for M8 while GOV_STATE is not 0 (R452, R454). -/
def leaveHoist (d : Dev) : Dev :=
  let d1 : Dev := { d with pwr := { d.pwr with baseFull := d.pwr.fullOnly || numN d 0x100003 = 0 } }
  modeBands (gateCores (setMode d1 (if d1.gov.st = 0 then baseMode d1 else .m8)))

/-- The new runtime takes over (R512). -/
def hoistDone (d : Dev) (s : Nat) : Dev :=
  hoistEnds (leaveHoist { d with fw := { d.fw with running := some s, hoists := satAdd d.fw.hoists 1 } }) s 0

/-- A fallback during a Hoist (R514, R516): the trial slot REJECTED, or READY again for want of energy; event 102 with the reason. -/
def hoistFails (d : Dev) (s reason : Nat) : Dev :=
  let c := (bootCommit d 1).1
  let d1 := if reason = 8 then raise (updSlot c s (fun k => { k with st := 2 })) 102 (s * 256 + 8) else rejectSlot c s reason
  hoistEnds (leaveHoist d1) s reason

/-- The settings switched back for a revert (R516, R518): the other copy, where it is at the GOOD image's version. -/
def switchBack (d : Dev) (s : Nat) : Dev × Status :=
  let dict := (fwSlot d s).dict
  if d.nv.version = dict then (d, .ok)
  else
    match d.nv.shadow with
    | some (v, l) =>
      if v ≠ dict then (d, .ok)
      else
        let c := headerCommit d
        if c.2 = .ok then
          ({ c.1 with nv := { c.1.nv with rp := l, version := v, shadow := some (d.nv.version, d.nv.rp), setSeq := d.nv.setSeq + 1 } }, .ok)
        else c
    | none => (d, .ok)

/-- A revert that fails: the trial runs on (log 34). -/
def revertFails (d : Dev) (s reason : Nat) : Dev :=
  let c := (bootCommit d 1).1
  let d1 := match d.fw.running with | some t => updSlot c t (fun k => { k with st := 3, reason := 0 }) | none => c
  hoistEnds (leaveHoist d1) s reason

/-- The activation of R512, to its end 900 ms after H0 at the latest. -/
def hoistActivation (ready translates : Bool) (d : Dev) : Dev :=
  match d.fw.hoist with
  | none => d
  | some (s, revert, h0) =>
    if d.pwr.mode ≠ .m9 then d
    else
      let d1 := reach d (h0 + ms 900)
      if revert then
        let c := if ready then switchBack d1 s else (d1, .ok)
        if !ready then revertFails c.1 s 4
        else if c.2 = .ok then hoistDone c.1 s else revertFails c.1 s 8
      else if !ready then hoistFails d1 s 4
      else
        let m := migrate { d1 with fw := { d1.fw with running := some s } } translates
        if m.2 = .ok then hoistDone m.1 s
        else hoistFails { m.1 with fw := { m.1.fw with running := d1.fw.running } } s (if m.2 = .holdupLow then 8 else 3)

/-- HOIST_ACTIVATION (R512). -/
def execHoistActivation (ready migrationOk : Bool) (s : State) : Host.Outcome State Fault Refusal :=
  onDevSettled s (hoistActivation ready migrationOk)

/-! ## Confirmation (R517) -/

/-- The trial slot that runs (R517). -/
def runningTrial (d : Dev) : Option Nat :=
  match d.fw.running with | some s => if (fwSlot d s).st = 3 then some s else none | none => none

/-- A confirmation in one commit (R517): the slot GOOD, the other EMPTY, SEC_FLOOR raised; the previous IMAGE key goes with the first
confirmation of an image under the present generation (R520). -/
def confirm (d : Dev) (s : Nat) : Dev × Status :=
  let c := bootCommit d 3
  if c.2 = .ok then
    let x := fwSlot d s
    let d1 := emptySlot (updSlot c.1 s (fun k => { k with st := 4 })) (1 - s)
    let drops : Bool := (keyPresent d 5 0).isSome && x.keyGen = genOf d 5 0
    (raise { d1 with
      fw := { d1.fw with floor := Nat.max d1.fw.floor x.sec, confirmAt := none }
      can := { d1.can with prevImage := if drops then none else d1.can.prevImage } } 103 s, .ok)
  else if c.2 = .holdupLow then ({ c.1 with fw := { c.1.fw with confirmAt := some (c.1.clk.up + sec 1) } }, c.2)
  else ({ c.1 with fw := { c.1.fw with confirmAt := none } }, c.2)

/-- The command FW_CONFIRM (R517). -/
def fwConfirmCore : Core := fun arg d =>
  if !argLen arg 0 then answer d .malformed
  else match runningTrial d with
    | some s => let c := confirm d s
                answer c.1 c.2
    | none => answer d .wrongMode

/-- FW_CONFIRM (R517). -/
def execFwConfirm (r : Req) (arg : List Byte) (s : State) : Host.Outcome State Fault Refusal :=
  onDev s (serveExec r 0x600005 arg fwConfirmCore)

/-- When AUTO_CONFIRM has run (R517): counted from the TRIAL commit, or from the last start where a reset came since (log 35). -/
def autoConfirmAt (d : Dev) : Nat :=
  Nat.max (d.clk.up - (tbNs d - d.fw.trialSince).toNat * 64) d.start.pgAt + sec (numN d 0x600007)

/-- AUTO_CONFIRM seconds have passed (R517). -/
def autoConfirm (d : Dev) : Dev :=
  match runningTrial d with
  | some s =>
    if numN d 0x600007 = 0 || !d.pwr.mode.running || d.fw.hoist.isSome || d.fw.confirmAt.isSome then d
    else (confirm (reach d (autoConfirmAt d)) s).1
  | none => d

/-- AUTO_CONFIRM (R517). -/
def execAutoConfirm (s : State) : Host.Outcome State Fault Refusal := onDev s autoConfirm

/-- A refused confirmation is tried again (R517). -/
def confirmRetry (d : Dev) : Dev :=
  match d.fw.confirmAt, runningTrial d with
  | some t, some s => (confirm (reach d t) s).1
  | _, _ => d

/-- CONFIRM_COMMIT_RETRY (R517). -/
def execConfirmCommitRetry (s : State) : Host.Outcome State Fault Refusal := onDev s confirmRetry

end Sys2Proof.Machine
end

