-- ==== Sys2Proof/Machine/Requests.lean ====
section
/-!
DEFINITION. Any request by its PDU (R36): the command that an EXEC names (R50), a request that has waited (R44, R58), and a relayed
one on the worker (R61, R394).
-/
namespace Sys2Proof.Machine

/-! ## The commands (R50) -/

/-- What Canton's checks of a staged message give, free (log 4). -/
def freeProof (n : Nat) : KeyProof :=
  { hashOk := Config.proofHash n, sigOk := Config.proofSig n, key := if Config.proofUnwraps n then some (Config.proofKey n) else none }

/-- The key that NEW_WRAPPED unwraps to, free (log 4). -/
def freeKey (n : Nat) : Option Nat := if Config.proofUnwraps n then some (Config.proofKey n) else none

/-- What the flash shows of a slot, free (R507, log 33). -/
def freeFound (n : Nat) : Nat := match Config.flashFound n % 4 with | 0 => 0 | 1 => 1 | 2 => 2 | _ => 7

/-- The commands of the indices that repeat: timers, gates, campaigns, bands. -/
def indexedCommand (p : Perm) (key : Nat) : Option Core :=
  if atSub key 0x1910 24 0x0C then some (armCore (key / 256 - 0x1910))
  else if atSub key 0x1910 24 0x0D then some (stopCore (key / 256 - 0x1910))
  else if atSub key 0x1910 24 0x0F then some (clearFlagsCore (key / 256 - 0x1910))
  else if atSub key 0x4840 2 0x0B then some (gateCommitCore (key / 256 - 0x4840))
  else if atSub key 0x4840 2 0x12 then some (gateCancelCore (key / 256 - 0x4840))
  else if atSub key 0x6110 8 0x0D then some (cStartCore p (key / 256 - 0x6110))
  else if atSub key 0x6110 8 0x0E then some (cPauseCore (key / 256 - 0x6110))
  else if atSub key 0x6110 8 0x0F then some (cResumeCore (key / 256 - 0x6110))
  else if atSub key 0x6110 8 0x10 then some (cAbortCore (key / 256 - 0x6110))
  else none

/-- The commands of the device and of its two bands. -/
def systemCommand (p : Perm) (key : Nat) : Option Core :=
  match key with
  | 0x020008 => some closeAllCore
  | 0x100007 => some padReleaseCore
  | 0x100009 => some sleepCore
  | 0x10000A => some maintenanceCore
  | 0x120005 => some resetCore
  | 0x12000A => some (provisionCore p)
  | 0x180008 => some (stepCore p)
  | 0x190002 => some groupStartCore
  | 0x190003 => some groupStopCore
  | 0x200011 => some (calibrateCore p .sf)
  | 0x210011 => some (calibrateCore p .g)
  | 0x22000A => some (laneRestoreCore .sf)
  | 0x22100A => some (laneRestoreCore .g)
  | 0x230007 => some (clearInhibitCore p .sf)
  | 0x231007 => some (clearInhibitCore p .g)
  | _ => none

/-- The commands of the mesh and the store. -/
def meshCommand (p : Perm) (key : Nat) : Option Core :=
  match key with
  | 0x301002 => some (fun arg d => deltaSubmitCore (Config.deltaSig d.free) arg (drawn d))
  | 0x301003 => some deltaDiscardCore
  | 0x308001 => some cellQueryCore
  | 0x31001E => some pennantQueryCore
  | 0x310020 => some pennantResetCore
  | 0x310021 => some (halyardSendCore p)
  | 0x402005 => some scrubNowCore
  | 0x410001 => some queueRestoreCore
  | 0x440015 => some nodeQueryCore
  | 0x440016 => some nodeRemoveCore
  | 0x440017 => some nodeStaticCore
  | 0x480007 => some nbQueryCore
  | _ => none

/-- The commands of keys, firmware, images, the hierarchy and events; Canton's checks are free here (log 4). -/
def serviceCommand (p : Perm) (key : Nat) : Option Core :=
  match key with
  | 0x500006 => some (fun arg d => keyApplyCore p (freeProof d.free) arg (drawn d))
  | 0x50000A => some (keyExportCore p)
  | 0x50000C => some (fun arg d => keyReplaceCore (freeKey d.free) arg (drawn d))
  | 0x500018 => some forceRejoinCore
  | 0x510009 => some secQueryCore
  | 0x600002 => some fwWriteCore
  | 0x600003 => some fwDiscardCore
  | 0x600004 => some fwHoistCore
  | 0x600005 => some fwConfirmCore
  | 0x600006 => some fwRevertCore
  | 0x610004 => some imageCommitCore
  | 0x610005 => some imageDeleteCore
  | 0x610007 => some imageDiscardCore
  | 0x61000D => some buntingQueryCore
  | 0x61000F => some (campaignAssignCore p)
  | 0x701008 => some (assignCore p)
  | 0x701009 => some (takeoverCore p)
  | 0x70100A => some (declareDeadCore p)
  | 0x800005 => some evtAckCore
  | 0x810005 => some errLogClearCore
  | 0x81000B => some unitRestoreCore
  | 0x820005 => some telemFreezeCore
  | _ => none

/-- The meaning of the command at a key; `execCheck` turns away a key that is none (R610). -/
def commandOf (p : Perm) (key : Nat) : Core :=
  ((((indexedCommand p key).or (systemCommand p key)).or (meshCommand p key)).or (serviceCommand p key)).getD (fun _ d => answer d .noEntry)

/-- What a command does after its response: CLOSE_ALL (R64), the phases of a Hoist and of a revert (R511, R518). -/
def commandAfter (p : Perm) (who : Option Nat) (key : Nat) : Dev → Dev :=
  match key with
  | 0x020008 => closeOthers who
  | 0x600004 => fun d => hoistReady p (freeFound d.free) (drawn d)
  | 0x600006 => revertPhases
  | _ => id

/-- An EXEC by its key at a privilege level (R50, R610). -/
def runCommand (p : Perm) (who : Option Nat) (level key : Nat) (arg : List Byte) (d : Dev) : Served :=
  let v := runExec level key arg (commandOf p key) d
  { v with after := if v.status = .ok then commandAfter p who key else id }

/-! ## Any request (R36) -/

/-- A request at a privilege level, for a body of at most `limit` octets, of a session's SEQ or (none) relayed (R36, R61). -/
def runInner (p : Perm) (m : Memory) (who : Option Req) (level limit : Nat) (i : Inner) (d : Dev) : Served :=
  let id := who.map Req.session
  match i with
  | .read snap items => runRead p id level limit snap items d
  | .write atomic items => runWrite p 0 level atomic items d
  | .exec idx sub arg => runCommand p id level (idx * 256 + sub) arg d
  | .bulkRead idx sub off n => runBulkRead m level limit idx sub off n d
  | .bulkWrite idx sub off data => runBulkWrite level idx sub off data d
  | .subscribe action kind idx sub minMs =>
    (match id.bind (session d) with
    | some x => runSubscribe p x action kind idx sub minMs d
    | none => { d := d, status := .wrongMode, body := .empty })
  | .relay target inner =>
    (match who with
    | some r => runRelay p r.session r.seq r.head.via level target inner d
    | none => { d := d, status := .malformed, body := .empty })
  | .other _ => { d := d, status := .malformed, body := .empty }

/-- A request of a session by its PDU (R36). -/
def serveInner (p : Perm) (m : Memory) (r : Req) (i : Inner) (d : Dev) : Dev :=
  serve i r (fun x d1 => runInner p m (some r) x.level (bodyLimit x) i d1) d

/-! ## Relayed requests on the worker (R61, R394) -/

/-- The body limit of a relayed response, which is carried within a RELAY response (R35, R59). -/
def relayLimit : Nat := 1420

/-- A relayed request answered; its response is kept, unless it was not executed (R43, R394). -/
def relayAnswer (d : Dev) (q : Nat) (st : Status) (b : Body) (keep : Bool) : Dev :=
  hlSend (if keep then { d with hier := { d.hier with relayed := lastN 16 (d.hier.relayed ++ [(q, st, b)]) } } else d) 0 (.relayRsp q st b)

/-- A relayed request executed at its ORIGIN level (R61). -/
def relayExecute (p : Perm) (m : Memory) (q origin : Nat) (i : Inner) (d : Dev) : Dev :=
  let v := runInner p m none (Nat.min origin 3) relayLimit i d
  if v.status = .malformed then relayAnswer d q .malformed .empty false
  else v.after (relayAnswer v.d q v.status v.body true)

/-- Relayed requests that wait in Q5 (R58). -/
def relayedInQ5 (d : Dev) : List Nat := (queue d 5).packets.filterMap (fun x => match x.body with | .relayed q _ _ => some q | _ => none)

/-- A RELAY_REQ of the manager (R43, R44, R58, R394), with QSEQ in place of SEQ: while requests wait in Q5 it waits there with them. -/
def onRelayReq (p : Perm) (m : Memory) (q origin : Nat) (i : Inner) (d : Dev) : Dev :=
  match d.hier.relayed.find? (fun k => k.1 = q) with
  | some (_, st, b) => hlSend d 0 (.relayRsp q st b)
  | none =>
    if (relayedInQ5 d).contains q then d
    else if d.hier.relayed.any (fun k => q ≤ k.1) then relayAnswer d q .counterStale .empty false
    else if q5Waits d then
      if (relayedInQ5 d).length < 4 then intoQ5 d (.relayed q origin i) else relayAnswer d q .busy .empty false
    else relayExecute p m q origin i d

/-- RELAY_REQ (R61, R394). -/
def execRelayReq (h : HlHead) (qseq origin : Nat) (inner : Inner) (s : State) : Host.Outcome State Fault Refusal :=
  onDevSettled s (receiveHl h (.relayReq qseq origin inner) (fun w d =>
    if s.perm.role = 2 && w = 0 then onRelayReq s.perm s.mem qseq origin inner d else d))

/-! ## The hierarchy service (R371) -/

/-- A link message of any type (R370). -/
def handleAny (p : Perm) (m : Memory) (peer : Nat) (x : HlMsg) (d : Dev) : Dev :=
  match x with
  | .relayReq q o i => if p.role = 2 && peer = 0 then onRelayReq p m q o i d else d
  | .relayRsp q st b => if p.manager then onRelayRsp m peer q st b (answered d peer x) else d
  | _ => handleHl p peer x d

/-- The runtime takes a P4 descriptor: a link message is handled, any other kind is forwarded to the manager as a REPORT (R371). -/
def hierarchyControl (p : Perm) (m : Memory) (d : Dev) : Dev :=
  match takeFrom d (pq 4) with
  | (d1, none) => d1
  | (d1, some x) =>
    let d2 := dropBuf d1 x.buf
    match x.body with
    | .hier 1 _ _ _ _ _ (some (peer, msg)) => handleAny p m peer msg d2
    | .hier 1 _ _ _ _ _ none => d2
    | .hier kind band district epoch a0 a1 _ => hlSend d2 0 (.report kind band district epoch a0 a1)
    | _ => d2

/-- HIERARCHY_CONTROL (R371). -/
def execHierarchyControl (s : State) : Host.Outcome State Fault Refusal :=
  onDevSettled s (fun d => if runtimeUp d then hierarchyControl s.perm s.mem d else d)

/-! ## Requests that waited (R44, R58) -/

/-- The oldest waiting request of a session that awaits no relayed answer. -/
def nextHeld (d : Dev) : Option (Req × Inner) := d.qdl.held.find? (fun h => !relaying d h.1.session)

/-- A request stands at the head of Q5 (R58). -/
def q5Ready (d : Dev) : Bool := match front d 5 with | some x => isRequest x | none => false

/-- Some request that waited may run now: one behind a relay that has been answered, or, outside a Hoist, one of Q5 (R44, R58). -/
def requestReady (d : Dev) : Bool := qdlServed d && d.pwr.mode ≠ .m9 && ((nextHeld d).isSome || q5Ready d)

/-- A request of a session taken up after it has waited (R43, R44): behind a relay of its session it waits on. -/
def takeUp (p : Perm) (m : Memory) (r : Req) (i : Inner) (d : Dev) : Dev :=
  match session d r.session with
  | none => d
  | some x =>
    if relaying d r.session then { d with qdl := { d.qdl with held := d.qdl.held ++ [(r, i)] } }
    else if seqStale x r.seq then sendTo d r.session r.head.via (.qdl r.session r.seq .counterStale .empty)
    else execute x r (fun x d2 => runInner p m (some r) x.level (bodyLimit x) i d2) d d

/-- The oldest request that waited and may run is executed (R44, R56, R58): one behind a relay arrived before those that Q5 holds. -/
def runWaiting (p : Perm) (m : Memory) (d : Dev) : Dev :=
  match nextHeld d with
  | some (r, i) => takeUp p m r i { d with qdl := { d.qdl with held := d.qdl.held.erase (r, i) } }
  | none =>
    match front d 5 with
    | some x =>
      (match x.body with
      | .request r i => takeUp p m r i (take1 d 5)
      | .relayed q o i => if (d.hier.relayed.any (fun k => q ≤ k.1)) then relayAnswer (take1 d 5) q .counterStale .empty false else relayExecute p m q o i (take1 d 5)
      | _ => d)
    | none => d

end Sys2Proof.Machine
end

