-- ==== Sys2Proof/Machine/Interfaces.lean ====
section
/-!
DEFINITION. The interfaces as they carry frames and PDUs: the ports (R562-R567), MUART (R568, R569), MSPI (R570, R571), the parsing of a
PDU (R35, R36), and the test access port (R579).
-/
namespace Sys2Proof.Machine

/-! ## Ports (R306, R562-R567) -/

/-- The backhaul and host interfaces are powered and started (R459, R480). -/
def hostOn (d : Dev) : Bool := domainOn d 11 && d.start.stage ≠ .waitPg && d.start.stage ≠ .waitRetry

/-- LINK_UP (R563); `speed` is what SGMII training offers, 1 to 3. -/
def execLinkUp (prt : Fin 2) (speed : Fin 5) (s : State) : Host.Outcome State Fault Refusal :=
  onDev s (fun d => if hostOn d then portUp prt.val speed.val d else d)

/-- LINK_DOWN (R306). -/
def execLinkDown (prt : Fin 2) (s : State) : Host.Outcome State Fault Refusal := onDev s (portDown prt.val)

/-- A destination that a port accepts (R564 check 4). -/
def dstAccepted (d : Dev) (p dst : Nat) : Bool :=
  dst = beNat (octets d ((0x9010 + p) * 256 + 3)) || dst = 0xFFFFFFFFFFFF || dst / 4294967296 = 0x3333
    || dst = 0x011B19000000 || dst = 0x0180C200000E
    || (dst / 1099511627776 % 2 = 1 && flag d ((0x9010 + p) * 256 + 0x0D))

/-- Checks 1 to 4 of R564, and the discard of MAC Control frames (R562). -/
def frameAccepted (d : Dev) (p : Nat) (fcsGood : Bool) (f : EthFrame) : Bool :=
  fcsGood && 60 ≤ f.len && f.len ≤ numN d ((0x9010 + p) * 256 + 4) && !f.otherTag && f.tags.length ≤ 1 && f.etherType ≠ 0x8808
    && dstAccepted d p f.dst

/-- A frame received at a port: pushed to Q6 or Q7, or discarded and counted at the first check that fails (R564, R565). -/
def ethernetReceive (p : Nat) (fcsGood : Bool) (f : EthFrame) (d : Dev) : Dev :=
  let key (sub : Nat) : Nat := (0x9010 + p) * 256 + sub
  if !hostOn d || !(port d p).up then d
  else if !frameAccepted d p fcsGood f then count d (key 9)
  else
    let a := alloc d (2 + p) f.len (.eth f)
    match a.2 with
    | none => count a.1 (key 9)
    | some g =>
      let x : Desc := ⟨0x02, 0, f.len, some g, .eth (rxStamp d p) p (erxf f) (f.tags.headD 0) f.etherType (32 + 14 + 4 * f.tags.length)⟩
      let r := push a.1 (6 + p) x
      if r.2 then count r.1 (key 7) else count (dropRef r.1 g) (key 9)

/-- ETHERNET_RECEIVE (R564). -/
def execEthernetReceive (prt : Fin 2) (fcsGood : Bool) (f : EthFrame) (s : State) : Host.Outcome State Fault Refusal :=
  onDev s (ethernetReceive prt.val fcsGood f)

/-- ROUTER_ADVERTISEMENT (R567). -/
def execRouterAdvertisement (router : Nat) (pfx : Option Nat) (s : State) : Host.Outcome State Fault Refusal :=
  onDev s (fun d => if hostOn d && ((port d 0).up || (port d 1).up) then routerAdvert router pfx d else d)

/-- NEIGHBOR_SOLICITATION (R567). -/
def execNeighborSolicitation (prt : Fin 2) (arp : Bool) (target : Nat) (s : State) : Host.Outcome State Fault Refusal :=
  onDev s (fun d => if hostOn d && (port d prt.val).up then solicited prt.val arp target d else d)

/-- DUPLICATE_ADDRESS_DETECTION (R567). -/
def execDuplicateAddressDetection (addr : Nat) (duplicate : Bool) (s : State) : Host.Outcome State Fault Refusal :=
  onDev s (fun d => dadEnds d addr duplicate)

/-! ## Bodies of requests (R45, R50, R52, R55, R59) -/

/-- READ items (R45); a reserved bit of IFLAGS is set: none. -/
def parseReads : Nat → List Byte → Option (List RItem)
  | 0, l => if l.isEmpty then some [] else none
  | n + 1, l =>
    if l.length < 4 || 1 < leAt l 3 1 then none
    else (parseReads n (l.drop 4)).map (fun t => ⟨leAt l 0 2, leAt l 2 1, leAt l 3 1 = 1⟩ :: t)

/-- WRITE items (R45). -/
def parseWrites : Nat → List Byte → Option (List WItem)
  | 0, l => if l.isEmpty then some [] else none
  | n + 1, l =>
    if l.length < 6 || l.length < 6 + leAt l 4 2 then none
    else (parseWrites n (l.drop (6 + leAt l 4 2))).map (fun t => ⟨leAt l 0 2, leAt l 2 1, leAt l 3 1, slice l 6 (leAt l 4 2)⟩ :: t)

/-- The body of a BULK request (R55). -/
def parseBulk (l : List Byte) : Option Inner :=
  let n := leAt l 10 2
  if l.length < 12 then none
  else if leAt l 0 1 = 0 && l.length = 12 then some (.bulkRead (leAt l 2 2) (leAt l 4 1) (leAt l 6 4) n)
  else if leAt l 0 1 = 1 && l.length = 12 + n then some (.bulkWrite (leAt l 2 2) (leAt l 4 1) (leAt l 6 4) (l.drop 12))
  else none

/-- The body of a request other than a RELAY, by its OP and FLAGS (R36). -/
def parseInner (op flags : Nat) (l : List Byte) : Option Inner :=
  match op with
  | 0x01 => if l.length < 2 then none else (parseReads (leAt l 0 2) (l.drop 2)).map (.read (flags.testBit 2))
  | 0x02 => if l.length < 2 then none else (parseWrites (leAt l 0 2) (l.drop 2)).map (.write (flags.testBit 1))
  | 0x03 => if l.length < 6 || l.length ≠ 6 + leAt l 4 2 then none else some (.exec (leAt l 0 2) (leAt l 2 1) (l.drop 6))
  | 0x04 => if l.length ≠ 8 then none else some (.subscribe (leAt l 0 1) (leAt l 1 1) (leAt l 2 2) (leAt l 4 1) (leAt l 6 2))
  | 0x05 => parseBulk l
  | _ => some (.other op)

/-- The inner request of a RELAY: a header with AUTH clear, SESSION and SEQ 0, and its body (R59). -/
def parseRelay (l : List Byte) : Option Inner :=
  let h := l.drop 4
  let flags := leAt h 2 2
  if h.length < 16 || leAt h 0 1 ≠ 1 || 7 < flags || flags.testBit 0 || leAt h 4 8 ≠ 0 || h.length ≠ 16 + leAt h 12 2 then none
  else (parseInner (leAt h 1 1) flags (h.drop 16)).map (.relay (leAt l 0 1))

/-- The body of a session's request (R36). -/
def parseBody (op flags : Nat) (l : List Byte) : Option Inner := if op = 0x30 then parseRelay l else parseInner op flags l

/-! ## A PDU on a serial transport (R35-R42) -/

/-- Operations that a host sends (R36). -/
def hostOp (op : Nat) : Bool := [0x01, 0x02, 0x03, 0x04, 0x05, 0x10, 0x12, 0x13, 0x30].contains op

/-- The head of a PDU received whole on a serial transport: its tag, where AUTH is set, is that of the session's key, or (log 4) one that
verifies under no key. -/
def serialHead (d : Dev) (t : Transport) (auth : Bool) (id seq : Nat) (verifies : Bool) : PduHead :=
  let k : SessKey := match session d id with | some x => x.key | none => ⟨0, 0, 0, 0⟩
  { via := t, tag := if auth then some ⟨k, id, seq, if verifies then 0 else 255⟩ else none }

/-- HSIG as a serial PROOF carries it: the credential's own signature, or (log 4) one that does not verify. -/
def serialSig (d : Dev) (id : Nat) (sigOk : Bool) : Option HandSig :=
  if sigOk then (findKey Handshake.id id d.qdl.handshakes).map (fun h => handSig (some (octets d ((0x0210 + h.cred) * 256 + 1))) h) else none

/-- A PDU whose header is sound (R35): its operation is carried out or refused. A HELLO or PROOF with AUTH set or with a body of another
length is MALFORMED (R34, R39). -/
def pduServed (p : Perm) (m : Memory) (t : Transport) (op flags id seq : Nat) (body : List Byte) (verifies sigOk : Bool) (d : Dev) : Dev :=
  let auth := flags.testBit 0
  let say (x : Dev) (st : Status) : Dev := sendOn x t none false (.qdl id seq st .empty)
  let r : Req := ⟨id, seq, serialHead d t auth id seq verifies⟩
  if op = 0x10 then
    (if auth || body.length ≠ 84 then say d .malformed else hello t seq (leAt body 0 1) (leAt body 4 16) (leAt body 20 64) d)
  else if op = 0x12 then
    (if auth || body.length ≠ 64 then say d .malformed else proof t id seq (serialSig d id sigOk) d)
  else if op = 0x13 then close r d
  else
    match parseBody op flags body with
    | some i => serveInner p m r i d
    | none =>
      match sessionOn d t id with
      | none => say d .noSession
      | some x =>
        if !authFits x r then say d .noSession
        else if auth && !tagOk x r then count d 0x020006
        else sendTo (if auth then updSession d id (fun y => { y with lastReq := d.clk.up }) else d) id t (.qdl id seq .malformed .empty)

/-- A PDU on a serial transport (R35): discarded where its VER is not 1, MALFORMED where its header is not sound. -/
def pduIn (p : Perm) (m : Memory) (t : Transport) (l : List Byte) (tagOk sigOk : Bool) (d : Dev) : Dev :=
  let op := leAt l 1 1
  let flags := leAt l 2 2
  let n := leAt l 12 2
  if l.length < 16 || leAt l 0 1 ≠ 1 then d
  else if 1472 < l.length || 7 < flags || l.length ≠ 16 + n + (if flags.testBit 0 then 16 else 0) || !hostOp op then
    sendOn d t none false (.qdl (leAt l 4 4) (leAt l 8 4) .malformed .empty)
  else pduServed p m t op flags (leAt l 4 4) (leAt l 8 4) (slice l 16 n) tagOk sigOk d

/-! ## MUART (R568, R569) -/

/-- The stuffing of R569 undone; none where 0x7D is followed by anything but 0x5E and 0x5D. -/
def unstuff : Bool → List Byte → Option (List Byte)
  | false, [] => some []
  | true, [] => none
  | true, b :: t => if b = 0x5E then (unstuff false t).map (0x7E#8 :: ·) else if b = 0x5D then (unstuff false t).map (0x7D#8 :: ·) else none
  | false, b :: t => if b = 0x7D then unstuff true t else (unstuff false t).map (b :: ·)

/-- The PDU of a frame's stuffed content, where the frame is sound (R569). -/
def frameContent (l : List Byte) : Option (List Byte) :=
  match unstuff false l with
  | none => none
  | some c =>
    let n := c.length - 4
    if c.length < 4 || 1476 < c.length || leNat (c.drop n) ≠ crc32c 0xFFFFFFFF (c.take n) then none else some (c.take n)

/-- What the octets of one transport are received under: the fixed part, the store, and what the checks give (log 4). -/
structure Arrival where
  perm : Perm
  mem : Memory
  tagOk : Bool
  sigOk : Bool
  deriving DecidableEq, Repr

/-- A frame between two delimiters (R569): empty frames are ignored, a frame that is not sound is counted. -/
def muartFrame (a : Arrival) (l : List Byte) (d : Dev) : Dev :=
  if l.isEmpty then d
  else match frameContent l with
    | none => count d 0x902004
    | some pdu => pduIn a.perm a.mem .muart pdu a.tagOk a.sigOk (count d 0x902003)

/-- One octet received (R569): what precedes the first delimiter belongs to no frame. -/
def muartOctet (a : Arrival) (d : Dev) (b : Byte) : Dev :=
  if b = 0x7E then
    match d.ifs.muartPart with
    | some l => muartFrame a l { d with ifs := { d.ifs with muartPart := some [] } }
    | none => { d with ifs := { d.ifs with muartPart := some [] } }
  else
    match d.ifs.muartPart with
    | some l => { d with ifs := { d.ifs with muartPart := some (l ++ [b]) } }
    | none => d

/-- A framing error or an overrun discards the frame in progress (R569). -/
def muartError (d : Dev) : Dev :=
  match d.ifs.muartPart with
  | some _ => count { d with ifs := { d.ifs with muartPart := none } } 0x902004
  | none => d

/-- Octets received on MUART, the last of them in error where `lineError` (R568, R569). -/
def muartIn (a : Arrival) (octets : List Byte) (lineError : Bool) (d : Dev) : Dev :=
  let d1 := octets.foldl (muartOctet a) d
  let d2 := if lineError then muartError d1 else d1
  { d2 with ifs := { d2.ifs with muartAt := d2.clk.up } }

/-- The state after requests on a serial transport: provisioning may have been committed, and MESH_OK_N follows. -/
def afterPdus (s : State) (d : Dev) : State := withProvision s (settle s.perm d)

/-- MUART_FRAME (R569). -/
def execMuartFrame (octets : List Byte) (lineError tagOk sigOk : Bool) (s : State) : Host.Outcome State Fault Refusal :=
  .next (if qdlServed s.d && hostOn s.d then afterPdus s (muartIn ⟨s.perm, s.mem, tagOk, sigOk⟩ octets lineError s.d) else s)

/-- A partial frame is dropped 100 ms after its last octet (R569). -/
def muartIdle (d : Dev) : Dev :=
  match d.ifs.muartPart with
  | some (_ :: _) =>
    let d1 := reach d (d.ifs.muartAt + ms 100)
    { d1 with ifs := { d1.ifs with muartPart := none } }
  | _ => d

/-- MUART_IDLE_TIMEOUT (R569). -/
def execMuartIdleTimeout (s : State) : Host.Outcome State Fault Refusal := onDev s muartIdle

/-- MUART_CTS_N (R568): asserted, what has waited is sent. -/
def execMuartCtsN (asserted : Bool) (s : State) : Host.Outcome State Fault Refusal :=
  onDev s (fun d =>
    let d1 : Dev := { d with ifs := { d.ifs with cts := asserted } }
    if asserted && qdlServed d then flushMuart d1 else d1)

/-- A BAUD that was written comes into force at its instant (R568). -/
def applyBaud (d : Dev) : Dev :=
  match d.ifs.baudDue with
  | some (v, t) => if t ≤ d.clk.up then { d with ifs := { d.ifs with baud := v, baudDue := none } } else d
  | none => d

/-! ## MSPI (R570, R571) -/

/-- RXFREE: the inbound buffer of 4 KiB, from which a PDU is taken as it arrives (R570). -/
def rxFree : Nat := 4096

/-- Responses that wait enter the outbound buffer in order as space frees (R571). -/
def refillMspi : List OutPdu → Dev → Dev
  | [], d => { d with ifs := { d.ifs with mspiWait := [] } }
  | x :: t, d =>
    if sumNat (d.ifs.mspiOut.map OutPdu.len) + x.len ≤ 16384 then refillMspi t { d with ifs := { d.ifs with mspiOut := d.ifs.mspiOut ++ [x] } }
    else { d with ifs := { d.ifs with mspiWait := x :: t } }

/-- An MSPI WRITE transaction (R570). -/
def mspiWrite (a : Arrival) (len : Nat) (octets : List Byte) (crc : Nat) (d : Dev) : Dev :=
  if len ≤ rxFree && octets.length = len && crc = crc32c 0xFFFFFFFF octets then pduIn a.perm a.mem .mspi octets a.tagOk a.sigOk (count d 0x902101)
  else count d 0x902102

/-- MSPI_WRITE (R570). -/
def execMspiWrite (len : Nat) (octets : List Byte) (crc : BitVec 32) (tagOk sigOk : Bool) (s : State) : Host.Outcome State Fault Refusal :=
  .next (if qdlServed s.d && hostOn s.d then afterPdus s (mspiWrite ⟨s.perm, s.mem, tagOk, sigOk⟩ len octets crc.toNat s.d) else s)

/-- An MSPI READ transaction (R570): the oldest PDU leaves the buffer if all of it was clocked. -/
def mspiRead (clocked : Nat) (d : Dev) : Dev :=
  match d.ifs.mspiOut with
  | [] => emit d (.mspiLen 0)
  | x :: t =>
    let d1 := emit d (.mspiLen x.len)
    if clocked < x.len + 6 then d1
    else
      let d2 := emit { d1 with ifs := { d1.ifs with mspiOut := t } } x.pdu
      refillMspi d2.ifs.mspiWait d2

/-- MSPI_READ (R570): `clocked` octets after the command and the dummy. -/
def execMspiRead (clocked : Nat) (s : State) : Host.Outcome State Fault Refusal :=
  onDev s (fun d => if hostOn d then mspiRead clocked d else d)

/-- MSPI_STATUS (R570): a transaction with command 0x03, or with a reserved command, which is ignored and counted; the commands 0x01 and
0x02 have rows of their own. -/
def execMspiStatus (command : Byte) (s : State) : Host.Outcome State Fault Refusal :=
  onDev s (fun d =>
    if !hostOn d || command = 1 || command = 2 then d
    else if command = 3 then emit d (.mspiStatus (match d.ifs.mspiOut with | x :: _ => x.len | [] => 0) rxFree)
    else count d 0x902102)

/-! ## The test access port (R579) -/

/-- EXTEST, CLAMP or HIGHZ hands the pads to the scan chain (R579); VCORE must be on. -/
def extest (d : Dev) : Dev :=
  if !pgState d || d.pwr.mode = .m0 || d.pwr.mode.asleep then d
  else
    let d1 := stopSlots (stopTransmission d)
    { d1 with ifs := { d1.ifs with extest := true } }

/-- EXTEST (R579). -/
def execExtest (s : State) : Host.Outcome State Fault Refusal := onDevSettled s extest

/-- IDCODE or BYPASS after EXTEST, CLAMP or HIGHZ: a reset with cause 4 (R579). -/
def idcode (d : Dev) : Dev := if d.ifs.extest then resetWith d 4 else d

/-- IDCODE (R579). -/
def execIdcode (s : State) : Host.Outcome State Fault Refusal := onDevSettled s idcode

end Sys2Proof.Machine
end

