-- ==== Sys2Proof/Machine/Persistent.lean ====
section
/-!
DEFINITION. The runtime's own commits, and the wear task (R492-R496).
-/
namespace Sys2Proof.Machine

/-- Step 5 of R493 for commits whose marker stands: their home words written, the journal freed. -/
def writeHome (d : Dev) : Dev :=
  if d.nv.journal.isEmpty then d else programPage { d with nv := { d.nv with journal := [] } } counterPage

/-- The oldest commit that waits (R492, R493): refused, or in force from its marker; `homed` says whether step 5 follows before the
next command. A word of `bad` that fails verification retires its page (R496). -/
def runCommit (bad : Option Nat) (homed : Bool) (d : Dev) : Dev :=
  let d0 := writeHome d
  match d0.nv.waiting with
  | [] => d0
  | w :: t =>
    let d1 : Dev := { d0 with nv := { d0.nv with waiting := t } }
    let c := commitNv d1 1 8 (if homed || pagesWorn d1 [counterPage] then [counterPage] else [])
    if c.2 ≠ .ok then c.1
    else
      let d2 : Dev := { c.1 with nv := { c.1.nv with saved := w, journal := if homed then [] else [w] } }
      match bad with
      | some l => if l < 8 || l = counterPage then retirePage d2 l else d2
      | none => d2

/-- COMMIT (R493): the persistent store is powered from M2 on (R459). -/
def execCommit (verifyFail : Option (Fin 153)) (homed : Bool) (s : State) : Host.Outcome State Fault Refusal :=
  onDev s (fun d => if domainOn d 1 then runCommit (verifyFail.map Fin.val) homed d else d)

/-- The wear task on a logical page (R495): the page copied to the least-worn spare and switched in by a directory commit; the old
mapping stays where that commit is refused or power is lost. -/
def wearMove (page : Nat) (powerLost : Bool) (d : Dev) : Dev :=
  match leastWorn d with
  | none => d
  | some sp =>
    if pageWrites d (physPage d page) ≤ pageWrites d sp + numN d 0x130006 then d
    else
      let d1 : Dev := { d with nv := { d.nv with writes := cntPut sp (pageWrites d sp + 1) d.nv.writes } }
      if powerLost then d1
      else
        let c := commitNv d1 1 8 []
        if c.2 ≠ .ok then c.1
        else count (writeDirectory { c.1 with nv := { c.1.nv with pageMap := upd c.1.nv.pageMap page (fun _ => sp) 0 } }) 0x130009

/-- WEAR_MOVE (R495): task 3 of R437. -/
def execWearMove (page : Fin 153) (powerLost : Bool) (s : State) : Host.Outcome State Fault Refusal :=
  onDev s (fun d => if qdlServed d && taskRuns d 3 then wearMove page.val powerLost d else d)

end Sys2Proof.Machine
end

