-- ==== Sys2Proof/Machine/Telemetry.lean ====
section
/-!
DEFINITION. The telemetry ring (R553-R556): its records as octets, the copies into the ring, and SAMPLE records.
-/
namespace Sys2Proof.Machine

/-! ## Records as octets (R553) -/

/-- A receive descriptor as its 32 octets (R150). -/
def rxOctets (x : Desc) : List Byte :=
  toLe 1 x.dtype ++ toLe 1 x.dstat ++ toLe 2 x.len ++ toLe 4 (x.buf.getD 0xFFFFFFFF)
    ++ (match x.body with
      | .rx i =>
        sle 8 i.sfdTime ++ toLe 2 (cellRef i.handle i.loc) ++ toLe 2 (rxInfoNum i) ++ sle 2 i.cfo ++ sle 2 i.rssi ++ toLe 1 i.lqi ++ toLe 1 i.gain
          ++ toLe 2 (rxFlagsNum i) ++ toLe 4 (stageNum i.stage)
      | _ => toLe 24 0)

/-- An item of a SAMPLE record: INDEX, SUB, STATUS, VLEN, VALUE, padded to 4 octets. -/
def sampleOctets (i : Nat × Nat × Option Val) : List Byte :=
  let v : List Byte := match i.2.2, findEntry i.1 i.2.1 with | some v, some e => encodeVal e.ty v | _, _ => []
  toLe 2 i.1 ++ toLe 1 i.2.1 ++ toLe 1 (boolNum i.2.2.isNone) ++ toLe 2 v.length ++ v ++ List.replicate ((4 - (6 + v.length) % 4) % 4) 0

/-- RTYPE of a record (R553). -/
def telemType : TelemBody → Nat
  | .pad _ => 0 | .event .. => 1 | .error _ => 2 | .sample _ => 3 | .frame .. => 4

/-- What follows a record's header; the octets of a recorded PSDU are free (log 12). -/
def telemContent (free : Nat) : TelemBody → List Byte
  | .pad _ => []
  | .event ev flags data seq time => toLe 1 ev ++ toLe 1 flags ++ toLe 2 0 ++ toLe 4 data ++ sle 8 time ++ toLe 4 seq ++ toLe 4 0
  | .error r => errOctets r
  | .sample l => l.flatMap sampleOctets
  | .frame x _ => rxOctets x ++ (if x.buf.isSome then (upTo x.len).map (Config.psduOctet free) else [])

/-- A record of `len` octets (R553). -/
def telemOctets (free seq len : Nat) (time : Int) (b : TelemBody) : List Byte :=
  (toLe 1 (telemType b) ++ toLe 1 0 ++ toLe 2 len ++ toLe 4 seq ++ sle 8 time ++ telemContent free b ++ List.replicate len 0).take len

/-! ## The ring (R553, R554, R556) -/

/-- Octets of the ring in force (R236, R237). -/
def ringSize (d : Dev) : Nat := d.store.telemUnits * 67108864

/-- A record written at TELEM_HEAD (R553): the oldest records under it are given up. -/
def ringWrite (x : Memory × Dev) (b : TelemBody) (len : Nat) (time : Int) : Memory × Dev :=
  let d := x.2
  let h := d.tel.head
  let base := regionBase d 7
  let keep := d.tel.ring.filter (fun r => r.1 + r.2 ≤ h || h + len ≤ r.1)
  let ring := keep ++ [(h, len)]
  let wraps := decide (ringSize d ≤ h + len)
  let d1 := cleanBursts (drawn d) (base + h) len
  let d2 : Dev := { d1 with tel := { d1.tel with
    head := if wraps then 0 else h + len
    tail := match ring.head? with | some r => r.1 | none => 0
    nextSeq := (d.tel.nextSeq + 1) % 4294967296
    ring := ring } }
  (memWrite (base + h) (telemOctets d.free d.tel.nextSeq len time b) x.1, if wraps then count d2 0x82000B else d2)

/-- A staged record copied into the ring: one that would cross its end follows a PAD record (R553). -/
def ringCopy (x : Memory × Dev) (r : TelemRec) : Memory × Dev :=
  let left := ringSize x.2 - x.2.tel.head
  ringWrite (if left < r.len then ringWrite x (.pad left) left (tbNs x.2) else x) r.body r.len r.time

/-- The full runtime runs and serves (R485). -/
def fullRuntime (d : Dev) : Bool := qdlServed d && !d.start.bootRuntime

/-- The staged records copied into the ring in order, where task 4 was granted and the ring is not frozen (R554, R556). -/
def telemWrite (m : Memory) (d : Dev) : Memory × Dev :=
  if !fullRuntime d || d.tel.frozen || !taskRuns d 4 then (m, d)
  else d.tel.staged.foldl ringCopy (m, { d with tel := { d.tel with staged := [] } })

/-- TELEM_WRITE (R554). -/
def execTelemWrite (s : State) : Host.Outcome State Fault Refusal :=
  let r := telemWrite s.mem s.d
  .next { s with mem := r.1, d := r.2 }

/-! ## SAMPLE records (R555) -/

/-- The entries that SAMPLE_LIST names, up to INDEX 0 (R560). -/
def sampleList : Nat → List Byte → List (Nat × Nat)
  | 0, _ => []
  | n + 1, l => if leAt l 0 2 = 0 then [] else (leAt l 0 2, leAt l 2 1) :: sampleList n (l.drop 4)

/-- An entry read at level L2 for a SAMPLE; an entry that fails, or that the record has no room for, has no value (R555). -/
def sampleItem (p : Perm) (d : Dev) (room : Nat) (x : Nat × Nat) : Option Val :=
  match findEntry x.1 x.2 with
  | some e =>
    if readCheck d 2 x.1 x.2 = .ok && itemSize p d ⟨x.1, x.2, false⟩ e ≤ room then some (readEntry p d e (x.1 * 256 + x.2)) else none
  | none => none

/-- The items of a SAMPLE within `room` octets; each of the items that follow keeps its 8 octets. -/
def sampleItems (p : Perm) (d : Dev) : List (Nat × Nat) → Nat → List (Nat × Nat × Option Val)
  | [], _ => []
  | x :: t, room =>
    let v := sampleItem p d (room - 8 - 8 * t.length) x
    (x.1, x.2, v) :: sampleItems p d t (room - (sampleOctets (x.1, x.2, v)).length)

/-- A SAMPLE record staged, every SAMPLE_PERIOD seconds (R555). -/
def sample (p : Perm) (d : Dev) : Dev :=
  if !fullRuntime d || numN d 0x820007 = 0 then d
  else
    let d1 := reach d (d.tel.lastSample + sec (numN d 0x820007))
    let l := sampleItems p d1 (sampleList 64 (octets d1 0x820008)) 4080
    let n := 16 + sumNat (l.map (fun i => (sampleOctets i).length))
    stage { d1 with tel := { d1.tel with lastSample := d1.clk.up } } (.sample l) (ceilDiv n 64 * 64)

/-- SAMPLE (R555). -/
def execSample (s : State) : Host.Outcome State Fault Refusal := onDev s (sample s.perm)

end Sys2Proof.Machine
end

