-- ==== Sys2Proof/Machine/Dispatch.lean ====
section
/-!
DEFINITION. One arm for each command: a direct call of its meaning.
-/
namespace Sys2Proof.Machine

/-- A command's effect on everything but the queue of waiting commands. -/
def exec (i : Instr) (s : State) : Host.Outcome State Fault Refusal :=
  match i with
  | .entryWrite r atomic items => Sys2Proof.Machine.execEntryWrite r atomic items s
  | .loRead r snap items => Sys2Proof.Machine.execLoRead r snap items s
  | .hiRead r snap items => Sys2Proof.Machine.execHiRead r snap items s
  | .bulkWrite r idx sub off data => Sys2Proof.Machine.execBulkWrite r idx sub off data s
  | .subscribe r action kind idx sub minMs => Sys2Proof.Machine.execSubscribe r action kind idx sub minMs s
  | .notify session subId => Sys2Proof.Machine.execNotify session subId s
  | .hello h seq cred hnonce hpub => Sys2Proof.Machine.execHello h seq cred hnonce hpub s
  | .proof h session seq hsig => Sys2Proof.Machine.execProof h session seq hsig s
  | .proofTimeout session => Sys2Proof.Machine.execProofTimeout session s
  | .credentialRefusalEnd cred => Sys2Proof.Machine.execCredentialRefusalEnd cred s
  | .close r => Sys2Proof.Machine.execClose r s
  | .sessionIdleTimeout session => Sys2Proof.Machine.execSessionIdleTimeout session s
  | .relay r target inner => Sys2Proof.Machine.execRelay r target inner s
  | .relayTimeout target qseq => Sys2Proof.Machine.execRelayTimeout target qseq s
  | .closeAll r arg => Sys2Proof.Machine.execCloseAll r arg s
  | .credEnableWrite r cred enable => Sys2Proof.Machine.execCredEnableWrite r cred enable s
  | .refLost => Sys2Proof.Machine.execRefLost s
  | .refRestored => Sys2Proof.Machine.execRefRestored s
  | .refRelockTimeout => Sys2Proof.Machine.execRefRelockTimeout s
  | .slowCalibration slowTicks fastTicks => Sys2Proof.Machine.execSlowCalibration slowTicks fastTicks s
  | .phaseSlewEnd => Sys2Proof.Machine.execPhaseSlewEnd s
  | .step r arg => Sys2Proof.Machine.execStep r arg s
  | .tbSourceWrite r value => Sys2Proof.Machine.execTbSourceWrite r value s
  | .sync m => Sys2Proof.Machine.execSync m s
  | .followUp h origin corr => Sys2Proof.Machine.execFollowUp h origin corr s
  | .delayReq h corr => Sys2Proof.Machine.execDelayReq h corr s
  | .delayResp h forUs receive corr => Sys2Proof.Machine.execDelayResp h forUs receive corr s
  | .announce m => Sys2Proof.Machine.execAnnounce m s
  | .ptpDiscard port transport => Sys2Proof.Machine.execPtpDiscard port transport s
  | .ptpInterval kind => Sys2Proof.Machine.execPtpInterval kind s
  | .sourceTimeout => Sys2Proof.Machine.execSourceTimeout s
  | .ppsInEdge falling => Sys2Proof.Machine.execPpsInEdge falling s
  | .ppsInMissing => Sys2Proof.Machine.execPpsInMissing s
  | .ppsOutStart => Sys2Proof.Machine.execPpsOutStart s
  | .ppsOutEnd => Sys2Proof.Machine.execPpsOutEnd s
  | .alignExceeded => Sys2Proof.Machine.execAlignExceeded s
  | .calibrate r band arg => Sys2Proof.Machine.execCalibrate r band arg s
  | .calDone band imageRej => Sys2Proof.Machine.execCalDone band imageRej s
  | .calAbandoned band => Sys2Proof.Machine.execCalAbandoned band s
  | .maskViolation band => Sys2Proof.Machine.execMaskViolation band s
  | .clearInhibit r band arg => Sys2Proof.Machine.execClearInhibit r band arg s
  | .slotPreparation => Sys2Proof.Machine.execSlotPreparation s
  | .slotStart => Sys2Proof.Machine.execSlotStart s
  | .windowOpen band handle loc => Sys2Proof.Machine.execWindowOpen band handle loc s
  | .windowClose band handle loc => Sys2Proof.Machine.execWindowClose band handle loc s
  | .cellTransmit band lock margin => Sys2Proof.Machine.execCellTransmit band lock margin s
  | .ackTransmit band lock margin => Sys2Proof.Machine.execAckTransmit band lock margin s
  | .ackWindowClose band => Sys2Proof.Machine.execAckWindowClose band s
  | .preambleAcquired lane zeros sig => Sys2Proof.Machine.execPreambleAcquired lane zeros sig s
  | .correlatorHandover lane zeros sig => Sys2Proof.Machine.execCorrelatorHandover lane zeros sig s
  | .rehome lane sig atSfd => Sys2Proof.Machine.execRehome lane sig atSfd s
  | .sfdFound lane sig => Sys2Proof.Machine.execSfdFound lane sig s
  | .preambleTimeout lane => Sys2Proof.Machine.execPreambleTimeout lane s
  | .phrReceived lane phr0 phr1 => Sys2Proof.Machine.execPhrReceived lane phr0 phr1 s
  | .capture lane sig psdu => Sys2Proof.Machine.execCapture lane sig psdu s
  | .lastPsduChip lane frame fcsGood evm cfo clipped => Sys2Proof.Machine.execLastPsduChip lane frame fcsGood evm cfo clipped s
  | .laneFault lane hang => Sys2Proof.Machine.execLaneFault lane hang s
  | .laneRecovered lane => Sys2Proof.Machine.execLaneRecovered lane s
  | .laneRestore r band arg => Sys2Proof.Machine.execLaneRestore r band arg s
  | .rxVerify band => Sys2Proof.Machine.execRxVerify band s
  | .frameJudgement => Sys2Proof.Machine.execFrameJudgement s
  | .hitMark => Sys2Proof.Machine.execHitMark s
  | .adriftCheck => Sys2Proof.Machine.execAdriftCheck s
  | .txHoldCheck => Sys2Proof.Machine.execTxHoldCheck s
  | .joinReq => Sys2Proof.Machine.execJoinReq s
  | .joinTimeout => Sys2Proof.Machine.execJoinTimeout s
  | .rxNotOkRecord => Sys2Proof.Machine.execRxNotOkRecord s
  | .pennantQuery r arg => Sys2Proof.Machine.execPennantQuery r arg s
  | .pennantReset r arg => Sys2Proof.Machine.execPennantReset r arg s
  | .halyardSend r arg => Sys2Proof.Machine.execHalyardSend r arg s
  | .halyardSent => Sys2Proof.Machine.execHalyardSent s
  | .timedTransmit => Sys2Proof.Machine.execTimedTransmit s
  | .downlinkFrame => Sys2Proof.Machine.execDownlinkFrame s
  | .secureFrame => Sys2Proof.Machine.execSecureFrame s
  | .securedDownlink => Sys2Proof.Machine.execSecuredDownlink s
  | .deltaSubmit r arg sigOk => Sys2Proof.Machine.execDeltaSubmit r arg sigOk s
  | .deltaDiscard r arg => Sys2Proof.Machine.execDeltaDiscard r arg s
  | .deltaCheck sigOk => Sys2Proof.Machine.execDeltaCheck sigOk s
  | .cellQuery r arg => Sys2Proof.Machine.execCellQuery r arg s
  | .sfSuspendWrite r h suspend => Sys2Proof.Machine.execSfSuspendWrite r h suspend s
  | .keyRequest => Sys2Proof.Machine.execKeyRequest s
  | .pinExpiry => Sys2Proof.Machine.execPinExpiry s
  | .install r arg proof => Sys2Proof.Machine.execInstall r arg proof s
  | .invalidate r arg proof => Sys2Proof.Machine.execInvalidate r arg proof s
  | .tamperClear r arg proof => Sys2Proof.Machine.execTamperClear r arg proof s
  | .setAuthority r arg proof => Sys2Proof.Machine.execSetAuthority r arg proof s
  | .keyExport r arg => Sys2Proof.Machine.execKeyExport r arg s
  | .keyReplaceCompat r arg key => Sys2Proof.Machine.execKeyReplaceCompat r arg key s
  | .forceRejoin r arg => Sys2Proof.Machine.execForceRejoin r arg s
  | .secQuery r arg => Sys2Proof.Machine.execSecQuery r arg s
  | .rejoinRequiredSweep => Sys2Proof.Machine.execRejoinRequiredSweep s
  | .tamper input active keyOp => Sys2Proof.Machine.execTamper input active keyOp s
  | .tamperFlagCommit => Sys2Proof.Machine.execTamperFlagCommit s
  | .groupFcMarkCommit => Sys2Proof.Machine.execGroupFcMarkCommit s
  | .groupOverlapEnd => Sys2Proof.Machine.execGroupOverlapEnd s
  | .heartbeatSend => Sys2Proof.Machine.execHeartbeatSend s
  | .openMsg port opener ononce pub => Sys2Proof.Machine.execOpenMsg port opener ononce pub s
  | .openAck port peer link anonce ononce pub => Sys2Proof.Machine.execOpenAck port peer link anonce ononce pub s
  | .hlClose h reason => Sys2Proof.Machine.execHlClose h reason s
  | .hlMessageDiscard => Sys2Proof.Machine.execHlMessageDiscard s
  | .requestRepeat => Sys2Proof.Machine.execRequestRepeat s
  | .hlLinkDown peer => Sys2Proof.Machine.execHlLinkDown peer s
  | .heartbeat h hbSeq district revoke standby missLimit epoch hbInt leaseEnd => Sys2Proof.Machine.execHeartbeat h hbSeq district revoke standby missLimit epoch hbInt leaseEnd s
  | .hbAck h hbSeq hstate schedState asn align backlog => Sys2Proof.Machine.execHbAck h hbSeq hstate schedState asn align backlog s
  | .leaseExpired => Sys2Proof.Machine.execLeaseExpired s
  | .heartbeatMissLimit => Sys2Proof.Machine.execHeartbeatMissLimit s
  | .peerProbe h id => Sys2Proof.Machine.execPeerProbe h id s
  | .peerAnswer h id age => Sys2Proof.Machine.execPeerAnswer h id age s
  | .peerProbeTimeout => Sys2Proof.Machine.execPeerProbeTimeout s
  | .autonomyEnd => Sys2Proof.Machine.execAutonomyEnd s
  | .witnessReq h id district => Sys2Proof.Machine.execWitnessReq h id district s
  | .witnessRsp h id district age epoch => Sys2Proof.Machine.execWitnessRsp h id district age epoch s
  | .takeoverCommand r arg => Sys2Proof.Machine.execTakeoverCommand r arg s
  | .takeoverStart => Sys2Proof.Machine.execTakeoverStart s
  | .takeover h district restart epoch baseSeq start => Sys2Proof.Machine.execTakeover h district restart epoch baseSeq start s
  | .replDistrict h district epoch asnRef asnRefTime slotLen mark deltaSeq records => Sys2Proof.Machine.execReplDistrict h district epoch asnRef asnRefTime slotLen mark deltaSeq records s
  | .replNodes h items => Sys2Proof.Machine.execReplNodes h items s
  | .replGone h records => Sys2Proof.Machine.execReplGone h records s
  | .restoreEnd h records deltaSeq => Sys2Proof.Machine.execRestoreEnd h records deltaSeq s
  | .ready h district status => Sys2Proof.Machine.execReady h district status s
  | .peers h list => Sys2Proof.Machine.execPeers h list s
  | .keyMsg h octets proof => Sys2Proof.Machine.execKeyMsg h octets proof s
  | .keyResult h counter status => Sys2Proof.Machine.execKeyResult h counter status s
  | .deltaPart h id total offset data => Sys2Proof.Machine.execDeltaPart h id total offset data s
  | .deltaResult h id status reason asn => Sys2Proof.Machine.execDeltaResult h id status reason asn s
  | .relayReq h qseq origin inner => Sys2Proof.Machine.execRelayReq h qseq origin inner s
  | .relayRsp h qseq status body => Sys2Proof.Machine.execRelayRsp h qseq status body s
  | .report h kind bandNo district epoch arg0 arg1 => Sys2Proof.Machine.execReport h kind bandNo district epoch arg0 arg1 s
  | .hierarchyControl => Sys2Proof.Machine.execHierarchyControl s
  | .replInterval => Sys2Proof.Machine.execReplInterval s
  | .fullReplPeriod => Sys2Proof.Machine.execFullReplPeriod s
  | .claim h id eui lqi short sight => Sys2Proof.Machine.execClaim h id eui lqi short sight s
  | .verdict h id grant winner => Sys2Proof.Machine.execVerdict h id grant winner s
  | .claimWait => Sys2Proof.Machine.execClaimWait s
  | .drop h eui winner => Sys2Proof.Machine.execDrop h eui winner s
  | .assign r arg => Sys2Proof.Machine.execAssign r arg s
  | .declareDead r arg => Sys2Proof.Machine.execDeclareDead r arg s
  | .wPubkeyWrite r w key => Sys2Proof.Machine.execWPubkeyWrite r w key s
  | .epochCommit => Sys2Proof.Machine.execEpochCommit s
  | .scrubBurst bursts single double failed => Sys2Proof.Machine.execScrubBurst bursts single double failed s
  | .scrubBehind => Sys2Proof.Machine.execScrubBehind s
  | .scrubNow r arg => Sys2Proof.Machine.execScrubNow r arg s
  | .queuePush q d abort => Sys2Proof.Machine.execQueuePush q d abort s
  | .queuePop q => Sys2Proof.Machine.execQueuePop q s
  | .dropRest q => Sys2Proof.Machine.execDropRest q s
  | .queueFault q word lost => Sys2Proof.Machine.execQueueFault q word lost s
  | .queueReopen q => Sys2Proof.Machine.execQueueReopen q s
  | .queueRestore r arg => Sys2Proof.Machine.execQueueRestore r arg s
  | .forwardUplink => Sys2Proof.Machine.execForwardUplink s
  | .forwardDownlink => Sys2Proof.Machine.execForwardDownlink s
  | .exceptionPacket => Sys2Proof.Machine.execExceptionPacket s
  | .learnRetry => Sys2Proof.Machine.execLearnRetry s
  | .learnTimeout => Sys2Proof.Machine.execLearnTimeout s
  | .nodeInsert eui short worker district record => Sys2Proof.Machine.execNodeInsert eui short worker district record s
  | .tableRebuild => Sys2Proof.Machine.execTableRebuild s
  | .sweepVisit visits => Sys2Proof.Machine.execSweepVisit visits s
  | .ageBehind => Sys2Proof.Machine.execAgeBehind s
  | .nodeQuery r arg => Sys2Proof.Machine.execNodeQuery r arg s
  | .nodeRemove r arg => Sys2Proof.Machine.execNodeRemove r arg s
  | .nodeStatic r arg => Sys2Proof.Machine.execNodeStatic r arg s
  | .reasmTimeout => Sys2Proof.Machine.execReasmTimeout s
  | .dao => Sys2Proof.Machine.execDao s
  | .routeExpiry => Sys2Proof.Machine.execRouteExpiry s
  | .dioTrickle => Sys2Proof.Machine.execDioTrickle s
  | .ethernetTransmit prt => Sys2Proof.Machine.execEthernetTransmit prt s
  | .linkDown prt => Sys2Proof.Machine.execLinkDown prt s
  | .linkUp prt speed => Sys2Proof.Machine.execLinkUp prt speed s
  | .gateCommit r prt arg => Sys2Proof.Machine.execGateCommit r prt arg s
  | .gateCancel r prt arg => Sys2Proof.Machine.execGateCancel r prt arg s
  | .gateSwitched prt => Sys2Proof.Machine.execGateSwitched prt s
  | .gateEntryBoundary prt => Sys2Proof.Machine.execGateEntryBoundary prt s
  | .meshShaperTurn => Sys2Proof.Machine.execMeshShaperTurn s
  | .holdExpired => Sys2Proof.Machine.execHoldExpired s
  | .nbQuery r arg => Sys2Proof.Machine.execNbQuery r arg s
  | .imageCommit r arg => Sys2Proof.Machine.execImageCommit r arg s
  | .imageCommitted => Sys2Proof.Machine.execImageCommitted s
  | .imageDelete r arg => Sys2Proof.Machine.execImageDelete r arg s
  | .imageDiscard r arg => Sys2Proof.Machine.execImageDiscard r arg s
  | .cStart r c arg => Sys2Proof.Machine.execCStart r c arg s
  | .cPause r c arg => Sys2Proof.Machine.execCPause r c arg s
  | .cResume r c arg => Sys2Proof.Machine.execCResume r c arg s
  | .cAbort r c arg => Sys2Proof.Machine.execCAbort r c arg s
  | .campaignAssign r arg => Sys2Proof.Machine.execCampaignAssign r arg s
  | .buntingQuery r arg => Sys2Proof.Machine.execBuntingQuery r arg s
  | .blockReq => Sys2Proof.Machine.execBlockReq s
  | .multicastFrameSent => Sys2Proof.Machine.execMulticastFrameSent s
  | .repairAcknowledged => Sys2Proof.Machine.execRepairAcknowledged s
  | .repairAbandoned => Sys2Proof.Machine.execRepairAbandoned s
  | .frameDiscarded => Sys2Proof.Machine.execFrameDiscarded s
  | .imageBlock => Sys2Proof.Machine.execImageBlock s
  | .buntingFramePush c repair => Sys2Proof.Machine.execBuntingFramePush c repair s
  | .roundGapEnd c => Sys2Proof.Machine.execRoundGapEnd c s
  | .targetCheck => Sys2Proof.Machine.execTargetCheck s
  | .campaignStalled c => Sys2Proof.Machine.execCampaignStalled c s
  | .buntingControl => Sys2Proof.Machine.execBuntingControl s
  | .refill => Sys2Proof.Machine.execRefill s
  | .reconciliation samples => Sys2Proof.Machine.execReconciliation samples s
  | .battStale => Sys2Proof.Machine.execBattStale s
  | .sensorSample temps holdup => Sys2Proof.Machine.execSensorSample temps holdup s
  | .cmdDeferMax key => Sys2Proof.Machine.execCmdDeferMax key s
  | .governorCommand => Sys2Proof.Machine.execGovernorCommand s
  | .dutyModeWrite r value => Sys2Proof.Machine.execDutyModeWrite r value s
  | .maintenanceEnter r arg => Sys2Proof.Machine.execMaintenanceEnter r arg s
  | .maintenanceExit r arg => Sys2Proof.Machine.execMaintenanceExit r arg s
  | .sleep r arg => Sys2Proof.Machine.execSleep r arg s
  | .sleepEntry => Sys2Proof.Machine.execSleepEntry s
  | .wakeIn => Sys2Proof.Machine.execWakeIn s
  | .wakeAlarm => Sys2Proof.Machine.execWakeAlarm s
  | .e0LinkEnergy => Sys2Proof.Machine.execE0LinkEnergy s
  | .halyardWindow symbols complements ident => Sys2Proof.Machine.execHalyardWindow symbols complements ident s
  | .powerGood b => Sys2Proof.Machine.execPowerGood b s
  | .powerGoodTimeout => Sys2Proof.Machine.execPowerGoodTimeout s
  | .powerOn testEn => Sys2Proof.Machine.execPowerOn testEn s
  | .brownout overload => Sys2Proof.Machine.execBrownout overload s
  | .powerOff => Sys2Proof.Machine.execPowerOff s
  | .storeClearDone failed => Sys2Proof.Machine.execStoreClearDone failed s
  | .runtimeReady migrationOk => Sys2Proof.Machine.execRuntimeReady migrationOk s
  | .watchdog => Sys2Proof.Machine.execWatchdog s
  | .rootCommit trngOk => Sys2Proof.Machine.execRootCommit trngOk s
  | .provisionCommit r arg => Sys2Proof.Machine.execProvisionCommit r arg s
  | .reset r arg => Sys2Proof.Machine.execReset r arg s
  | .deviceReset => Sys2Proof.Machine.execDeviceReset s
  | .padRelease r arg => Sys2Proof.Machine.execPadRelease r arg s
  | .commit verifyFail homed => Sys2Proof.Machine.execCommit verifyFail homed s
  | .wearMove page powerLost => Sys2Proof.Machine.execWearMove page powerLost s
  | .fwWrite r arg => Sys2Proof.Machine.execFwWrite r arg s
  | .fwWritten sigOk tagsOk digestOk flashBad => Sys2Proof.Machine.execFwWritten sigOk tagsOk digestOk flashBad s
  | .fwDiscard r arg => Sys2Proof.Machine.execFwDiscard r arg s
  | .fwHoist r arg found => Sys2Proof.Machine.execFwHoist r arg found s
  | .hoistActivation ready migrationOk => Sys2Proof.Machine.execHoistActivation ready migrationOk s
  | .fwConfirm r arg => Sys2Proof.Machine.execFwConfirm r arg s
  | .autoConfirm => Sys2Proof.Machine.execAutoConfirm s
  | .fwRevert r arg => Sys2Proof.Machine.execFwRevert r arg s
  | .timerExpiry n => Sys2Proof.Machine.execTimerExpiry n s
  | .timerWrap n => Sys2Proof.Machine.execTimerWrap n s
  | .timerCapture n falling => Sys2Proof.Machine.execTimerCapture n falling s
  | .capLoRead r n captured => Sys2Proof.Machine.execCapLoRead r n captured s
  | .periodWrite r n period => Sys2Proof.Machine.execPeriodWrite r n period s
  | .arm r n arg => Sys2Proof.Machine.execArm r n arg s
  | .stop r n arg => Sys2Proof.Machine.execStop r n arg s
  | .clearFlags r n arg => Sys2Proof.Machine.execClearFlags r n arg s
  | .groupStart r arg => Sys2Proof.Machine.execGroupStart r arg s
  | .groupStop r arg => Sys2Proof.Machine.execGroupStop r arg s
  | .debugHalt begin_ => Sys2Proof.Machine.execDebugHalt begin_ s
  | .eventNotification => Sys2Proof.Machine.execEventNotification s
  | .evtAck r arg => Sys2Proof.Machine.execEvtAck r arg s
  | .errorRecord => Sys2Proof.Machine.execErrorRecord s
  | .errLogClear r arg => Sys2Proof.Machine.execErrLogClear r arg s
  | .unitFault u state check => Sys2Proof.Machine.execUnitFault u state check s
  | .unitRecovered u => Sys2Proof.Machine.execUnitRecovered u s
  | .unitRestore r arg => Sys2Proof.Machine.execUnitRestore r arg s
  | .runtimeFault cause unit_ => Sys2Proof.Machine.execRuntimeFault cause unit_ s
  | .telemWrite => Sys2Proof.Machine.execTelemWrite s
  | .sample => Sys2Proof.Machine.execSample s
  | .telemFreeze r arg => Sys2Proof.Machine.execTelemFreeze r arg s
  | .ethernetReceive prt fcsGood f => Sys2Proof.Machine.execEthernetReceive prt fcsGood f s
  | .portModeWrite r prt autoneg value => Sys2Proof.Machine.execPortModeWrite r prt autoneg value s
  | .routerAdvertisement router pfx => Sys2Proof.Machine.execRouterAdvertisement router pfx s
  | .neighborSolicitation prt arp target => Sys2Proof.Machine.execNeighborSolicitation prt arp target s
  | .muartFrame octets lineError tagOk sigOk => Sys2Proof.Machine.execMuartFrame octets lineError tagOk sigOk s
  | .muartIdleTimeout => Sys2Proof.Machine.execMuartIdleTimeout s
  | .baudWrite r baud => Sys2Proof.Machine.execBaudWrite r baud s
  | .mspiWrite len octets crc tagOk sigOk => Sys2Proof.Machine.execMspiWrite len octets crc tagOk sigOk s
  | .mspiRead clocked => Sys2Proof.Machine.execMspiRead clocked s
  | .mspiStatus command => Sys2Proof.Machine.execMspiStatus command s
  | .vcoreSetWrite r value nacks => Sys2Proof.Machine.execVcoreSetWrite r value nacks s
  | .gpioOutWrite r n high => Sys2Proof.Machine.execGpioOutWrite r n high s
  | .extest => Sys2Proof.Machine.execExtest s
  | .idcode => Sys2Proof.Machine.execIdcode s
  | .settingsMigrationRetry migrationOk => Sys2Proof.Machine.execSettingsMigrationRetry migrationOk s
  | .confirmCommitRetry => Sys2Proof.Machine.execConfirmCommitRetry s
  | .duplicateAddressDetection addr duplicate => Sys2Proof.Machine.execDuplicateAddressDetection addr duplicate s
  | .muartCtsN asserted => Sys2Proof.Machine.execMuartCtsN asserted s
  | .p0DescriptorReturned => Sys2Proof.Machine.execP0DescriptorReturned s

end Sys2Proof.Machine
end

