-- ==== Sys2Proof/Machine/Tick.lean ====
section
/-!
DEFINITION. What the device does of itself while no command waits: a request that has waited is served (R44, R58), else one tick of the
time base passes (R69), with what each tick brings.
-/
namespace Sys2Proof.Machine

/-- One word of the packet that a consumer is reading passes (R255). -/
def readWords (d : Dev) : Dev := { d with queues := d.queues.map (fun x => { x with reading := x.reading - 1 }) }

/-- A held slew whose offset is removed ends (R74). -/
def slewDue (d : Dev) : Dev :=
  match d.clk.slewUntil with | some t => if t ≤ d.clk.up then endSlew d else d | none => d

/-- A tick of a PPS_OUT pulse, which ends with the last (R82). -/
def ppsTick (d : Dev) : Dev :=
  if !d.pps.out then d
  else if d.pps.ticksLeft ≤ 1 then emit { d with pps := { d.pps with out := false, ticksLeft := 0 } } (.ppsOut false)
  else { d with pps := { d.pps with ticksLeft := d.pps.ticksLeft - 1 } }

/-- The clock and all that counts with it move on by one tick (R69, R212, R302, R526). -/
def passTick (d : Dev) : Dev :=
  let n := tickLen d
  tickTb (srcPass ((upTo 24).foldl (timerPass n) (creditPass (slewPass d n) n)) n)

/-- What is done once a tick has passed: words read, frames sent to their end, a slew and a pulse ended, a start and a restore taken further,
pushes owed, what has come due on the bands, packets owed, a new baud rate. -/
def afterTick (p : Perm) (d : Dev) : Dev :=
  applyBaud (pushOwedPackets (spareRest (radioDue (retryOwed (advanceStart p (tryReady (ppsTick (slewDue (finishSend (finishSend (readWords d) 0) 1)))))))))

/-- One tick; without VAON nothing runs (M0, R450). -/
def tick (p : Perm) (d : Dev) : Dev := if d.pwr.mode = .m0 then d else settle p (afterTick p (passTick d))

/-- The device of itself (log 40). -/
def idle (p : Perm) (m : Memory) (d : Dev) : Dev := if requestReady d then settle p (runWaiting p m d) else tick p d

end Sys2Proof.Machine
end

