-- ==== Sys2Proof/Machine/Step.lean ====
section
/-!
DEFINITION. One step: the command at the front of the queue, or what the device does of itself.
-/
namespace Sys2Proof.Machine

/-- The command at the front of the queue is carried out with the rest of the queue behind it; on an empty queue the device goes on of
itself (log 40). -/
def step (s : State) : Host.Outcome State Fault Refusal :=
  match s.pending with
  | c :: t => exec c { s with pending := t }
  | [] => .next { s with d := idle s.perm s.mem s.d }

/-- The table gives its rows no bits (opcode_table.json): no word spells a command, and nothing is put in front of the queue. -/
def State.withFetchWord (s : State) (nbits w : Nat) : State :=
  match decodeTableWord nbits w with
  | some c => { s with pending := c :: s.pending }
  | none => s

end Sys2Proof.Machine
end

