-- ==== Sys2Proof/Safety.lean ====
section
/-!
DEFINITION. What counts as a sound state and a safe run, in the terms the statements use.
-/
namespace Sys2Proof

open Machine

/-- What provisioning fixes stays legal (R25, R487): a provisioned device holds a root secret, its debug access port is locked, and its role
and ID are those that check 2 of R487 permits. -/
def permOk (p : Perm) : Bool :=
  !p.provisioned || (p.root && p.debugLocked && roleLegal p.role p.workerId)

/-- A step that goes on: neither a fault nor a refusal. -/
def goesOn (o : Host.Outcome State Fault Refusal) : Bool := match o with | .next _ => true | _ => false

/-- The state that a step answers, where it goes on. -/
def nextOf (o : Host.Outcome State Fault Refusal) : Option State := match o with | .next t => some t | _ => none

/-- The device as a session's request finds it: the session's idle time begins anew (R42). -/
def heard (d : Dev) (r : Req) : Dev := updSession d r.session (fun y => { y with lastReq := d.clk.up })

/-- A request is executed at once: its PDU is for the device and sound (R35, R38), its session is open on its transport, its AUTH flag is that
of the session and its tag, where it has one, verifies (R37); the SEQ is new and above those executed (R43); and no earlier request of the
session waits (R44, R58). -/
def takesUp (d : Dev) (r : Req) : Bool :=
  arrives d r.head && headGood r.head && !requestsWait d r.session &&
    (match sessionOn d r.head.via r.session with
     | none => false
     | some x => authFits x r && (!x.auth || tagOk x r) && (keptOf x r.seq).isNone && !seqStale x r.seq)

/-- The privilege level of a request's session (R39). -/
def levelOf (d : Dev) (r : Req) : Nat := match session d r.session with | none => 0 | some x => x.level

/-- An EXEC request passes the checks of R610 that come before the command's own: the entry, the access, the level, the mode, and no
earlier run of the same command. -/
def accepts (d : Dev) (r : Req) (key : Nat) : Bool := takesUp d r && (execCheck d (levelOf d r) key = .ok)

/-- A WRITE of one item passes the checks of R610 and, for an RP entry, the commit of R48; `nacks` as in VCORE_SET_WRITE. -/
def writes (p : Perm) (d : Dev) (r : Req) (nacks : Nat) (w : WItem) : Bool :=
  takesUp d r && ((writeOne p (levelOf d r) nacks (heard d r) w).2 = .ok)

/-- What an entry's class keeps under a key (R30): RP entries in the persistent store, RW and WO entries apart from it. -/
def kept (d : Dev) (key : Nat) : Option Val :=
  match entryOf key with
  | some e => if e.acc = .rp then dictGet key d.nv.rp else dictGet key d.rw
  | none => none

/-- The value that a WRITE item carries, in the type of the entry it names (R29). -/
def carried (w : WItem) : Option Val := (findEntry w.idx w.sub).map (fun e => itemVal e w)

/-- The response that a request's session keeps for it (R43): STATUS and body. -/
def replyOf (d : Dev) (r : Req) : Option (Status × Body) :=
  (session d r.session).bind (fun x => (keptOf x r.seq).map (fun k => k.2))

/-- The last record of an event (R539, R558): COUNT, LAST_TIME, LAST_DATA. -/
def evRec (d : Dev) (e : Nat) : EvRec := nth d.ev.recs e {}

/-- The event is pending, and DATA of its last raise is `x`. -/
def raised (d : Dev) (e x : Nat) : Prop := d.ev.pending.testBit e = true ∧ (evRec d e).lastData = x

/-- A link message of `peer` is taken up (R369): QDL is served, the message came to the link's port on an open link of it that is up, its tag
verifies, its SEQ is above the last, its identifier is new, and no earlier messages wait (R371). -/
def hlTakes (d : Dev) (h : HlHead) (peer : Nat) (m : HlMsg) : Bool :=
  hlArrives d h.port && (seenBefore d peer m).isNone && (!hlWaits d || relayed m) &&
    (match linkFor d h with
     | some l => decide (l.peer = peer) && l.up && decide (l.rxSeq < h.seq)
     | none => false)

/-- The header of a row that is a message on an open link (R369, R370). -/
def linkHead (c : Instr) : Option HlHead :=
  match c with
  | .hlClose h _ => some h | .heartbeat h _ _ _ _ _ _ _ _ => some h | .hbAck h _ _ _ _ _ _ => some h | .peerProbe h _ => some h
  | .peerAnswer h _ _ => some h | .witnessReq h _ _ => some h | .witnessRsp h _ _ _ _ => some h | .takeover h _ _ _ _ _ => some h
  | .replDistrict h _ _ _ _ _ _ _ _ => some h | .replNodes h _ => some h | .replGone h _ => some h | .restoreEnd h _ _ => some h
  | .ready h _ _ => some h | .peers h _ => some h | .keyMsg h _ _ => some h | .keyResult h _ _ => some h | .deltaPart h _ _ _ _ => some h
  | .deltaResult h _ _ _ _ => some h | .report h _ _ _ _ _ _ => some h | .claim h _ _ _ _ _ => some h | .verdict h _ _ _ => some h
  | .drop h _ _ => some h | .relayReq h _ _ _ => some h | .relayRsp h _ _ _ => some h
  | _ => none

/-- The pointers of a circular queue agree with its packets (R257): empty where they are equal, full where they differ by N modulo 2N. -/
def ptrOk (q : Nat) (x : Queue) : Bool :=
  !circular q || (x.fill.isEmpty && decide (x.drain.length ≤ slotsOf q) && decide (x.rd < 2 * slotsOf q)
    && decide (x.wr = (x.rd + x.drain.length) % (2 * slotsOf q)))

/-- The commands that may write the store (R238, R401, R554). -/
def writesStore (c : Instr) : Bool := match c with | .storeClearDone _ => true | .imageCommitted => true | .telemWrite => true | _ => false

/-- The commands that may change what provisioning fixes (R486, R487): ROOT_COMMIT, PROVISION_COMMIT, and octets on a serial transport, which
may carry a PROVISION_COMMIT. -/
def mayProvision (c : Instr) : Bool :=
  match c with | .rootCommit _ => true | .provisionCommit _ _ => true | .muartFrame _ _ _ _ => true | .mspiWrite _ _ _ _ _ => true | _ => false

/-! ## Frames: which parts of the device a command may change -/

/-- The parts of the device, as frames name them: those of `Dev`, with DOMAINS_ON (R459), MESH_OK_N (R456), SLEW_ACTIVE (R212), the credits
(R302, R314) and the timers' counts with what their ticks bring (R527, R528), which move with other commands, apart from the part that holds them. -/
inductive Part where
  | domains | meshOk | slew | credits | counts | cnt | rw | clk | ptp | pps | pwr | start | nv | ev | err | tel | store | queues | timers | halted | bandSf | bandG | lanes | gov | sched | nbr | fwd | shp | bunting | fw | can | hier | qdl | gpio | ifs | free | out
  deriving DecidableEq, Repr

/-- A part is the same in two devices. -/
def Part.same (p : Part) (a b : Dev) : Prop :=
  match p with
  | .domains => a.pwr.domains = b.pwr.domains
  | .meshOk => a.pwr.meshOk = b.pwr.meshOk
  | .slew => a.nbr.slewActive = b.nbr.slewActive ∧ a.nbr.slewPart = b.nbr.slewPart
  | .credits => a.shp.credits = b.shp.credits ∧ a.shp.ledger = b.shp.ledger
  | .counts => a.timers.map (fun t => (t.count, t.run, t.expired, t.expiries, t.deferred)) = b.timers.map (fun t => (t.count, t.run, t.expired, t.expiries, t.deferred)) ∧
    a.tmSrc = b.tmSrc
  | .cnt => a.cnt = b.cnt
  | .rw => a.rw = b.rw
  | .clk => a.clk = b.clk
  | .ptp => a.ptp = b.ptp
  | .pps => a.pps = b.pps
  | .pwr => { a.pwr with domains := 0, meshOk := false } = { b.pwr with domains := 0, meshOk := false }
  | .start => a.start = b.start
  | .nv => a.nv = b.nv
  | .ev => a.ev = b.ev
  | .err => a.err = b.err
  | .tel => a.tel = b.tel
  | .store => a.store = b.store
  | .queues => a.queues = b.queues
  | .timers => a.timers.map (fun t => (t.capture, t.capNew, t.overrun, t.wrap)) = b.timers.map (fun t => (t.capture, t.capNew, t.overrun, t.wrap))
  | .halted => a.halted = b.halted
  | .bandSf => a.bandSf = b.bandSf
  | .bandG => a.bandG = b.bandG
  | .lanes => a.lanes = b.lanes
  | .gov => a.gov = b.gov
  | .sched => a.sched = b.sched
  | .nbr => { a.nbr with slewActive := 0, slewPart := 0 } = { b.nbr with slewActive := 0, slewPart := 0 }
  | .fwd => a.fwd = b.fwd
  | .shp => { a.shp with credits := [], ledger := [] } = { b.shp with credits := [], ledger := [] }
  | .bunting => a.bunting = b.bunting
  | .fw => a.fw = b.fw
  | .can => a.can = b.can
  | .hier => a.hier = b.hier
  | .qdl => a.qdl = b.qdl
  | .gpio => a.gpio = b.gpio
  | .ifs => a.ifs = b.ifs
  | .free => a.free = b.free
  | .out => a.out = b.out

/-- Every part outside `l` is the same in both devices. -/
def keepsBut (l : List Part) (a b : Dev) : Prop := ∀ p, p ∉ l → p.same a b

/-- Every part: the frame of a start, of a reset, and of a request that the command itself names only by its octets or by any entry. -/
def anyPart : List Part :=
  [.domains, .meshOk, .slew, .credits, .counts, .cnt, .rw, .clk, .ptp, .pps, .pwr, .start, .nv, .ev, .err, .tel, .store, .queues, .timers, .halted, .bandSf, .bandG, .lanes, .gov, .sched, .nbr, .fwd, .shp, .bunting, .fw, .can, .hier, .qdl, .gpio, .ifs, .free, .out]

/-- The parts that a command may change: those its rules name, the counters and events that follow, a queue that a notice enters with the
power of its consumer (R24), and, for a request, its session and its answer. -/
def touches (c : Instr) : List Part :=
  match c with
  | .entryWrite .. | .credEnableWrite .. | .tbSourceWrite .. | .sfSuspendWrite .. | .tamper .. | .relayReq .. | .hierarchyControl ..
  | .wPubkeyWrite .. | .scrubBurst .. | .sensorSample .. | .dutyModeWrite .. | .wakeIn .. | .wakeAlarm .. | .e0LinkEnergy ..
  | .halyardWindow .. | .powerOn .. | .brownout .. | .powerOff .. | .runtimeReady .. | .watchdog .. | .deviceReset .. | .periodWrite ..
  | .runtimeFault .. | .portModeWrite .. | .muartFrame .. | .baudWrite .. | .mspiWrite .. | .vcoreSetWrite .. | .gpioOutWrite ..
  | .idcode .. | .settingsMigrationRetry .. => anyPart
  | .loRead .. | .hiRead .. | .capLoRead .. => [.domains, .meshOk, .counts, .cnt, .ev, .queues, .timers, .hier, .qdl, .ifs, .out]
  | .bulkWrite .. | .closeAll .. | .pennantQuery .. | .deltaDiscard .. | .cellQuery .. | .secQuery .. | .nodeQuery .. | .nbQuery ..
  | .imageDiscard .. | .buntingQuery .. | .fwDiscard .. => [.domains, .cnt, .queues, .qdl, .ifs, .out]
  | .subscribe .. => [.domains, .cnt, .ev, .queues, .qdl, .ifs, .free, .out]
  | .notify .. => [.slew, .credits, .counts, .clk, .ev, .queues, .qdl, .ifs, .out]
  | .hello .. => [.cnt, .qdl, .ifs, .free, .out]
  | .proof .. | .close .. => [.cnt, .qdl, .ifs, .out]
  | .proofTimeout .. => [.slew, .credits, .counts, .cnt, .clk, .qdl]
  | .credentialRefusalEnd .. | .sessionIdleTimeout .. => [.slew, .credits, .counts, .clk, .qdl]
  | .relay .. | .takeoverCommand .. | .assign .. => [.domains, .cnt, .queues, .hier, .qdl, .ifs, .out]
  | .relayTimeout .. => [.domains, .slew, .credits, .counts, .cnt, .clk, .ev, .queues, .gov, .bunting, .hier, .qdl, .ifs, .out]
  | .refLost .. => [.domains, .meshOk, .slew, .credits, .counts, .cnt, .clk, .pwr, .ev, .store, .queues, .bandSf, .bandG, .lanes, .sched, .nbr, .free]
  | .refRestored .. => [.domains, .slew, .credits, .counts, .cnt, .clk, .ev, .queues, .bandSf, .bandG, .lanes, .shp]
  | .refRelockTimeout .. =>
    [.domains, .meshOk, .slew, .credits, .counts, .cnt, .clk, .pwr, .start, .ev, .store, .queues, .bandSf, .bandG, .lanes, .gov, .sched, .fw, .qdl, .free]
  | .slowCalibration .. | .phaseSlewEnd .. | .gateEntryBoundary .. => [.slew, .credits, .counts, .clk]
  | .step .. => [.domains, .credits, .cnt, .clk, .ev, .queues, .shp, .qdl, .ifs, .out]
  | .sync .. | .followUp .. => [.domains, .credits, .cnt, .clk, .ptp, .ev, .queues, .shp, .free]
  | .delayReq .. | .neighborSolicitation .. => [.out]
  | .delayResp .. => [.ptp]
  | .announce .. => [.domains, .cnt, .ptp, .ev, .queues]
  | .ptpDiscard .. | .hlMessageDiscard .. => [.cnt]
  | .ptpInterval .. => [.slew, .credits, .counts, .clk, .ptp, .out]
  | .sourceTimeout .. | .gateSwitched .. => [.domains, .slew, .credits, .counts, .cnt, .clk, .ev, .queues, .shp]
  | .ppsInEdge .. => [.domains, .credits, .cnt, .clk, .pps, .ev, .queues, .shp, .gpio, .free]
  | .ppsInMissing .. => [.domains, .slew, .credits, .counts, .cnt, .clk, .pps, .ev, .queues]
  | .ppsOutStart .. | .ppsOutEnd .. => [.slew, .credits, .counts, .clk, .pps, .out]
  | .alignExceeded .. | .timerExpiry .. => [.domains, .slew, .credits, .counts, .cnt, .clk, .ev, .queues]
  | .calibrate .. | .clearInhibit .. =>
    [.domains, .meshOk, .cnt, .pwr, .ev, .store, .queues, .bandSf, .bandG, .lanes, .gov, .sched, .qdl, .ifs, .free, .out]
  | .calDone .. => [.domains, .meshOk, .cnt, .pwr, .ev, .store, .queues, .bandSf, .bandG, .lanes, .gov, .sched, .qdl, .free]
  | .calAbandoned .. => [.domains, .slew, .credits, .counts, .cnt, .clk, .ev, .queues, .bandSf, .bandG]
  | .maskViolation .. => [.domains, .meshOk, .slew, .cnt, .pwr, .ev, .store, .queues, .bandSf, .bandG, .lanes, .gov, .sched, .nbr, .qdl, .free]
  | .slotPreparation .. =>
    [.domains, .meshOk, .slew, .credits, .counts, .cnt, .clk, .pwr, .nv, .ev, .store, .queues, .bandSf, .bandG, .lanes, .gov, .sched, .nbr, .fwd, .shp, .bunting, .can, .hier, .free]
  | .slotStart .. =>
    [.domains, .meshOk, .slew, .credits, .counts, .cnt, .clk, .pwr, .ev, .store, .queues, .bandSf, .bandG, .lanes, .gov, .sched, .nbr, .hier, .qdl, .free, .out]
  | .windowOpen .. | .windowClose .. | .ackWindowClose .. =>
    [.domains, .meshOk, .slew, .credits, .counts, .cnt, .clk, .pwr, .ev, .store, .queues, .bandSf, .bandG, .lanes, .sched, .nbr, .hier, .free]
  | .cellTransmit .. =>
    [.domains, .meshOk, .slew, .credits, .counts, .cnt, .clk, .pwr, .nv, .ev, .err, .store, .queues, .bandSf, .bandG, .lanes, .sched, .nbr, .can, .hier, .free, .out]
  | .ackTransmit .. =>
    [.domains, .meshOk, .slew, .credits, .counts, .cnt, .clk, .pwr, .ev, .store, .queues, .bandSf, .bandG, .lanes, .sched, .nbr, .can, .hier, .free, .out]
  | .preambleAcquired .. => [.lanes]
  | .correlatorHandover .. => [.cnt, .lanes]
  | .rehome .. | .sfdFound .. | .capture .. => [.domains, .cnt, .ev, .store, .queues, .lanes, .free]
  | .preambleTimeout .. => [.domains, .slew, .credits, .counts, .cnt, .clk, .ev, .queues, .lanes]
  | .phrReceived .. | .lastPsduChip .. => [.domains, .cnt, .ev, .store, .queues, .lanes]
  | .laneFault .. | .laneRecovered .. => [.domains, .cnt, .ev, .err, .store, .queues, .lanes, .free]
  | .laneRestore .. => [.domains, .cnt, .ev, .queues, .lanes, .qdl, .ifs, .out]
  | .rxVerify .. | .keyRequest .. => [.domains, .slew, .cnt, .ev, .err, .store, .queues, .nbr, .can]
  | .frameJudgement .. => [.domains, .meshOk, .slew, .cnt, .ev, .err, .store, .queues, .sched, .nbr, .hier, .free]
  | .hitMark .. => [.slew, .nbr, .fwd]
  | .adriftCheck .. => [.domains, .slew, .credits, .counts, .cnt, .clk, .ev, .queues, .nbr]
  | .txHoldCheck .. => [.domains, .slew, .credits, .counts, .cnt, .clk, .ev, .store, .queues, .nbr]
  | .joinReq .. => [.domains, .slew, .cnt, .ev, .err, .store, .queues, .nbr, .fwd, .can, .hier, .free, .out]
  | .joinTimeout .. | .sweepVisit .. => [.domains, .slew, .credits, .counts, .cnt, .clk, .ev, .store, .queues, .nbr, .fwd, .shp, .bunting, .can]
  | .rxNotOkRecord .. | .errorRecord .. => [.domains, .cnt, .ev, .err, .tel, .store, .queues]
  | .pennantReset .. => [.domains, .slew, .cnt, .queues, .nbr, .qdl, .ifs, .out]
  | .halyardSend .. => [.domains, .meshOk, .slew, .cnt, .pwr, .ev, .store, .queues, .bandSf, .bandG, .lanes, .gov, .nbr, .qdl, .ifs, .free, .out]
  | .halyardSent .. => [.domains, .slew, .credits, .counts, .cnt, .clk, .ev, .queues, .bandSf, .bandG, .gov, .nbr, .qdl]
  | .timedTransmit .. | .downlinkFrame .. | .securedDownlink .. | .imageBlock .. => [.domains, .slew, .cnt, .ev, .err, .store, .queues, .nbr]
  | .secureFrame .. => [.domains, .slew, .cnt, .nv, .ev, .err, .store, .queues, .nbr, .can, .free]
  | .deltaSubmit .. => [.domains, .meshOk, .cnt, .ev, .err, .store, .queues, .sched, .hier, .qdl, .ifs, .free, .out]
  | .deltaCheck .. => [.domains, .meshOk, .cnt, .ev, .err, .store, .queues, .sched, .hier, .out]
  | .pinExpiry .. => [.slew, .credits, .counts, .clk, .can]
  | .install .. | .invalidate .. | .tamperClear .. | .setAuthority .. =>
    [.domains, .meshOk, .slew, .cnt, .start, .nv, .ev, .store, .queues, .nbr, .can, .qdl, .ifs, .free, .out]
  | .keyExport .. => [.domains, .cnt, .nv, .ev, .queues, .can, .qdl, .ifs, .free, .out]
  | .keyReplaceCompat .. => [.domains, .meshOk, .slew, .cnt, .nv, .ev, .store, .queues, .nbr, .can, .qdl, .ifs, .free, .out]
  | .forceRejoin .. => [.domains, .slew, .cnt, .ev, .store, .queues, .nbr, .can, .qdl, .ifs, .out]
  | .rejoinRequiredSweep .. => [.domains, .slew, .cnt, .ev, .store, .queues, .nbr, .can]
  | .tamperFlagCommit .. | .groupFcMarkCommit .. | .groupOverlapEnd .. => [.slew, .credits, .counts, .cnt, .clk, .nv, .can, .free]
  | .heartbeatSend .. | .takeoverStart .. | .epochCommit .. =>
    [.domains, .slew, .credits, .counts, .cnt, .clk, .nv, .ev, .queues, .can, .hier, .free, .out]
  | .openMsg .. => [.domains, .cnt, .ev, .queues, .hier, .free, .out]
  | .openAck .. => [.domains, .cnt, .ev, .queues, .hier, .out]
  | .hlClose .. | .hbAck .. | .peerProbe .. | .peerAnswer .. | .witnessRsp .. | .restoreEnd .. | .peers .. | .keyResult ..
  | .deltaResult .. | .report .. => [.domains, .cnt, .ev, .store, .queues, .hier, .free, .out]
  | .requestRepeat .. => [.slew, .credits, .counts, .clk, .hier, .free, .out]
  | .hlLinkDown .. => [.domains, .slew, .credits, .counts, .cnt, .clk, .ev, .queues, .hier, .free, .out]
  | .heartbeat .. | .witnessReq .. => [.domains, .meshOk, .cnt, .pwr, .ev, .store, .queues, .bandSf, .bandG, .lanes, .sched, .hier, .free, .out]
  | .leaseExpired .. | .autonomyEnd .. =>
    [.domains, .meshOk, .slew, .credits, .counts, .cnt, .clk, .pwr, .ev, .store, .queues, .bandSf, .bandG, .lanes, .gov, .sched, .nbr, .hier, .qdl, .free]
  | .heartbeatMissLimit .. | .replInterval .. => [.slew, .credits, .counts, .clk, .hier, .out]
  | .peerProbeTimeout .. =>
    [.domains, .meshOk, .slew, .credits, .counts, .cnt, .clk, .pwr, .ev, .store, .queues, .bandSf, .bandG, .lanes, .sched, .hier, .free]
  | .takeover .. =>
    [.domains, .meshOk, .slew, .credits, .cnt, .pwr, .ev, .store, .queues, .bandSf, .bandG, .lanes, .gov, .sched, .nbr, .fwd, .shp, .bunting, .can, .hier, .qdl, .free, .out]
  | .replDistrict .. => [.domains, .cnt, .nv, .ev, .store, .queues, .sched, .can, .hier, .free, .out]
  | .replNodes .. => [.domains, .slew, .cnt, .ev, .store, .queues, .nbr, .fwd, .hier, .free, .out]
  | .replGone .. | .drop .. => [.domains, .slew, .credits, .cnt, .ev, .store, .queues, .nbr, .fwd, .shp, .bunting, .can, .hier, .free, .out]
  | .ready .. => [.domains, .cnt, .ev, .store, .queues, .gov, .hier, .qdl, .free, .out]
  | .keyMsg .. => [.domains, .meshOk, .slew, .cnt, .start, .nv, .ev, .store, .queues, .nbr, .can, .hier, .free, .out]
  | .deltaPart .. => [.domains, .cnt, .ev, .store, .queues, .sched, .hier, .free, .out]
  | .relayRsp .. => [.domains, .cnt, .ev, .store, .queues, .gov, .bunting, .hier, .qdl, .ifs, .free, .out]
  | .fullReplPeriod .. => [.slew, .credits, .counts, .clk, .hier]
  | .claim .. => [.domains, .cnt, .ev, .store, .queues, .fwd, .hier, .free, .out]
  | .verdict .. => [.domains, .slew, .cnt, .ev, .store, .queues, .nbr, .fwd, .can, .hier, .free, .out]
  | .claimWait .. => [.domains, .slew, .credits, .counts, .cnt, .clk, .ev, .store, .queues, .nbr, .fwd, .can, .hier, .free]
  | .declareDead .. => [.domains, .cnt, .ev, .queues, .hier, .qdl, .ifs, .out]
  | .scrubBehind .. => [.domains, .slew, .credits, .counts, .cnt, .clk, .ev, .store, .queues]
  | .scrubNow .. => [.domains, .cnt, .store, .queues, .qdl, .ifs, .out]
  | .queuePush .. => [.domains, .cnt, .ev, .store, .queues, .can]
  | .queuePop .. | .queueFault .. | .queueReopen .. | .buntingControl .. | .unitRecovered .. | .p0DescriptorReturned .. =>
    [.domains, .cnt, .ev, .err, .store, .queues]
  | .dropRest .. => [.queues]
  | .queueRestore .. => [.domains, .cnt, .ev, .err, .store, .queues, .qdl, .ifs, .out]
  | .forwardUplink .. | .forwardDownlink .. | .exceptionPacket .. | .dao .. => [.domains, .slew, .cnt, .ev, .err, .store, .queues, .nbr, .fwd, .free]
  | .learnRetry .. => [.domains, .queues, .fwd]
  | .learnTimeout .. => [.slew, .credits, .counts, .cnt, .clk, .fwd]
  | .nodeInsert .. | .tableRebuild .. => [.domains, .cnt, .ev, .queues, .fwd]
  | .ageBehind .. => [.domains, .slew, .credits, .counts, .cnt, .clk, .ev, .queues, .fwd]
  | .nodeRemove .. => [.domains, .slew, .credits, .cnt, .ev, .store, .queues, .nbr, .fwd, .shp, .bunting, .can, .qdl, .ifs, .out]
  | .nodeStatic .. => [.domains, .cnt, .queues, .fwd, .qdl, .ifs, .out]
  | .reasmTimeout .. => [.domains, .slew, .credits, .counts, .cnt, .clk, .ev, .store, .queues, .fwd]
  | .routeExpiry .. => [.slew, .credits, .counts, .clk, .fwd]
  | .dioTrickle .. => [.domains, .slew, .credits, .counts, .cnt, .clk, .ev, .store, .queues, .fwd, .free]
  | .ethernetTransmit .. => [.domains, .slew, .credits, .counts, .cnt, .clk, .ev, .err, .store, .queues, .shp, .out]
  | .linkDown .. => [.domains, .credits, .cnt, .ev, .store, .queues, .shp, .ifs]
  | .linkUp .. => [.credits, .cnt, .shp, .ifs, .out]
  | .gateCommit .. => [.domains, .credits, .cnt, .rw, .nv, .ev, .queues, .shp, .qdl, .ifs, .free, .out]
  | .gateCancel .. => [.domains, .credits, .cnt, .queues, .shp, .qdl, .ifs, .out]
  | .meshShaperTurn .. => [.domains, .credits, .cnt, .ev, .err, .store, .queues, .shp]
  | .holdExpired .. => [.domains, .slew, .credits, .counts, .cnt, .clk, .ev, .store, .queues, .shp]
  | .imageCommit .. => [.domains, .cnt, .queues, .gov, .bunting, .qdl, .ifs, .out]
  | .imageCommitted .. => [.domains, .cnt, .ev, .store, .queues, .gov, .bunting, .qdl]
  | .imageDelete .. => [.domains, .cnt, .queues, .bunting, .qdl, .ifs, .out]
  | .cStart .. => [.domains, .slew, .cnt, .ev, .queues, .nbr, .bunting, .qdl, .ifs, .out]
  | .cPause .. | .cResume .. | .cAbort .. => [.domains, .cnt, .ev, .queues, .bunting, .qdl, .ifs, .out]
  | .campaignAssign .. => [.domains, .cnt, .ev, .queues, .gov, .bunting, .hier, .qdl, .ifs, .out]
  | .blockReq .. => [.domains, .slew, .cnt, .ev, .err, .store, .queues, .nbr, .bunting]
  | .multicastFrameSent .. | .repairAcknowledged .. | .repairAbandoned .. | .frameDiscarded .. =>
    [.domains, .cnt, .ev, .err, .store, .queues, .bunting]
  | .buntingFramePush .. => [.domains, .slew, .cnt, .ev, .store, .queues, .nbr, .bunting, .free]
  | .roundGapEnd .. | .campaignStalled .. => [.domains, .slew, .credits, .counts, .cnt, .clk, .ev, .queues, .bunting]
  | .targetCheck .. => [.domains, .slew, .credits, .counts, .cnt, .clk, .ev, .queues, .nbr, .bunting]
  | .refill .. => [.domains, .meshOk, .slew, .credits, .counts, .cnt, .clk, .pwr, .ev, .store, .queues, .bandSf, .bandG, .lanes, .gov, .sched, .free]
  | .reconciliation .. => [.slew, .credits, .counts, .clk, .gov]
  | .battStale .. => [.domains, .slew, .credits, .counts, .cnt, .clk, .ev, .queues, .gov]
  | .cmdDeferMax .. =>
    [.domains, .slew, .credits, .counts, .cnt, .clk, .nv, .ev, .store, .queues, .bandSf, .bandG, .gov, .nbr, .bunting, .fw, .qdl, .free]
  | .governorCommand .. => [.domains, .cnt, .ev, .err, .store, .queues, .gov]
  | .maintenanceEnter .. | .maintenanceExit .. =>
    [.domains, .meshOk, .slew, .cnt, .pwr, .ev, .store, .queues, .bandSf, .bandG, .lanes, .gov, .sched, .nbr, .qdl, .ifs, .free, .out]
  | .sleep .. => [.domains, .meshOk, .cnt, .pwr, .queues, .qdl, .ifs, .out]
  | .sleepEntry .. =>
    [.domains, .meshOk, .slew, .credits, .counts, .cnt, .clk, .pps, .pwr, .start, .ev, .store, .queues, .bandSf, .bandG, .lanes, .sched, .shp, .can, .qdl, .gpio, .ifs, .free, .out]
  | .powerGood .. =>
    [.domains, .meshOk, .slew, .credits, .counts, .cnt, .clk, .pwr, .start, .nv, .ev, .store, .queues, .bandSf, .bandG, .lanes, .gov, .sched, .fw, .can, .qdl, .free, .out]
  | .powerGoodTimeout .. => [.domains, .meshOk, .slew, .credits, .counts, .cnt, .clk, .pwr, .start, .ev, .queues, .out]
  | .storeClearDone .. =>
    [.domains, .meshOk, .credits, .cnt, .rw, .pwr, .start, .nv, .ev, .store, .queues, .bandSf, .bandG, .lanes, .gov, .sched, .fwd, .shp, .fw, .hier, .qdl, .ifs, .free, .out]
  | .rootCommit .. =>
    [.domains, .meshOk, .slew, .credits, .counts, .cnt, .clk, .pwr, .start, .nv, .ev, .store, .queues, .bandSf, .bandG, .lanes, .gov, .sched, .fw, .can, .qdl, .free]
  | .provisionCommit .. => [.domains, .cnt, .start, .nv, .queues, .qdl, .ifs, .free, .out]
  | .reset .. => [.domains, .cnt, .start, .queues, .qdl, .ifs, .out]
  | .padRelease .. => [.domains, .meshOk, .cnt, .pwr, .ev, .queues, .qdl, .ifs, .out]
  | .commit .. | .wearMove .. => [.cnt, .nv, .free]
  | .fwWrite .. => [.domains, .cnt, .nv, .ev, .queues, .gov, .fw, .qdl, .ifs, .free, .out]
  | .fwWritten .. => [.domains, .cnt, .nv, .ev, .queues, .gov, .fw, .qdl, .free]
  | .fwHoist .. | .fwRevert .. => [.domains, .meshOk, .cnt, .pwr, .start, .nv, .ev, .queues, .gov, .fw, .qdl, .ifs, .free, .out]
  | .hoistActivation .. =>
    [.domains, .meshOk, .slew, .credits, .counts, .cnt, .clk, .pwr, .nv, .ev, .store, .queues, .bandSf, .bandG, .lanes, .gov, .sched, .fw, .qdl, .free]
  | .fwConfirm .. => [.domains, .cnt, .nv, .ev, .queues, .fw, .can, .qdl, .ifs, .free, .out]
  | .autoConfirm .. | .confirmCommitRetry .. => [.domains, .slew, .credits, .counts, .cnt, .clk, .nv, .ev, .queues, .fw, .can, .free]
  | .timerWrap .. => [.domains, .slew, .credits, .counts, .cnt, .clk, .ev, .queues, .timers]
  | .timerCapture .. => [.domains, .counts, .cnt, .ev, .queues, .timers, .gpio]
  | .arm .. | .stop .. | .groupStop .. => [.domains, .counts, .cnt, .queues, .qdl, .ifs, .out]
  | .clearFlags .. => [.domains, .counts, .cnt, .queues, .timers, .qdl, .ifs, .out]
  | .groupStart .. => [.domains, .counts, .cnt, .rw, .ev, .queues, .qdl, .ifs, .out]
  | .debugHalt .. => [.halted]
  | .eventNotification .. => [.domains, .cnt, .ev, .err, .tel, .store, .queues, .qdl, .ifs, .out]
  | .evtAck .. => [.domains, .cnt, .ev, .queues, .qdl, .ifs, .out]
  | .errLogClear .. => [.domains, .cnt, .err, .queues, .qdl, .ifs, .out]
  | .unitFault .. => [.domains, .slew, .cnt, .ev, .err, .store, .queues, .nbr, .fwd]
  | .unitRestore .. => [.domains, .cnt, .ev, .err, .queues, .qdl, .ifs, .out]
  | .telemWrite .. => [.cnt, .tel, .store, .free]
  | .sample .. => [.domains, .slew, .credits, .counts, .cnt, .clk, .ev, .tel, .queues]
  | .telemFreeze .. => [.domains, .cnt, .tel, .queues, .qdl, .ifs, .out]
  | .ethernetReceive .. => [.domains, .cnt, .ev, .store, .queues, .free]
  | .routerAdvertisement .. | .mspiRead .. | .muartCtsN .. => [.ifs, .out]
  | .muartIdleTimeout .. => [.slew, .credits, .counts, .clk, .ifs]
  | .mspiStatus .. => [.cnt, .out]
  | .extest .. => [.domains, .meshOk, .slew, .cnt, .pwr, .ev, .store, .queues, .bandSf, .bandG, .lanes, .sched, .nbr, .ifs, .free]
  | .duplicateAddressDetection .. => [.cnt, .ifs]

/-- The chapter of the spec whose rule gives a command. -/
def chapterOf (c : Instr) : Nat :=
  match c with
  | .slotPreparation .. | .downlinkFrame .. => 1
  | .entryWrite .. | .loRead .. | .hiRead .. | .bulkWrite .. | .subscribe .. | .notify .. | .hello .. | .proof .. | .proofTimeout ..
  | .credentialRefusalEnd .. | .close .. | .sessionIdleTimeout .. | .relay .. | .relayTimeout .. | .closeAll .. | .credEnableWrite ..
  | .relayRsp .. => 2
  | .refLost .. | .refRestored .. | .refRelockTimeout .. | .slowCalibration .. | .phaseSlewEnd .. | .step .. | .tbSourceWrite .. | .sync ..
  | .followUp .. | .delayReq .. | .delayResp .. | .announce .. | .ptpDiscard .. | .ptpInterval .. | .sourceTimeout .. | .ppsInEdge ..
  | .ppsInMissing .. | .ppsOutStart .. | .ppsOutEnd .. | .alignExceeded .. | .slotStart .. => 3
  | .calibrate .. | .calDone .. | .calAbandoned .. | .maskViolation .. | .clearInhibit .. => 4
  | .windowClose .. | .preambleAcquired .. | .correlatorHandover .. | .rehome .. | .sfdFound .. | .preambleTimeout .. | .phrReceived ..
  | .capture .. | .lastPsduChip .. | .laneFault .. | .laneRecovered .. | .laneRestore .. => 5
  | .windowOpen .. | .cellTransmit .. | .ackTransmit .. | .ackWindowClose .. | .timedTransmit .. | .deltaSubmit .. | .deltaDiscard ..
  | .deltaCheck .. | .cellQuery .. | .sfSuspendWrite .. | .p0DescriptorReturned .. => 6
  | .frameJudgement .. | .adriftCheck .. | .txHoldCheck .. | .joinReq .. | .joinTimeout .. | .rxNotOkRecord .. | .pennantQuery ..
  | .pennantReset .. | .halyardSend .. | .halyardSent .. => 7
  | .scrubBurst .. | .scrubBehind .. | .scrubNow .. | .queuePush .. | .queuePop .. | .dropRest .. | .queueFault .. | .queueReopen ..
  | .queueRestore .. | .storeClearDone .. => 8
  | .hitMark .. | .forwardUplink .. | .forwardDownlink .. | .exceptionPacket .. | .learnRetry .. | .learnTimeout .. | .nodeInsert ..
  | .tableRebuild .. | .sweepVisit .. | .ageBehind .. | .nodeQuery .. | .nodeRemove .. | .nodeStatic .. | .reasmTimeout .. | .dao ..
  | .routeExpiry .. | .dioTrickle .. => 9
  | .ethernetTransmit .. | .linkDown .. | .gateCommit .. | .gateCancel .. | .gateSwitched .. | .gateEntryBoundary .. | .meshShaperTurn ..
  | .holdExpired .. | .nbQuery .. => 10
  | .rxVerify .. | .secureFrame .. | .securedDownlink .. | .keyRequest .. | .pinExpiry .. | .install .. | .invalidate .. | .tamperClear ..
  | .setAuthority .. | .keyExport .. | .keyReplaceCompat .. | .forceRejoin .. | .secQuery .. | .rejoinRequiredSweep .. | .tamper ..
  | .tamperFlagCommit .. | .groupFcMarkCommit .. | .groupOverlapEnd .. => 11
  | .heartbeatSend .. | .openMsg .. | .openAck .. | .hlClose .. | .hlMessageDiscard .. | .requestRepeat .. | .hlLinkDown .. | .heartbeat ..
  | .hbAck .. | .leaseExpired .. | .heartbeatMissLimit .. | .peerProbe .. | .peerAnswer .. | .peerProbeTimeout .. | .autonomyEnd ..
  | .witnessReq .. | .witnessRsp .. | .takeoverCommand .. | .takeoverStart .. | .takeover .. | .replDistrict .. | .replNodes ..
  | .replGone .. | .restoreEnd .. | .ready .. | .peers .. | .keyMsg .. | .keyResult .. | .deltaPart .. | .deltaResult .. | .relayReq ..
  | .report .. | .hierarchyControl .. | .replInterval .. | .fullReplPeriod .. | .claim .. | .verdict .. | .claimWait .. | .drop ..
  | .assign .. | .declareDead .. | .wPubkeyWrite .. | .epochCommit .. => 12
  | .imageCommit .. | .imageCommitted .. | .imageDelete .. | .imageDiscard .. | .cStart .. | .cPause .. | .cResume .. | .cAbort ..
  | .campaignAssign .. | .buntingQuery .. | .blockReq .. | .multicastFrameSent .. | .repairAcknowledged .. | .repairAbandoned ..
  | .frameDiscarded .. | .imageBlock .. | .buntingFramePush .. | .roundGapEnd .. | .targetCheck .. | .campaignStalled ..
  | .buntingControl .. => 13
  | .refill .. | .reconciliation .. | .battStale .. | .sensorSample .. | .cmdDeferMax .. | .governorCommand .. => 14
  | .dutyModeWrite .. | .maintenanceEnter .. | .maintenanceExit .. | .sleep .. | .sleepEntry .. | .wakeIn .. | .wakeAlarm ..
  | .e0LinkEnergy .. | .halyardWindow .. | .powerGoodTimeout .. | .brownout .. | .powerOff .. | .padRelease .. => 15
  | .powerGood .. | .powerOn .. | .runtimeReady .. | .watchdog .. | .rootCommit .. | .provisionCommit .. | .reset .. | .deviceReset .. => 16
  | .commit .. | .wearMove .. => 17
  | .fwWrite .. | .fwWritten .. | .fwDiscard .. | .fwHoist .. | .hoistActivation .. | .fwConfirm .. | .autoConfirm .. | .fwRevert ..
  | .settingsMigrationRetry .. | .confirmCommitRetry .. => 18
  | .timerExpiry .. | .timerWrap .. | .timerCapture .. | .capLoRead .. | .periodWrite .. | .arm .. | .stop .. | .clearFlags ..
  | .groupStart .. | .groupStop .. | .debugHalt .. => 19
  | .eventNotification .. | .evtAck .. | .errorRecord .. | .errLogClear .. | .unitFault .. | .unitRecovered .. | .unitRestore ..
  | .runtimeFault .. | .telemWrite .. | .sample .. | .telemFreeze .. => 20
  | .linkUp .. | .ethernetReceive .. | .portModeWrite .. | .routerAdvertisement .. | .neighborSolicitation .. | .muartFrame ..
  | .muartIdleTimeout .. | .baudWrite .. | .mspiWrite .. | .mspiRead .. | .mspiStatus .. | .vcoreSetWrite .. | .gpioOutWrite ..
  | .extest .. | .idcode .. | .duplicateAddressDetection .. | .muartCtsN .. => 21

/-! ## Soundness -/

/-- What holds in every state of a run: the provisioning record is legal and the store's list is in its canonical form. -/
def sound (s : State) : Bool := permOk s.perm && Memory.wf s.mem

end Sys2Proof
end

