-- ==== Sys2Proof/Certificates/Slice0/Obligations.lean ====
section
/-!
DEFINITION. The statements about the block, one definition each, chapter by chapter of the spec. A statement of the form "there is t with exec ... =
next t" says where the command completes and with which effect.
-/

open Sys2Proof Sys2Proof.Machine

/-- R39-R42, R64, R486, row by row. -/
def Obligations.SessionCommandsComplete : Prop :=
  ∀ s : State,
    (∀ (h : PduHead) seq cred hnonce hpub, arrives s.d h = true → headGood h = true → h.tag = none → cred ≤ 15 → refused s.d cred = false →
      credUsable s.d cred = true → sessionsFull s.d = false →
      let k := newHandshake s.d h.via cred hnonce hpub
      let e : Dev := { s.d with qdl := { s.d.qdl with handshakes := s.d.qdl.handshakes ++ [k] } }
      let f := sendOn (drawn e) h.via none false
        (.qdl k.id seq .ok (.challenge k.id (some (k.dnonce, k.dpub, ⟨none, cred, hnonce, hpub, k.id, k.dnonce, k.dpub⟩))))
      exec (.hello h seq cred hnonce hpub) s = .next { s with d := f })
    ∧ (∀ (h : PduHead) seq hnonce hpub l, arrives s.d h = true → headGood h = true → h.tag = none → openLevel s.d h.via = some l →
      sessionsFull s.d = false →
      let f := sendOn (newSession (drawn s.d) (freeSession s.d) l 255 false h.via ⟨0, 0, 0, 0⟩) h.via none false
        (.qdl (freeSession s.d) seq .ok (.challenge (freeSession s.d) none))
      exec (.hello h seq 255 hnonce hpub) s = .next { s with d := f })
    ∧ (∀ (h : PduHead) seq cred hnonce hpub, arrives s.d h = true → headGood h = true → h.tag = none →
      (if cred = 255 then openLevel s.d h.via = none else refused s.d cred = true ∨ credUsable s.d cred = false) →
      ∃ e, exec (.hello h seq cred hnonce hpub) s = .next { s with d := sendOn e h.via none false (.qdl 0 seq .noSession .empty) } ∧
        e.qdl.sessions = s.d.qdl.sessions ∧ e.qdl.handshakes = s.d.qdl.handshakes ∧ counter e 0x020006 = satAdd (counter s.d 0x020006) 1)
    ∧ (∀ (h : PduHead) seq cred hnonce hpub, arrives s.d h = true → headGood h = true → h.tag = none → sessionsFull s.d = true →
      (if cred = 255 then (openLevel s.d h.via).isSome = true else refused s.d cred = false ∧ credUsable s.d cred = true) →
      exec (.hello h seq cred hnonce hpub) s = .next { s with d := sendOn s.d h.via none false (.qdl 0 seq .busy .empty) })
    ∧ (∀ (h : PduHead) id seq sig (k : Handshake), arrives s.d h = true → headGood h = true → h.tag = none → handshakeOn s.d h.via id = some k →
      hsigOk s.d k sig = true → credUsable s.d k.cred = true → refused s.d k.cred = false →
      let l := numN s.d ((0x0210 + k.cred) * 256 + 2)
      ∃ t x, exec (.proof h id seq sig) s = .next t ∧ t.d.qdl.sessions = s.d.qdl.sessions ++ [x] ∧ x.id = id ∧ x.auth = true ∧
        x.cred = k.cred ∧ x.level = l ∧ x.transport = h.via ∧ x.key = ⟨k.hpub, k.dpub, k.hnonce, k.dnonce⟩ ∧
        findKey Handshake.id id t.d.qdl.handshakes = none ∧ ∃ e, t.d = sendTo e id h.via (.qdl id seq .ok (.level l)))
    ∧ (∀ (h : PduHead) id seq sig (k : Handshake), arrives s.d h = true → headGood h = true → h.tag = none → handshakeOn s.d h.via id = some k →
      (hsigOk s.d k sig && credUsable s.d k.cred && !refused s.d k.cred) = false →
      ∃ e, exec (.proof h id seq sig) s = .next { s with d := sendOn e h.via none false (.qdl id seq .noSession .empty) } ∧
        e.qdl.sessions = s.d.qdl.sessions ∧ findKey Handshake.id id e.qdl.handshakes = none ∧
        counter e 0x020006 = satAdd (counter s.d 0x020006) 1)
    ∧ (∀ id (k : Handshake), findKey Handshake.id id s.d.qdl.handshakes = some k →
      ∃ t, exec (.proofTimeout id) s = .next t ∧ findKey Handshake.id id t.d.qdl.handshakes = none ∧ k.at_ + sec 5 ≤ t.d.clk.up ∧
        counter t.d 0x020006 = satAdd (counter s.d 0x020006) 1)
    ∧ (∀ (c : Fin 16) u, (credFail s.d c.val).refusedAt = some u →
      ∃ t, exec (.credentialRefusalEnd c) s = .next t ∧ refused t.d c.val = false ∧ u + sec 60 ≤ t.d.clk.up)
    ∧ (∀ (r : Req) (x : Session), arrives s.d r.head = true → headGood r.head = true → sessionOn s.d r.head.via r.session = some x →
      authFits x r = true → (x.auth = true → tagOk x r = true) →
      ∃ t, exec (.close r) s = .next t ∧ session t.d r.session = none ∧
        t.d = endSession (sendTo s.d r.session r.head.via (.qdl r.session r.seq .ok .empty)) r.session)
    ∧ (∀ id (x : Session), session s.d id = some x →
      ∃ t, exec (.sessionIdleTimeout id) s = .next t ∧ session t.d id = none ∧ x.lastReq + sec (numN s.d 0x020002) ≤ t.d.clk.up)
    ∧ (∀ r : Req, accepts s.d r 0x020008 = true →
      ∃ t, exec (.closeAll r []) s = .next t ∧ (∀ x ∈ t.d.qdl.sessions, x.id = r.session) ∧ replyOf t.d r = some (.ok, .exec 0x020008 0 []))

/-- R30, R47, R52-R55, R65. What reads the rest of a body (LO_READ, HI_READ) and the relay rows have their own statements; SUB is one octet. -/
def Obligations.RequestCommandsComplete : Prop :=
  ∀ (s : State) (r : Req),
    (∀ w : WItem, w.sub < 256 → writes s.perm s.d r 0 w = true →
      ∃ t, exec (.entryWrite r false [w]) s = .next t ∧ kept t.d (itemKey w) = carried w ∧
        ((session t.d r.session).isSome = true → replyOf t.d r = some (.ok, .write [(itemKey w, .ok)])))
    ∧ (∀ (c : Fin 16) enable, writes s.perm s.d r 0 (writeItem ((0x0210 + c.val) * 256 + 3) [BitVec.ofNat 8 (boolNum enable)]) = true →
      ∃ t, exec (.credEnableWrite r c enable) s = .next t ∧
        dictGet ((0x0210 + c.val) * 256 + 3) t.d.nv.rp = some (.num (boolNum enable)) ∧
        ((session t.d r.session).isSome = true → replyOf t.d r = some (.ok, .write [((0x0210 + c.val) * 256 + 3, .ok)])))
    ∧ (∀ idx sub off data, takesUp s.d r = true → bulkCheck s.d (levelOf s.d r) idx sub off data.length = .ok →
      ∃ t, exec (.bulkWrite r idx sub off data) s = .next t ∧
        (∀ i (h : i < data.length), (off + i, data[i]) ∈ stagedOctets t.d (idx * 256 + sub)) ∧
        replyOf t.d r = some (.ok, .bulkWrite off data.length))
    ∧ (∀ kind idx sub minMs (x : Session), takesUp s.d r = true → session s.d r.session = some x → x.subs.length < 64 →
      subCheck s.d x.level kind idx sub = .ok →
      ∃ t y, exec (.subscribe r 1 kind idx sub minMs) s = .next t ∧ (session t.d r.session).map Session.subs = some (x.subs ++ [y]) ∧
        y.event = decide (kind = 1) ∧ y.minMs = minMs ∧ y.key = (if kind = 1 then idx else idx * 256 + sub) ∧
        replyOf t.d r = some (.ok, .sub y.id))
    ∧ (∀ kind idx sub minMs (x : Session), takesUp s.d r = true → session s.d r.session = some x → x.subs.any (fun y => y.id = sub) = true →
      ∃ t, exec (.subscribe r 2 kind idx sub minMs) s = .next t ∧
        (session t.d r.session).map Session.subs = some (x.subs.filter (fun y => y.id ≠ sub)) ∧ replyOf t.d r = some (.ok, .sub sub))
    ∧ (∀ kind idx sub minMs, takesUp s.d r = true →
      ∃ t, exec (.subscribe r 3 kind idx sub minMs) s = .next t ∧ (session t.d r.session).map Session.subs = some [] ∧
        replyOf t.d r = some (.ok, .sub 0))
    ∧ (∀ id subId (x : Session) (y : Sub) v, qdlServed s.d = true → session (foldMissed s.d) id = some x →
      x.subs.find? (fun z => z.id = subId && !z.event) = some y → valueNow s.perm s.d y.key ≠ y.lastVal →
      valueNow s.perm (foldMissed (match y.lastAt with | some u => reach s.d (u + ms (Nat.max y.minMs 10)) | none => s.d)) y.key = some v →
      ∃ t x', exec (.notify id subId) s = .next t ∧ session t.d id = some x' ∧ x'.notifySeq = (x.notifySeq + 1) % 4294967296 ∧
        (∃ z ∈ x'.subs, z.id = subId ∧ z.lastVal = some v) ∧
        ((queue s.d (pq 5)).space (pq 5) = true →
          ∃ e ty, t.d = tell e id (.notifyEntry id x'.notifySeq subId y.key ty v)))

/-- R60, R61, R394. -/
def Obligations.RelayCommandsComplete : Prop :=
  ∀ s : State,
    (∀ (r : Req) target inner, takesUp s.d r = true → s.perm.manager = true → innerBad inner = false → reachable s.d target = true →
      ∃ t, exec (.relay r target inner) s = .next t ∧
        t.d.qdl.relays = s.d.qdl.relays ++ [⟨some r.session, r.seq, target, (wRec s.d target).qseq + 1, s.d.clk.up, r.head.via⟩])
    ∧ (∀ (r : Req) target inner, takesUp s.d r = true → s.perm.manager = true → innerBad inner = false → reachable s.d target = false →
      ∃ t, exec (.relay r target inner) s = .next t ∧ replyOf t.d r = some (.unreachable, .empty) ∧ t.d.qdl.relays = s.d.qdl.relays)
    ∧ (∀ target qseq (x : RelayWait), relayOf s.d target qseq = some x →
      ∃ t, exec (.relayTimeout target qseq) s = .next t ∧ relayOf t.d target qseq = none ∧
        x.at_ + ms (numN s.d 0x020009) ≤ t.d.clk.up ∧
        (∀ id y, x.session = some id → session s.d id = some y → keptOf y x.seq = none →
          replyOf t.d ⟨id, x.seq, {}⟩ = some (.unreachable, .empty)))
    ∧ (∀ (h : HlHead) w q st b (x : RelayWait) id y, s.perm.manager = true → hlTakes s.d h w (.relayRsp q st b) = true → relayOf s.d w q = some x →
      x.session = some id → session s.d id = some y → keptOf y x.seq = none →
      ∃ t, exec (.relayRsp h q st b) s = .next t ∧ relayOf t.d w q = none ∧ replyOf t.d ⟨id, x.seq, {}⟩ = some (.ok, .relay w st b))
    ∧ (∀ (h : HlHead) q origin (w : WItem), s.perm.role = 2 → w.sub < 256 → hlTakes s.d h 0 (.relayReq q origin (.write false [w])) = true →
      q5Waits s.d = false → (∀ k ∈ s.d.hier.relayed, k.1 < q) → (writeOne s.perm (Nat.min origin 3) 0 s.d w).2 = .ok →
      ∃ t, exec (.relayReq h q origin (.write false [w])) s = .next t ∧ kept t.d (itemKey w) = carried w ∧
        (q, Status.ok, Body.write [(itemKey w, .ok)]) ∈ t.d.hier.relayed)

/-- R49, R537: COUNT_LO, COUNT_HI (0x10, 0x11) and CAP_LO, CAP_HI (0x12, 0x13) are the entries with LO and HI; the boot runtime serves no timer. -/
def Obligations.LatchHoldsTheUpperHalf : Prop :=
  ∀ (s : State) (r : Req) (n : Fin 24) (cap : Bool), takesUp s.d r = true → s.d.start.bootRuntime = false →
    let lo := if cap then 0x12 else 0x10
    let v := if cap then (timer s.d n).capture else (timer s.d n).count
    let itemLo : RItem := ⟨0x1910 + n.val, lo, false⟩
    let itemHi : RItem := ⟨0x1910 + n.val, lo + 1, false⟩
    (∃ t, exec (.loRead r false [itemLo]) s = .next t ∧
      findKey Prod.fst (tmKey n (lo + 1)) (latches t.d (some r.session)) = some (tmKey n (lo + 1), v / 4294967296) ∧
      replyOf t.d r = some (.ok, .read [(tmKey n lo, itemType itemLo, .ok, .num (v % 4294967296 : Nat))]) ∧
      (∀ id, id ≠ r.session → latches t.d (some id) = latches s.d (some id)))
    ∧ (∀ k u, findKey Prod.fst (tmKey n (lo + 1)) (latches s.d (some r.session)) = some (k, u) →
      ∃ t, exec (.hiRead r false [itemHi]) s = .next t ∧
        findKey Prod.fst (tmKey n (lo + 1)) (latches t.d (some r.session)) = none ∧
        replyOf t.d r = some (.ok, .read [(tmKey n (lo + 1), itemType itemHi, .ok, .num u)]) ∧
        (∀ id, id ≠ r.session → latches t.d (some id) = latches s.d (some id)))
    ∧ (findKey Prod.fst (tmKey n (lo + 1)) (latches s.d (some r.session)) = none →
      ∃ t, exec (.hiRead r false [itemHi]) s = .next t ∧
        replyOf t.d r = some (.ok, .read [(tmKey n (lo + 1), itemType itemHi, .ok, .num (v / 4294967296 : Nat))]))
    ∧ (∃ t, exec (.loRead r false [itemLo, itemHi]) s = .next t ∧
      replyOf t.d r = some (.ok, .read [(tmKey n lo, itemType itemLo, .ok, .num (v % 4294967296 : Nat)),
        (tmKey n (lo + 1), itemType itemHi, .ok, .num (v / 4294967296 : Nat))]))

/-- R43. "Sent" is by the transport of the request's PDU; `run` is any meaning of a request. -/
def Obligations.RepeatedRequestIsNotExecutedAgain : Prop :=
  ∀ (i : Inner) (r : Req) (run : Session → Dev → Served) (d : Dev) (x : Session), arrives d r.head = true → headGood r.head = true →
    sessionOn d r.head.via r.session = some x → authFits x r = true → (x.auth = true → tagOk x r = true) →
    (∀ k st b, keptOf x r.seq = some (k, st, b) →
      serve i r run d = sendTo (heard d r) r.session r.head.via (.qdl r.session r.seq st b) ∧ replyOf (serve i r run d) r = some (st, b))
    ∧ (keptOf x r.seq = none → seqStale x r.seq = false → requestsWait d r.session = false →
      serve i r run d = execute x r run d (heard d r) ∧
      (∀ y, (run x (heard d r)).status ≠ .malformed → (run x (heard d r)).reply = true → (run x (heard d r)).after = id →
        session (run x (heard d r)).d r.session = some y →
        session (serve i r run d) r.session = some { y with
          kept := lastN 16 (y.kept ++ [(r.seq, (run x (heard d r)).status, (run x (heard d r)).body)]), topSeq := some r.seq }))
    ∧ (keptOf x r.seq = none → seqStale x r.seq = true →
      d.qdl.relays.any (fun y => y.session = some r.session && y.seq = r.seq) = false → (waiting d r.session).any (fun q => q.seq = r.seq) = false →
      serve i r run d = sendTo (heard d r) r.session r.head.via (.qdl r.session r.seq .counterStale .empty))

/-- R37, its sentences on a tag that fails, for one row of each kind of request. -/
def Obligations.FailedTagIsDiscardedInSilence : Prop :=
  ∀ (s : State) (r : Req) (x : Session), arrives s.d r.head = true → headGood r.head = true → sessionOn s.d r.head.via r.session = some x →
    x.auth = true → r.head.tag.isSome = true → tagOk x r = false →
    (∀ n arg, exec (.arm r n arg) s = .next { s with d := count s.d 0x020006 })
    ∧ (∀ arg, exec (.evtAck r arg) s = .next { s with d := count s.d 0x020006 })
    ∧ (∀ arg, exec (.step r arg) s = .next { s with d := count s.d 0x020006 })
    ∧ (∀ idx sub off data, exec (.bulkWrite r idx sub off data) s = .next { s with d := count s.d 0x020006 })
    ∧ (∀ a k idx sub m, exec (.subscribe r a k idx sub m) s = .next { s with d := count s.d 0x020006 })
    ∧ (∀ target inner, exec (.relay r target inner) s = .next { s with d := count s.d 0x020006 })
    ∧ (∀ atomic items, exec (.entryWrite r atomic items) s = .next { s with d := settle s.perm (count s.d 0x020006) })

/-- R47; `atomicChecks` are the items' checks (log 121 for what an item is checked against), `writeEach` takes items one by one. -/
def Obligations.AtomicWriteIsAllOrNothing : Prop :=
  ∀ (s : State) (r : Req) (items : List WItem), takesUp s.d r = true → 1 ≤ items.length → items.length ≤ 64 →
    let l := atomicChecks s.perm (levelOf s.d r) (heard s.d r) items
    (∃ t, exec (.entryWrite r false items) s = .next t ∧
      ((session t.d r.session).isSome = true →
        replyOf t.d r = some (.ok, .write (writeEach s.perm (levelOf s.d r) 0 items (heard s.d r)).2)))
    ∧ (firstFail l ≠ .ok →
      ∃ t, exec (.entryWrite r true items) s = .next t ∧ t.d.rw = s.d.rw ∧ t.d.nv = s.d.nv ∧
        replyOf t.d r = some (firstFail l, .write ((items.map itemKey).zip l)))
    ∧ (firstFail l = .ok → (commitItems (heard s.d r) items).2 = .ok →
      ∃ t e, exec (.entryWrite r true items) s = .next t ∧ e.rw = t.d.rw ∧ e.nv.rp = t.d.nv.rp ∧
        e = (applyItems 0 (heard s.d r) items).1 ∧
        ((session t.d r.session).isSome = true → replyOf t.d r = some (.ok, .write (items.map (fun w => (itemKey w, .ok))))))

/-- R68, R70, R74, R75, R84, row by row. That a row which is the coming of an instant carries the clock to it is the model's (log 11). R81, R82. -/
def Obligations.TimeBaseAndPpsCommandsComplete : Prop :=
  (∀ s : State,
    (refRuns s.d = true → s.d.clk.refOk = true →
      ∃ t, exec .refLost s = .next t ∧ t.d.clk.refOk = false ∧ t.d.clk.fast = false ∧ t.d.clk.refLostAt = some s.d.clk.up ∧
        t.d.sched.prep = none ∧ raised t.d 22 0)
    ∧ (∀ u, s.d.clk.refLostAt = some u → since s.d u ≤ ms 100 →
      ∃ t, exec .refRestored s = .next t ∧ t.d.clk.refOk = true ∧ t.d.clk.fast = true ∧ t.d.clk.refLostAt = none ∧
        t.d.clk.sync = .holdover ∧ raised t.d 22 1)
    ∧ (∀ u, s.d.clk.refLostAt = some u →
      ∃ t, exec .refRelockTimeout s = .next t ∧ t.d.pwr.mode = .m11 ∧ t.d.pwr.faultCause = 2 ∧ t.d.clk.refLostAt = none ∧
        u + ms 100 ≤ t.d.clk.up)
    ∧ (∀ slow fast, refRuns s.d = true → s.d.clk.refOk = true → 0 < slow → 0 < fast →
      ∃ t, exec (.slowCalibration slow fast) s = .next t ∧
        t.d.clk.slowIncr = BitVec.ofNat 64 (roundDiv ((fast * fastNominal : Nat) : Int) slow).toNat ∧
        s.d.clk.calStart + sec 1 ≤ t.d.clk.calStart ∧ t.d.clk.calStart = t.d.clk.up)
    ∧ (∀ u, s.d.clk.slewUntil = some u →
      ∃ t, exec .phaseSlewEnd s = .next t ∧ t.d.clk.phaseSlew = 0 ∧ t.d.clk.slewUntil = none ∧ u ≤ t.d.clk.up)
    ∧ (s.d.clk.sync = .locked ∨ s.d.clk.sync = .acquiring → numN s.d 0x180003 ≠ 0 →
      ∃ t, exec .sourceTimeout s = .next t ∧ t.d.clk.sync = .holdover ∧ sourceTimeoutAt s.d ≤ t.d.clk.up ∧ raised t.d 16 3)
    ∧ (∀ (r : Req) (v : Byte), writes s.perm s.d r 0 (writeItem 0x180003 [v]) = true →
      ∃ t, exec (.tbSourceWrite r v) s = .next t ∧ dictGet 0x180003 t.d.nv.rp = some (.num v.toNat) ∧ (v = 0 → t.d.clk.sync = .free))
    ∧ (∀ b u, s.d.clk.sync = .holdover → s.d.clk.holdover = some (b, u) → s.d.clk.align ≤ 1000 → b ≤ 1000 → 0 < numN s.d 0x18000F →
      ∃ t, exec .alignExceeded s = .next t ∧ 1000 < t.d.clk.align ∧ raised t.d 17 t.d.clk.align))
  ∧ (∀ s : State,
    (∀ falling, refRuns s.d = true → s.d.clk.fast = true → (ppsSet s.d).inEn = true → (ppsSet s.d).inEdge = boolNum falling →
      ∃ t, exec (.ppsInEdge falling) s = .next t ∧ t.d.pps.inLast = stampNs s.d - (ppsSet s.d).inComp ∧ t.d.pps.missing = 0 ∧
        t.d.gpio.ppsIn = !falling)
    ∧ (refRuns s.d = true → (ppsSet s.d).inEn = true →
      ∃ t n, exec .ppsInMissing s = .next t ∧ 3 ≤ n ∧ n = since t.d (ppsFrom s.d) / sec 1 ∧ t.d.pps.missing = n ∧ raised t.d 19 n)
    ∧ (refRuns s.d = true → (ppsDue s.d).outEn = true → s.d.pwr.padHold.testBit 11 = false →
      (∀ l, s.d.pps.lastSecond = some l → l < nextPpsSecond s.d (ppsDue s.d)) → ((ppsDue s.d).gate = 1 → s.d.clk.sync = .locked) →
      ∃ t, exec .ppsOutStart s = .next t ∧ t.d.pps.out = true ∧ t.d.pps.lastSecond = some (nextPpsSecond s.d (ppsDue s.d)) ∧
        t.d.out = s.d.out ++ [.ppsOut true])
    ∧ (s.d.pps.out = true →
      ∃ t, exec .ppsOutEnd s = .next t ∧ t.d.pps.out = false ∧ t.d.out = s.d.out ++ [.ppsOut false] ∧
        s.d.clk.up + s.d.pps.ticksLeft * 160 ≤ t.d.clk.up))

/-- R76. -/
def Obligations.StepMovesTheTimeBase : Prop :=
  ∀ (s : State) (r : Req) (arg : List Byte), accepts s.d r 0x180008 = true → stepAllowed s.perm s.d = true →
    arg.length = 16 → leAt arg 0 1 ≤ 1 → leAt arg 1 7 = 0 →
    ∀ off : Int, off = (if leAt arg 0 1 = 0 then signedOf 8 (leAt arg 8 8) else signedOf 8 (leAt arg 8 8) - tbNs s.d) →
    ∃ t, exec (.step r arg) s = .next t ∧
      t.d.clk.tb = (if leAt arg 0 1 = 0 then s.d.clk.tb + (BitVec.ofInt 96 off <<< 32) else BitVec.ofInt 96 (signedOf 8 (leAt arg 8 8)) <<< 32) ∧
      t.d.clk.phaseSlew = 0 ∧ t.d.timers = s.d.timers ∧
      t.d.clk.sync = (if s.d.clk.sync = .locked then .acquiring else s.d.clk.sync) ∧
      t.d.clk.freqAdj = s.d.clk.freqAdj ∧ raised t.d 18 (u32Of (satI32 off)) ∧
      replyOf t.d r = some (.ok, .exec 0x180008 0 (toLe 8 (off % 18446744073709551616).toNat))

/-- R78-R80, R88. Corrected stamps are those of R78 with the port latencies of R566. -/
def Obligations.PtpCommandsComplete : Prop :=
  ∀ s : State,
    (∀ m : PtpSync, ptpAccepts s.d 1 m.head = true → fromParent s.d m.head = true →
      ∃ t, exec (.sync m) s = .next t ∧
        (if m.twoStep = true then t.d.ptp.pendingSync = some (m.head.seq, rxStamp s.d m.head.port.val, m.corr)
         else t.d.ptp.lastSync = some (m.origin + m.corr, rxStamp s.d m.head.port.val)))
    ∧ (∀ (h : PtpHead) origin corr t2 c, ptpAccepts s.d 1 h = true → fromParent s.d h = true → s.d.ptp.pendingSync = some (h.seq, t2, c) →
      ∃ t, exec (.followUp h origin corr) s = .next t ∧ t.d.ptp.pendingSync = none ∧ t.d.ptp.lastSync = some (origin + corr + c, t2))
    ∧ (∀ (h : PtpHead) corr, s.perm.manager = true → ptpAccepts s.d 2 h = true →
      ∃ t, exec (.delayReq h corr) s = .next t ∧
        t.d.out = s.d.out ++ [.ptpDelayResp h.port.val h.transport h.domain h.seq h.source h.sourcePort (rxStamp s.d h.port.val) corr])
    ∧ (∀ (h : PtpHead) receive corr t3 t1 t2, ptpAccepts s.d 1 h = true → fromParent s.d h = true →
      s.d.ptp.pendingDelay = some (h.seq, t3) → s.d.ptp.lastSync = some (t1, t2) →
      ∃ t, exec (.delayResp h true receive corr) s = .next t ∧ t.d.ptp.pendingDelay = none ∧
        t.d.ptp.meanPath = roundDiv ((t2 - t1) + (receive - corr - t3)) 2)
    ∧ (∀ m : PtpAnnounce, ptpAccepts s.d 1 m.head = true →
      ∃ t, exec (.announce m) s = .next t ∧ t.d.ptp.parent.isSome = true ∧
        ∃ f ∈ t.d.ptp.foreign, f.port = m.head.port ∧ f.identity = m.head.source ∧ f.portNumber = m.head.sourcePort ∧
          f.priority1 = m.priority1 ∧ f.at_ = s.d.clk.up)
    ∧ (∀ (port : Fin 2) transport, ptpRuns s.d = true → ptpPort s.d port.val = true → ptpN s.d 0x182004 = transport →
      ∃ t, exec (.ptpDiscard port transport) s = .next t ∧ counter t.d 0x18200B = satAdd (counter s.d 0x18200B) 1)
    ∧ (∀ kind, ptpRuns s.d = true →
      ∃ t, exec (.ptpInterval kind) s = .next t ∧ ptpLast s.d kind + ptpEvery s.d kind ≤ t.d.clk.up ∧ (kind ≠ .delayReq → t.d.ptp.kept = []))
    ∧ (∀ e, e = ptpNote (reach s.d (ptpLast s.d .sync + ptpEvery s.d .sync)) .sync → ptpRuns s.d = true → s.perm.manager = true →
      numN s.d 0x182001 = 2 →
      ∃ t, exec (.ptpInterval .sync) s = .next t ∧ t.d.out = s.d.out ++ ((upTo 2).filter (ptpPort e)).flatMap (fun q =>
        [.ptpSync q (numN s.d 0x182004) (numN s.d 0x182002) s.d.ptp.seqSync,
         .ptpFollowUp q (numN s.d 0x182004) (numN s.d 0x182002) s.d.ptp.seqSync (txStamp e q)]))
    ∧ (∀ e, e = ptpNote (reach s.d (ptpLast s.d .announce + ptpEvery s.d .announce)) .announce → ptpRuns s.d = true → s.perm.manager = true →
      numN s.d 0x182001 = 2 →
      ∃ t, exec (.ptpInterval .announce) s = .next t ∧ t.d.out = s.d.out ++ ((upTo 2).filter (ptpPort e)).map (fun q =>
        .ptpAnnounce q (numN s.d 0x182004) (numN s.d 0x182002) s.d.ptp.seqAnnounce (clockClass e)))
    ∧ (∀ e (f : Foreign), e = ptpNote (reach s.d (ptpLast s.d .delayReq + ptpEvery s.d .delayReq)) .delayReq → ptpRuns s.d = true →
      s.d.ptp.parent = some f → ptpN s.d 0x182001 = 1 → ptpPort s.d f.port.val = true →
      ∃ t, exec (.ptpInterval .delayReq) s = .next t ∧ t.d.ptp.pendingDelay = some (s.d.ptp.seqDelay, txStamp e f.port.val) ∧
        t.d.out = s.d.out ++ [.ptpDelayReq f.port.val (ptpN s.d 0x182004) (ptpN s.d 0x182002) s.d.ptp.seqDelay])

/-- R50, R99, R101, R102, R115, R119. -/
def Obligations.FrontEndCommandsComplete : Prop :=
  ∀ (s : State) (b : Band),
    (∀ r : Req, accepts s.d r (feKey b 0x11) = true → s.perm.manager = false →
      ∃ t, exec (.calibrate r b []) s = .next t ∧ replyOf t.d r = some (.ok, .exec (feKey b 0x11) 1 []) ∧
        (if preparesSlots s.d || (band s.d b).cal.isSome then (band t.d b).calWait.isSome = true
         else (band t.d b).state = .cal ∧ (band t.d b).cal.isSome = true))
    ∧ (∀ r : Req, accepts s.d r (maskKey b 7) = true → s.perm.manager = false →
      ∃ t, exec (.clearInhibit r b []) s = .next t ∧ replyOf t.d r = some (.ok, .exec (maskKey b 7) 1 []) ∧
        (if preparesSlots s.d || (band s.d b).cal.isSome then
          (band t.d b).calWait = some (if (band s.d b).calWait = some .mask then .mask else .clear)
         else (band t.d b).state = .cal ∧ (band t.d b).cal = some .clear))
    ∧ (∀ rej k, (band s.d b).cal = some k →
      ∃ t, exec (.calDone b rej) s = .next t ∧ (band t.d b).imageRej = rej ∧ (band t.d b).lastTime = tbNs s.d ∧
        (band t.d b).lastTemp = bandTemp s.d b ∧ (band t.d b).calPending = none ∧ t.d.ev.pending.testBit 24 = true ∧
        ((band s.d b).calWait = none → (band t.d b).cal = none) ∧ (k = .mask ∨ k = .clear → (band t.d b).inhibit = false))
    ∧ (∀ u, (band s.d b).calPending = some (u, false) →
      ∃ t, exec (.calAbandoned b) s = .next t ∧ (band t.d b).calPending = some (u, true) ∧ u + sec 60 ≤ t.d.clk.up ∧
        raised t.d 25 (256 + bandNum b))
    ∧ (∀ x : TxNow, (band s.d b).tx = some x →
      ∃ t, exec (.maskViolation b) s = .next t ∧ (band t.d b).tx = none ∧ (band t.d b).inhibit = true ∧
        raised t.d 27 (bandNum b * 0x10000 + x.channel))

/-- R129-R149, R549, row by row, with the condition of each. -/
def Obligations.LaneCommandsComplete : Prop :=
  (∀ (s : State) (n : Fin 32) (g : Signal),
    (∀ zeros x, (lane s.d n).state = .search → (lane s.d n).bind = some x → acquirable s.d n zeros x false g = true →
      ∃ t, exec (.preambleAcquired n zeros g) s = .next t ∧ (lane t.d n).state = .preamble ∧
        (lane t.d n).lock = some (g.level, false, s.d.clk.up))
    ∧ (∀ zeros x, (lane s.d n).state = .search → (lane s.d n).bind = some x → acquirable s.d n zeros x true g = true →
      ∃ t, exec (.correlatorHandover n zeros g) s = .next t ∧ (lane t.d n).state = .preamble ∧
        (lane t.d n).lock = some (g.level, true, s.d.clk.up) ∧ counter t.d (corrKey n 2) = satAdd (counter s.d (corrKey n 2)) 1)
    ∧ (∀ x lv h u, (lane s.d n).bind = some x → (lane s.d n).state = .preamble → (lane s.d n).lock = some (lv, h, u) → g.cfo.natAbs ≤ 6200 →
      (lv + rehomeBy s.d n ≤ g.level →
        ∃ t, exec (.rehome n g false) s = .next t ∧ (lane t.d n).lock = some (g.level, true, s.d.clk.up) ∧
          counter t.d (laneKey n 0x0C) = satAdd (counter s.d (laneKey n 0x0C)) 1)
      ∧ (∃ t, exec (.rehome n g true) s = .next t ∧ (lane t.d n).other = some (stampNs s.d, g)))
    ∧ (∀ x f, (lane s.d n).bind = some x → (lane s.d n).state = .header ∨ (lane s.d n).state = .payload → (lane s.d n).frame = some f →
      g.cfo.natAbs ≤ 6200 → withinSymbol n x (stampNs s.d) f.sfdTime = true → f.rssi + rehomeBy s.d n ≤ g.level →
      ∃ t f', exec (.rehome n g true) s = .next t ∧ (lane t.d n).state = .header ∧ (lane t.d n).frame = some f' ∧ f'.rssi = g.level ∧
        f'.sfdTime = stampNs s.d ∧ f'.handed = true)
    ∧ (∀ x lv h u, (lane s.d n).state = .preamble → (lane s.d n).bind = some x → (lane s.d n).lock = some (lv, h, u) →
      ∃ t f, exec (.sfdFound n g) s = .next t ∧ (lane t.d n).state = .header ∧ (lane t.d n).lock = none ∧ (lane t.d n).frame = some f ∧
        (match (lane s.d n).other with
         | some (v, o) =>
           if withinSymbol n x (stampNs s.d) v = true ∧ g.level + rehomeBy s.d n ≤ o.level then f.sfdTime = v ∧ f.rssi = o.level ∧ f.handed = true
           else f.sfdTime = stampNs s.d ∧ f.rssi = g.level ∧ f.handed = h
         | none => f.sfdTime = stampNs s.d ∧ f.rssi = g.level ∧ f.handed = h))
    ∧ (∀ x lv h u, (lane s.d n).state = .preamble → (lane s.d n).bind = some x → (lane s.d n).lock = some (lv, h, u) →
      ∃ t, exec (.preambleTimeout n) s = .next t ∧ (lane t.d n).lock = none ∧ (lane t.d n).state ≠ .preamble ∧
        counter t.d (laneKey n 0x0B) = satAdd (counter s.d (laneKey n 0x0B)) 1 ∧
        u + ns (slotN s.d (bandLaneKey (laneBand n) 3) * symNs (laneBand n) x.spread) ≤ t.d.clk.up)
    ∧ (∀ f b0 b1, (lane s.d n).state = .header → (lane s.d n).frame = some f →
      ∃ t, exec (.phrReceived n b0 b1) s = .next t ∧
        (if f.buf.isSome && phrValid s.d (laneBand n) b0 b1 then
          (lane t.d n).state = .payload ∧ (lane t.d n).frame.map LaneFrame.len = some (phrLength b0 b1).1
         else (lane t.d n).frame = none ∧ (lane t.d n).lock = none))
    ∧ (∀ f psdu, (lane s.d n).state = .header ∨ (lane s.d n).state = .payload → (lane s.d n).frame = some f → g.cfo.natAbs ≤ 6200 →
      withinSymbol n f.bind (stampNs s.d) f.sfdTime = false →
      ∃ t, exec (.capture n g psdu) s = .next t ∧ counter t.d (corrKey n 3) = satAdd (counter s.d (corrKey n 3)) 1 ∧
        (f.rssi + slotNum s.d (bandLaneKey (laneBand n) 1) ≤ g.level → keepsFrame s.d n f psdu = false →
          (lane t.d n).state = .header ∧ (lane t.d n).frame.map LaneFrame.captured = some true ∧
          (lane t.d n).frame.map LaneFrame.rssi = some g.level) ∧
        (g.level < f.rssi + slotNum s.d (bandLaneKey (laneBand n) 1) ∨ keepsFrame s.d n f psdu = true → (lane t.d n).frame = some f))
    ∧ (∀ f m good evm cfo clipped, (lane s.d n).state = .payload → (lane s.d n).frame = some f →
      ∃ t, exec (.lastPsduChip n m good evm cfo clipped) s = .next t ∧ (lane t.d n).frame = none ∧ (lane t.d n).lastLqi = lqiOf evm ∧
        (lane t.d n).lastRssi = rssiStep f.rssi ∧
        counter t.d (laneKey n (if good then 5 else 6)) = satAdd (counter s.d (laneKey n (if good then 5 else 6))) 1))
  ∧ (∀ (s : State) (n : Fin 32),
    (∀ hang, (lane s.d n).powered = true → (lane s.d n).nest < 3 →
      (hang = true → (lane s.d n).state = .header ∨ (lane s.d n).state = .payload) →
      ∃ t, exec (.laneFault n hang) s = .next t ∧ (lane t.d n).state = .recover ∧ (lane t.d n).frame = none ∧
        (lane t.d n).nest = (lane s.d n).nest + 1 ∧ raised t.d 32 (n.val * 256 + (lane s.d n).nest + 1) ∧
        (∀ k : Fin 32, k ≠ n → lane t.d k = lane s.d k))
    ∧ ((lane s.d n).state = .recover →
      ∃ t, exec (.laneRecovered n) s = .next t ∧ (lane t.d n).nest = 0 ∧
        (if 3 ≤ (lane s.d n).nest then (lane t.d n).state = .quarantined ∧ (lane t.d n).bind = none ∧ raised t.d 33 n
         else (lane t.d n).state ≠ .recover ∧ (lane t.d n).state ≠ .quarantined))
    ∧ (∀ (r : Req) b, accepts s.d r (bandLaneKey b 0x0A) = true → (bandLanes b).contains n.val = true → (lane s.d n).state = .quarantined →
      ∃ t, exec (.laneRestore r b [BitVec.ofNat 8 n]) s = .next t ∧ (lane t.d n).state = .off ∧ raised t.d 34 n ∧
        replyOf t.d r = some (.ok, .exec (bandLaneKey b 0x0A) 0 [])))

/-- R21, R83, R102-R104, R133, R171-R173, R210, R224. What an instant brings beside the row itself is done first (`comeTo`, `radioDue`; log 11). -/
def Obligations.SlotCommandsComplete : Prop :=
  ∀ s : State,
    (preparesSlots s.d = true → slotsHeld s.d = false → s.d.sched.prep = none →
      ∃ t p, exec .slotPreparation s = .next t ∧ t.d.sched.prep = some p ∧ p.asn = nextSlot (switchPassed (radioDue s.d)) ∧
        t.d.sched.prepAsn = some p.asn)
    ∧ (∀ p, s.d.sched.prep = some p →
      ∃ t, exec .slotStart s = .next t ∧ t.d.sched.prep = none ∧ t.d.sched.asn = p.asn ∧ t.d.sched.now.map SlotPlan.asn = some p.asn)
    ∧ (∀ b handle loc a p, sequencerOn s.d = true → plannedWindow s.d b handle loc = some (a, p) → windowSeen s.d b a p = false →
      tbNs (comeTo s.d p.opens) < p.closes → windowSeen (comeTo s.d p.opens) b a p = false →
      let e := comeTo s.d p.opens
      let w : Window := { band := b, handle := handle, loc := loc, asn := a, closes := p.closes, rescue := p.options.testBit 6 && !p.ack, shut := false }
      ∃ t, exec (.windowOpen b handle loc) s = .next t ∧ w ∈ t.d.sched.windows ∧
        ∀ n ∈ bandLanes b, (lane e n).state = .idle → (lane e n).bind.any (fun x => servesWindow e n x w) = true → (lane t.d n).state = .search)
    ∧ (∀ b handle loc w, sequencerOn s.d = true → (openWindows s.d b).reverse.find? (fun x => x.handle = handle && x.loc = loc) = some w →
      w.closes ≤ tbNs (reachTb s.d w.closes) →
      ∃ t, exec (.windowClose b handle loc) s = .next t ∧ (∀ v ∈ t.d.sched.windows, v.band = b → v.closes ≤ w.closes → v.shut = true) ∧
        ∀ n ∈ bandLanes b, (lane t.d n).state = .search → listens t.d n (lane t.d n).bind = true)
    ∧ (∀ (b : Band) nominal lock, let e := comeTo s.d (nominal - 40000)
      refuses e b = false → lock ≤ 30000 → tbNs e ≤ nominal →
      request s.d b nominal lock = (abandonCal e b, .go (nominal + (if lock + 30000 < 0 then 0 else lock + 30000))))
    ∧ (∀ (b : Band) lock margin p (x : TxPlan) short i d1 start, sequencerOn s.d = true → s.d.sched.now = some p →
      (p.part b).tx = some x → x.kind = .frame short → request (dropPlan s.d b) b x.nominal lock = (d1, .go start) →
      (txList d1 short).head? = some i → i.secured.isSome = true → poisoned d1 i.desc.buf = false →
      ∃ t f, exec (.cellTransmit b lock margin) s = .next t ∧
        Out.air b (start + (shrNs b x.spread : Int)) x.channel x.spread x.power f ∈ t.d.out ∧ f.ackReq = i.ackReq ∧ (∀ q, i.seq = some q → f.seq = some q) ∧
        t.d.sched.now.bind (fun q => (q.part b).tx) = none)
    ∧ (∀ (b : Band) lock margin (a : AckPlan) d1 start, sequencerOn s.d = true → s.d.nbr.acks.find? (fun y => y.band = b) = some a →
      request { s.d with nbr := { s.d.nbr with acks := s.d.nbr.acks.erase a } } b a.nominal lock = (d1, .go start) → a.secured = false →
      ∃ t f, exec (.ackTransmit b lock margin) s = .next t ∧
        Out.air b (start + (shrNs b a.spread : Int)) a.channel a.spread a.power f ∈ t.d.out ∧ f.ftype = .ack ∧ f.seq = a.seq ∧ f.tc = some (a.tc, false))
    ∧ (∀ (b : Band) (w : AckWait) short, sequencerOn s.d = true → s.d.nbr.awaits.find? (fun y => y.band = b) = some w →
      let e := bandDue (bandDue (reachTb s.d w.close) .sf) .g
      e.nbr.awaits.filter (awaitOver e) = [w] → w.kind = .frame short →
      ∃ t, exec (.ackWindowClose b) s = .next t ∧ t.d.nbr.awaits = e.nbr.awaits.erase w ∧
        counter t.d 0x310018 = satAdd (counter e 0x310018) 1)

/-- R185, R193, R196, R200. R185: what "nothing" covers is named field by field; a higher epoch also fences (R386), which stops the schedule. -/
def Obligations.DeltasSwitchOrChangeNothing : Prop :=
  (∀ (s : State) (r : Req),
    (∀ sigOk, accepts s.d r 0x301002 = true → (queue s.d 51).drain = [] → (queue s.d 51).fill = [] → (queue s.d 51).taken = none →
      (queue s.d 51).space 51 = true →
      ∃ t st l, exec (.deltaSubmit r [] sigOk) s = .next t ∧ replyOf t.d r = some (st, .exec 0x301002 0 l) ∧
        (if st = .ok then ∃ v, t.d.sched.pending = s.d.sched.pending ++ [v] ∧ ∃ a, l = toLe 8 a else t.d.sched.pending = s.d.sched.pending ∧ l = []) ∧
        (sigOk = false → st ≠ .ok))
    ∧ (accepts s.d r 0x301003 = true →
      ∃ t, exec (.deltaDiscard r []) s = .next t ∧ stagedOctets t.d 0x301001 = [] ∧ replyOf t.d r = some (.ok, .exec 0x301003 0 []))
    ∧ (∀ arg, accepts s.d r 0x308001 = true → arg.length = 4 →
      ∃ t, exec (.cellQuery r arg) s = .next t ∧
        replyOf t.d r = some (match s.d.sched.ver.cells.find? (fun c => c.handle = leAt arg 0 1 && c.loc = leAt arg 1 1 && c.slotOffset = leAt arg 2 2) with
          | some c => (.ok, .exec 0x308001 0 (cellOctets c)) | none => (.noEntry, .exec 0x308001 0 [])))
    ∧ (∀ (h : Fin 64) (v : Byte), writes s.perm s.d r 0 (writeItem ((0x3040 + h.val) * 256 + 4) [v]) = true →
      ∃ t, exec (.sfSuspendWrite r h v) s = .next t ∧ dictGet ((0x3040 + h.val) * 256 + 4) t.d.rw = some (.num v.toNat)))
  ∧ (∀ (s : State) (sigOk : Bool) d1 p o id addr dlen tm, qdlServed s.d = true → s.d.pwr.mode ≠ .m9 → takeFrom s.d 51 = (d1, some p) →
    p.body = .delta o id addr dlen tm →
    let x := takeDelta d1 addr dlen
    (∀ y, checkDelta x.1 sigOk x.2 = .ok y →
      ∃ t, exec (.deltaCheck sigOk) s = .next t ∧ t.d.sched.pending = s.d.sched.pending ++ [y.pd] ∧ t.d.sched.accepted = y.pd.seq ∧
        t.d.sched.lastStatus = 0)
    ∧ (∀ st reason, checkDelta x.1 sigOk x.2 = .error (st, reason) →
      ∃ t, exec (.deltaCheck sigOk) s = .next t ∧ t.d.sched.ver = s.d.sched.ver ∧ t.d.sched.pending = s.d.sched.pending ∧
        t.d.sched.accepted = s.d.sched.accepted ∧ t.d.sched.deltaSeq = s.d.sched.deltaSeq ∧ t.d.sched.epoch = s.d.sched.epoch ∧
        t.d.sched.asn = s.d.sched.asn ∧ t.d.sched.lastStatus = statusCode st ∧ t.d.sched.lastReason = reason ∧
        raised t.d 42 (statusCode st * 256 + reason))
    ∧ (sigOk = false → ∃ st reason, checkDelta x.1 sigOk x.2 = .error (st, reason) ∧ (reason = 1 ∨ reason = 2)))

/-- R213, R214, R219, R223, R225, R277, R352, row by row. -/
def Obligations.ReceivedFrameCommandsComplete : Prop :=
  ∀ s : State,
    (∀ (b : Band) d1 (x : Desc) i f, unitWorks s.d .frameSecurity = true → takeFrom s.d (bandNum b) = (d1, some x) → x.body = .rx i → x.dstat = 0 →
      macOf d1 x.buf = some f → f.secured = false → tampered s.d = false →
      owesPush s.d 2 = false → (queue d1 2).space 2 = true →       ∃ t, exec (.rxVerify b) s = .next t ∧
        (queue t.d 2).packets = (queue s.d 2).packets ++ [{ x with body := .rx { i with stage := { secstat := 1 } } }])
    ∧ (∀ d1 (x : Desc) i f n, sequencerOn s.d = true → takeFrom s.d 2 = (d1, some x) → x.body = .rx i → s.d.sched.st ≠ .stopped → awaitOf d1 i = none →
      macOf d1 x.buf = some f → verdictOf d1 x i f = .accepted → f.ftype = .data → messageOf d1 f ≠ .empty → (∀ z, messageOf d1 f ≠ .blockReq z) → sourceNode d1 f = some n →
      isJoinReq d1 f ((rxOptions d1 i).testBit 10) = false → (queue d1 3).space 3 = true →       ∃ t y, exec .frameJudgement s = .next t ∧ (queue t.d 3).packets = (queue s.d 3).packets ++ [y] ∧ y.buf = x.buf ∧
        counter t.d 0x310013 = satAdd (counter s.d 0x310013) 1 ∧ t.d.nbr.hitMarks = s.d.nbr.hitMarks ++ [n.short])
    ∧ (∀ a rest e, s.d.nbr.hitMarks = a :: rest → shortEntry s.d a = some e →
      ∃ t, exec .hitMark s = .next t ∧ t.d.nbr.hitMarks = rest ∧
        (tableEntry t.d e.eui).map (fun z => (z.hit, z.lastHit)) = some (true, tbSec s.d))
    ∧ (sequencerOn s.d = true →
      ∃ t, exec .adriftCheck s = .next t ∧ s.d.nbr.adriftAt + sec 1 ≤ t.d.clk.up ∧ t.d.nbr.adriftAt = t.d.clk.up ∧
        ∀ short n p u, short ≠ 0xFFFF → nodeOf s.d short = some n → n.pennant = some p → p.state = .active → named s.d short = true →
          uncertainty t.d p (tbNs t.d) = some u → 4000000 < u → (nodeOf t.d short).map Node.state = some .adrift)
    ∧ (sequencerOn s.d = true →
      ∃ t, exec .txHoldCheck s = .next t ∧ s.d.nbr.holdAt + sec 1 ≤ t.d.clk.up ∧
        ∀ short i, (txList t.d short).head? = some i → heldTooLong t.d i = false)
    ∧ (∀ x i, runtimeUp s.d = true → (queue s.d 4).taken = none → front s.d 4 = some x → x.body = .rx i → i.stage.verdict = 9 →
      ∃ t, exec .rxNotOkRecord s = .next t ∧ (queue t.d 4).packets = (queue s.d 4).packets.tail)

/-- R220. -/
def Obligations.SequenceChecksOfSecuredFrames : Prop :=
  ∀ (s : State) d1 (x : Desc) i f n p q, sequencerOn s.d = true → takeFrom s.d 2 = (d1, some x) → x.body = .rx i → x.dstat = 0 →
    i.stage.secstat = 2 → s.d.sched.st ≠ .stopped → (awaitOf d1 i = none ∨ f.ftype ≠ .ack) → macOf d1 x.buf = some f → f.secured = true → f.seq = some q →
    sourceNode d1 f = some n → nodeAt s.d n.index = some n → n.pennant = some p → n.state ≠ .dropped → n.state ≠ .rejoinRequired →
    ((p.fcValid = false ∨ p.rxFc < f.fc) →
      (∀ k y, delivery d1 x i f .accepted (ackOutcome d1 x i f .accepted) = some (k, y) → (produce d1 k y).2 = true) →
      ∃ t m r, exec .frameJudgement s = .next t ∧ nodeAt t.d n.index = some m ∧ m.pennant = some r ∧ r.rxFc = f.fc ∧ r.rxDsn = q ∧
        r.fcValid = true ∧ r.dsnValid = true ∧ r.ackCached = true ∧ r.ackTc = correction (errorOf s.d i) ∧ r.lastHeard = i.sfdTime)
    ∧ (p.fcValid = true → f.fc = p.rxFc → q = p.rxDsn →
      ∃ t m r, exec .frameJudgement s = .next t ∧ nodeAt t.d n.index = some m ∧ m.pennant = some r ∧ r.rxFc = p.rxFc ∧ r.rxDsn = p.rxDsn ∧
        r.fcValid = p.fcValid ∧ r.dsnValid = p.dsnValid ∧ r.ackCached = p.ackCached ∧ r.ackTc = p.ackTc ∧ r.lastHeard = i.sfdTime ∧
        counter t.d 0x310014 = satAdd (counter s.d 0x310014) 1)
    ∧ (p.fcValid = true → ((f.fc = p.rxFc ∧ q ≠ p.rxDsn) ∨ f.fc < p.rxFc) →
      ∃ t, exec .frameJudgement s = .next t ∧ nodeAt t.d n.index = some n ∧
        counter t.d 0x310015 = satAdd (counter s.d 0x310015) 1 ∧
        ((rateOf s.d (51 * 65536)).last = none → raised t.d 51 n.short) ∧
        (∀ u, (rateOf s.d (51 * 65536)).last = some u →
          (sec 1 ≤ since s.d u → raised t.d 51 n.short) ∧ (since s.d u < sec 1 → evRec t.d 51 = evRec s.d 51)))

/-- R20, R195, R356, R357, R414, row by row. -/
def Obligations.TransmitListCommandsComplete : Prop :=
  ∀ s : State,
    (∀ d1 (x : Desc) i, sequencerOn s.d = true → takeFrom s.d 48 = (d1, some x) → x.body = .p0 i → scheduleRuns s.d = true → i.when_ = 0 → i.group = 0 →
      i.neighbour ≠ 0xFFFF → (pennantOf s.d i.neighbour).isSome = true →
      ∃ t y, exec .timedTransmit s = .next t ∧ txList t.d i.neighbour = txList s.d i.neighbour ++ [y] ∧ y.desc = x ∧ y.ackReq = i.ackReq ∧ y.secure = i.secure)
    ∧ (∀ d1 (x : Desc) i, sequencerOn s.d = true → takeFrom s.d 32 = (d1, some x) → x.body = .down i → i.neighbour ≠ 0xFFFF →
      (pennantOf s.d i.neighbour).isSome = true →
      ∃ t y, exec .downlinkFrame s = .next t ∧ txList t.d i.neighbour = txList s.d i.neighbour ++ [y] ∧ y.desc = x)
    ∧ (∀ d1 (x : Desc) c target block part round forNode group enq, sequencerOn s.d = true → takeFrom s.d 35 = (d1, some x) →
      x.body = .image c 2 target block part round forNode group enq → (pennantOf s.d target).isSome = true →
      ∃ t y, exec .imageBlock s = .next t ∧ txList t.d target = txList s.d target ++ [y] ∧ y.desc = x)
    ∧ (∀ d1 (x : Desc) i, unitWorks s.d .frameSecurity = true → takeFrom s.d 33 = (d1, some x) → x.body = .down i → (queue s.d 34).space 34 = true →
      poisoned d1 x.buf = false → owesPush s.d 34 = false →
      ∃ t y, exec .secureFrame s = .next t ∧ (queue t.d 34).packets = (queue s.d 34).packets ++ [y] ∧ y.buf = x.buf)
    ∧ (∀ d1 (x : Desc) i y, sequencerOn s.d = true → takeFrom s.d 34 = (d1, some x) → x.body = .down i → i.group = false → x.dstat = 2 →
      waitingFor x.buf (txList s.d i.neighbour) = some y →
      ∃ t, exec .securedDownlink s = .next t ∧ (txList t.d i.neighbour).length = (txList s.d i.neighbour).length ∧
        ∃ z ∈ txList t.d i.neighbour, z.id = y.id ∧ z.secured = some (i.fc, i.level) ∧ z.inQ33 = false)
    ∧ (∀ x st i, runtimeUp s.d = true → (queue s.d 4).taken = none → front s.d 4 = some x → x.body = .p0Done st i →
      ∃ t, exec .p0DescriptorReturned s = .next t ∧ (queue t.d 4).packets = (queue s.d 4).packets.tail)

/-- R224, R225. `e` is the state in which the window's close has come. -/
def Obligations.UnacknowledgedAttempts : Prop :=
  ∀ (s : State) b (w : AckWait) short n p i, sequencerOn s.d = true → s.d.nbr.awaits.find? (fun y => y.band = b) = some w → w.kind = .frame short →
    let e := bandDue (bandDue (reachTb s.d w.close) .sf) .g
    e.nbr.awaits.filter (awaitOver e) = [w] → short ≠ 0xFFFF → nodeOf e short = some n → nodeAt e n.index = some n →
    n.pennant = some p → awaitedHead e w short = some i →
    ∃ t m r, exec (.ackWindowClose b) s = .next t ∧ nodeAt t.d n.index = some m ∧ m.pennant = some r ∧
      counter t.d 0x310018 = satAdd (counter e 0x310018) 1 ∧
      (if 1 + slotN e 0x31000D ≤ p.retry + 1 then
        txList t.d short = (txList e short).tail ∧ r.retry = 0 ∧ counter t.d 0x310019 = satAdd (counter e 0x310019) 1
       else txList t.d short = txList e short ∧ r.retry = p.retry + 1 ∧ counter t.d 0x310019 = counter e 0x310019)

/-- R229-R231, R233, R234, row by row. -/
def Obligations.JoinAndPennantCommandsComplete : Prop :=
  ∀ (s : State) (r : Req),
    (∀ (x : Desc) i f j eui k, runtimeUp s.d = true → front s.d 4 = some x → x.body = .rx i → i.stage.verdict ≠ 9 → consumerCheck (take1 s.d 4) 4 x = (take1 s.d 4, some x) →
      macOf s.d x.buf = some f → messageOf s.d f = .joinReq j → f.src = .eui eui → dmk s.d = some k →
      (∀ n, j.mic = .nlk k eui → nodeByEui s.d eui = some n → n.pennant.isSome = true → nodeAt s.d n.index = some n → joinAnswered s.d eui j.nonce = none →
        (tableEntry s.d eui).isSome = true → flag s.d 0x310010 = true → s.d.sched.st = .running →
        ∃ t m p, exec .joinReq s = .next t ∧ nodeAt t.d n.index = some m ∧ m.pennant = some p ∧ p.state = .joining ∧ m.short = n.short ∧
          m.sec.nonce = j.nonce ∧ p.fcValid = false ∧ p.dsnValid = false ∧ p.ackCached = false)
      ∧ (j.mic ≠ .nlk k eui →
        ∃ t, exec .joinReq s = .next t ∧ t.d.nbr.nodes = s.d.nbr.nodes ∧ t.d.fwd.entries = s.d.fwd.entries ∧ t.d.nbr.p0Owed = s.d.nbr.p0Owed ∧
          queue t.d 48 = queue s.d 48))
    ∧ (∀ n, oldestJoining s.d = some n → nodeByEui s.d n.eui = some n →
      ∃ t, exec .joinTimeout s = .next t ∧ nodeAt t.d n.index = none ∧ tableEntry t.d n.eui = none ∧
        n.joiningAt + sec (numN s.d 0x310012) ≤ t.d.clk.up)
    ∧ (∀ arg, accepts s.d r 0x31001E = true → arg.length = 2 →
      ∃ t, exec (.pennantQuery r arg) s = .next t ∧
        replyOf t.d r = some (match pennantOf s.d (leNat arg) with
          | some q => (.ok, .exec 0x31001E 0 (pennantOctets q)) | none => (.noEntry, .exec 0x31001E 0 [])))
    ∧ (∀ arg n p, accepts s.d r 0x310020 = true → arg.length = 2 → nodeOf s.d (leNat arg) = some n → nodeAt s.d n.index = some n → n.pennant = some p →
      ∃ t m, exec (.pennantReset r arg) s = .next t ∧ nodeAt t.d n.index = some m ∧
        m.pennant = some { p with cfoValid := false, driftValid := false, rssiValid := false, cfoN := 0, driftN := 0 } ∧
        replyOf t.d r = some (.ok, .exec 0x310020 0 []))
    ∧ (∀ arg b, accepts s.d r 0x310021 = true → arg.length = 6 → bandOf (leAt arg 0 1) = some b → (bandChannels s.d b).contains (leAt arg 1 1) = true →
      ((1 ≤ leAt arg 2 2 ∧ leAt arg 2 2 ≤ 127) ∨ leAt arg 2 2 = 0xFFFF) → 110 ≤ leAt arg 4 2 → leAt arg 4 2 ≤ 2000 → mayTransmit s.perm s.d = true →
      (s.d.hier.st = .leased ∨ s.d.hier.st = .autonomous) → s.d.pwr.mode.running = true →
      ∃ t, exec (.halyardSend r arg) s = .next t ∧ (replyOf t.d r).map Prod.fst = some .ok ∧
        t.d.nbr.burst.map (fun x => (x.band, x.channel, x.district, x.duration)) = some (b, leAt arg 1 1, leAt arg 2 2, leAt arg 4 2))
    ∧ (∀ x g, s.d.nbr.burst = some x → x.begun = some g →
      ∃ t, exec .halyardSent s = .next t ∧ t.d.nbr.burst = none ∧ raised t.d 55 (bandNum x.band * 0x10000 + x.channel))

/-- R247, R248, R265, row by row. R261-R263. -/
def Obligations.ScrubAndQueueRecovery : Prop :=
  (∀ (s : State) (r : Req),
    (∀ n, scrubRuns s.d = true → s.d.store.retired = [] →
      ∃ t, exec (.scrubBurst n [] [] []) s = .next t ∧
        (if s.d.store.scrubPos + 64 * n < 4294967296 then t.d.store.scrubPos = s.d.store.scrubPos + 64 * n ∧ t.d.store.passes = s.d.store.passes
         else t.d.store.scrubPos = 0 ∧ t.d.store.passes = satAdd s.d.store.passes 1 ∧ t.d.store.behind = false ∧
          raised t.d 65 (since s.d s.d.store.passStart / 64000000000)))
    ∧ (qdlServed s.d = true → domainOn s.d 5 = true → s.d.store.behind = false → s.d.store.scrubNow = false →
      ∃ t, exec .scrubBehind s = .next t ∧ t.d.store.behind = true ∧ s.d.store.passStart + sec (numN s.d 0x402001) ≤ t.d.clk.up ∧
        raised t.d 66 (ceilDiv (4294967296 - s.d.store.scrubPos) 1048576))
    ∧ (accepts s.d r 0x402005 = true →
      ∃ t, exec (.scrubNow r []) s = .next t ∧ t.d.store.scrubNow = true ∧ t.d.store.scrubPos = 0 ∧ replyOf t.d r = some (.ok, .exec 0x402005 1 [])))
  ∧ (∀ (s : State) (q : Fin 56), queuesOn s.d = true →     (∀ word, (queue s.d q).state = .openQ → (queue s.d q).nest = 0 → q.val ≠ 49 → (queue s.d q).taken = none →
      ∃ t, exec (.queueFault q word none) s = .next t ∧ (queue t.d q).state = .recovering ∧ (queue t.d q).packets = [] ∧ (queue t.d q).nest = 1 ∧
        (queue t.d q).discarded = (queue s.d q).discarded + (queue s.d q).packets.length ∧
        (queue t.d q).collected = (queue s.d q).collected ++ (queue s.d q).packets.filterMap Desc.buf)
    ∧ (∀ word, (queue s.d q).state = .recovering → (queue s.d q).nest < 3 → (queue s.d q).packets = [] → (queue s.d q).taken = none →
      ∃ t, exec (.queueFault q word none) s = .next t ∧ (queue t.d q).state = .recovering ∧ (queue t.d q).nest = (queue s.d q).nest + 1 ∧
        (queue t.d q).discarded = (queue s.d q).discarded ∧ (queue t.d q).collected = (queue s.d q).collected)
    ∧ ((queue s.d q).state = .recovering → (queue s.d q).nest < 3 →
      ∃ t, exec (.queueReopen q) s = .next t ∧ (queue t.d q).state = .openQ ∧ (queue t.d q).nest = 0 ∧
        ((queue s.d q).packets = [] → q.val ≠ 49 → q.val ≠ 53 → (queue t.d q).packets = []) ∧
        (queue t.d q).resets = satAdd (queue s.d q).resets 1 ∧ raised t.d 61 (q.val * 65536 + Nat.min (queue s.d q).discarded 65535))
    ∧ ((queue s.d q).state = .recovering → 3 ≤ (queue s.d q).nest →
      ∃ t, exec (.queueReopen q) s = .next t ∧ (queue t.d q).state = .quarantined ∧ raised t.d 62 q.val)
    ∧ (∀ r : Req, accepts s.d r 0x410001 = true → (queue s.d q).state = .quarantined →
      ∃ t, exec (.queueRestore r [BitVec.ofNat 8 q.val]) s = .next t ∧ (queue t.d q).state = .openQ ∧ raised t.d 63 q.val ∧
        replyOf t.d r = some (.ok, .exec 0x410001 0 [])))

/-- R254-R258. -/
def Obligations.QueueOrderAndRefusal : Prop :=
  ∀ (s : State) (q : Fin 56) (p : Desc), queuesOn s.d = true →     (8 ≤ q.val → q.val ≤ 23 → (port s.d ((q.val - 8) / 8)).up = true) →
    ((queue s.d q).state = .openQ → (if circular q then (queue s.d q).drain.length < slotsOf q else (queue s.d q).fill.length < 256) →
      (∃ t, exec (.queuePush q p false) s = .next t ∧ (queue t.d q).packets = (queue s.d q).packets ++ [p] ∧ (queue t.d q).refused = (queue s.d q).refused)
      ∧ (q.val ≠ 53 → ∃ t, exec (.queuePush q p true) s = .next t ∧ (queue t.d q).packets = (queue s.d q).packets ∧
          (queue t.d q).rewinds = satAdd (queue s.d q).rewinds 1))
    ∧ (¬ ((queue s.d q).state = .openQ ∧ (if circular q then (queue s.d q).drain.length < slotsOf q else (queue s.d q).fill.length < 256)) →
      ∃ t, exec (.queuePush q p false) s = .next t ∧ (queue t.d q).packets = (queue s.d q).packets ∧
        (queue t.d q).refused = satAdd (queue s.d q).refused 1)
    ∧ (∀ x rest, (queue s.d q).state = .openQ → (queue s.d q).drain = x :: rest → bufValid s.d x.buf = true → typeListed q x.dtype = true →
        poisoned s.d x.buf = false →
      ∃ t, exec (.queuePop q) s = .next t ∧ (queue t.d q).taken = some x ∧ (queue t.d q).packets = (queue s.d q).packets.tail)
    ∧ (0 < (queue s.d q).reading →
      ∃ t, exec (.dropRest q) s = .next t ∧ (queue t.d q).reading = 0 ∧ (queue t.d q).dropRests = satAdd (queue s.d q).dropRests 1)

/-- R257, R261. A queue that recovers has both pointers cleared. -/
def Obligations.QueuePointersAgree : Prop :=
  (∀ q : Fin 56, ptrOk q (queue State.reset.d q) = true)
  ∧ ∀ (s t : State), (∀ q : Fin 56, ptrOk q (queue s.d q) = true) →
    (∃ k : Fin 56, (∃ p abort, exec (.queuePush k p abort) s = .next t) ∨ exec (.queuePop k) s = .next t ∨ exec (.dropRest k) s = .next t ∨
      (∃ word lost, exec (.queueFault k word lost) s = .next t) ∨ exec (.queueReopen k) s = .next t) →
    ∀ q : Fin 56, ptrOk q (queue t.d q) = true

/-- R284, R289-R293, R295, R298, row by row. -/
def Obligations.ForwardingCommandsComplete : Prop :=
  ∀ s : State,
    (∀ d1 (x : Desc) sfd eui short lqi path g gr f form ip e, engineOn s.d = true → hoistPause s.d = false → takeFrom s.d 3 = (d1, some x) →
      x.body = .uplink sfd eui short lqi path → x.buf = some g → granule s.d g = some gr → gr.body = .mac f → f.payload = .lowpan form none ip →
      form ≠ .unsupported → form ≠ .bad → (∀ m, ip.body ≠ .rpl m) →
      (lookup s.d (keyOfIid (iidOf ip.src)).1 (keyOfIid (iidOf ip.src)).2).2 = some e →
      toDevice s.d ip.dst = false → inDistrict s.d ip.dst = false → isMulticast ip.dst = false →
      (1 < ip.hop → beNat (octets s.d 0x440020) ≠ 0 → s.d.pwr.mode ≠ .m10 → (port s.d (uplinkPort s.d)).up = true →
        ∀ q, q = 8 + 8 * uplinkPort s.d + classOf s.d ip.dscp → (queue s.d q).space q = true →         ∃ t y, exec .forwardUplink s = .next t ∧ (queue t.d q).packets = (queue s.d q).packets ++ [y] ∧ y.buf = some g)
      ∧ (ip.hop ≤ 1 → (queue s.d 5).space 5 = true →         ∃ t y, exec .forwardUplink s = .next t ∧ (queue t.d 5).packets = (queue s.d 5).packets ++ [y] ∧ y.dstat = 4 ∧ y.buf = some g))
    ∧ (∀ q k d1 (x : Desc) time prt a b c e f o, engineOn s.d = true → hoistPause s.d = false → nextIngress s.d = some (q, k) →
      takeFrom s.d q = (d1, some x) → x.body = .eth time prt a b c e → (x.buf.bind (granule s.d)).map Granule.body = some (.eth f) → f.body = .other o →
      (queue s.d 5).space 5 = true →       ∃ t y, exec .forwardDownlink s = .next t ∧ (queue t.d 5).packets = (queue s.d 5).packets ++ [y] ∧ y.dstat = 2 ∧ y.buf = x.buf)
    ∧ (∀ d1 (x : Desc) e sh lps i tm l p dt c, runtimeUp s.d = true → takeFrom (pushOwedPackets s.d) 5 = (d1, some x) → x.dstat = 1 →
      x.body = .exc e sh lps i tm l p dt → findKey Candidate.index lps s.d.fwd.lps = some c → learnRecord s.perm s.d c = none →
      ∃ t, exec .exceptionPacket s = .next t ∧ (findKey Candidate.index lps t.d.fwd.lps).map Candidate.st = some 3)
    ∧ (∀ c, engineOn s.d = true → s.d.fwd.lps = [c] → c.st = 2 → (queue s.d 5).space 5 = true →       ∃ t y, exec .learnRetry s = .next t ∧ t.d.fwd.lps = [{ c with st := 1 }] ∧ (queue t.d 5).packets = (queue s.d 5).packets ++ [y] ∧ y.dstat = 1)
    ∧ (∀ c, queuesOn s.d = true → oldestCandidate s.d = some c →
      ∃ t, exec .learnTimeout s = .next t ∧ findKey Candidate.index c.index t.d.fwd.lps = none ∧
        c.at_ + sec (numN s.d 0x44000B) ≤ t.d.clk.up ∧ counter t.d 0x44000E = satAdd (counter s.d 0x44000E) 1)
    ∧ (∀ r, queuesOn s.d = true → s.d.fwd.reasm = [r] →
      ∃ t, exec .reasmTimeout s = .next t ∧ t.d.fwd.reasm = [] ∧ r.at_ + sec (numN s.d 0x44001D) ≤ t.d.clk.up)
    ∧ (qdlServed s.d = true → s.perm.role = 2 →
      ∃ t, exec .dioTrickle s = .next t ∧ t.d.fwd.trickleC = 0 ∧ t.d.fwd.trickleAt = t.d.clk.up ∧
        s.d.fwd.trickleAt + ms (2 ^ trickleExp s.d) ≤ t.d.clk.up)

/-- R288, R293. -/
def Obligations.DaoSetsTheRoute : Prop :=
  ∀ s : State, runtimeUp s.d = true →
    (∀ d1 (x : Desc) ip target parent daoSeq pathSeq lifetime k n e a sh lp i tm l p dt, frontDao s.d = true →
      takeFrom (pushOwedPackets s.d) 5 = (d1, some x) → x.dstat = 6 → x.body = .exc a sh lp i tm l p dt → ipOf s.d x.buf = some ip →
      ip.body = .rpl (.dao target parent daoSeq pathSeq lifetime k) → routeNode s.d target = some n → nodeAt s.d n.index = some n →
      tableEntry s.d n.eui = some e →
      ((n.route.pathKnown = false ∨ lollipopNewer pathSeq n.route.pathSeq = true) →
        ∃ t m z, exec .dao s = .next t ∧ nodeAt t.d n.index = some m ∧ m.route.parent = parentShort s.d parent ∧ m.route.daoSeq = daoSeq ∧
          m.route.pathSeq = pathSeq ∧ m.route.routeExpiry = (tbSec s.d + lifetime * rplN s.d 0x441008) % 4294967296 ∧
          tableEntry t.d n.eui = some z ∧ z.hit = true ∧ z.routeValid = decide (lifetime ≠ 0))
      ∧ (n.route.pathKnown = true → lollipopNewer pathSeq n.route.pathSeq = false →
        ∃ t, exec .dao s = .next t ∧ t.d.nbr.nodes = s.d.nbr.nodes ∧ t.d.fwd.entries = s.d.fwd.entries))
    ∧ (∀ n, qdlServed s.d = true → firstExpiry s.d = some n →
      ∃ t z, exec .routeExpiry s = .next t ∧ tableEntry t.d n.eui = some z ∧ z.routeValid = false ∧
        t.d.clk = (reachTb s.d ((n.route.routeExpiry : Int) * 1000000000)).clk)

/-- R278, R280-R282, R287, R297, row by row. R286. -/
def Obligations.NodeTableCommandsComplete : Prop :=
  (∀ (s : State) (r : Req),
    (∀ eui short worker district record, queuesOn s.d = true →
      (tableEntry s.d eui = none → s.d.fwd.entries.length < entryLimit s.perm s.d → (placeFor s.d eui).isSome = true →
        ∃ t e, exec (.nodeInsert eui short worker district record) s = .next t ∧ tableEntry t.d eui = some e ∧ e.short = short ∧ e.worker = worker ∧
          e.district = district ∧ e.record = record ∧ e.hit = true ∧ e.stale = false ∧ e.swept = s.d.fwd.parity ∧
          t.d.fwd.entries.length = s.d.fwd.entries.length + 1)
      ∧ (∀ o, tableEntry s.d eui = some o →
        ∃ t e, exec (.nodeInsert eui short worker district record) s = .next t ∧ tableEntry t.d eui = some e ∧ e.short = short ∧ e.worker = worker ∧
          e.district = district ∧ e.record = record ∧ e.hit = true ∧ e.stale = false ∧ e.static = o.static ∧ e.routeValid = o.routeValid ∧
          e.swept = o.swept ∧ e.depth = o.depth ∧ e.insertTime = o.insertTime ∧ t.d.fwd.entries.length = s.d.fwd.entries.length)
      ∧ (tableEntry s.d eui = none → entryLimit s.perm s.d ≤ s.d.fwd.entries.length →
        ∃ t, exec (.nodeInsert eui short worker district record) s = .next t ∧ t.d.fwd.entries = s.d.fwd.entries ∧
          counter t.d 0x440008 = satAdd (counter s.d 0x440008) 1))
    ∧ (qdlServed s.d = true → ∃ t, exec .tableRebuild s = .next t ∧ t.d.fwd.lost = [] ∧ t.d.fwd.lostShort = [])
    ∧ (queuesOn s.d = true → s.d.fwd.behind = false →
      ∃ t, exec .ageBehind s = .next t ∧ t.d.fwd.behind = true ∧ s.d.fwd.passStart + sec (passPeriod s.d) ≤ t.d.clk.up ∧ raised t.d 76 (passPeriod s.d))
    ∧ (∀ arg, accepts s.d r 0x440015 = true → arg.length = 10 →
      ∃ t, exec (.nodeQuery r arg) s = .next t ∧
        replyOf t.d r = some (match findNode s.d arg with
          | some e => (.ok, .exec 0x440015 0 (entryOctets e ++ routeOctets (nodeByEui s.d e.eui))) | none => (.noEntry, .exec 0x440015 0 [])))
    ∧ (∀ arg e n, accepts s.d r 0x440016 = true → arg.length = 10 → findNode s.d arg = some e → nodeByEui s.d e.eui = some n →
      ∃ t, exec (.nodeRemove r arg) s = .next t ∧ tableEntry t.d e.eui = none ∧ nodeAt t.d n.index = none ∧
        replyOf t.d r = some (.ok, .exec 0x440016 0 []))
    ∧ (∀ arg e v, accepts s.d r 0x440017 = true → arg.length = 11 → argBool (nth arg 10 0) = some v → findNode s.d arg = some e →
      ∃ t, exec (.nodeStatic r arg) s = .next t ∧ (tableEntry t.d e.eui).map NtEntry.static = some v ∧ replyOf t.d r = some (.ok, .exec 0x440017 0 [])))
  ∧ (∀ s : State, engineOn s.d = true → taskRuns s.d (if s.d.fwd.behind then 5 else 2) = true →
    (∀ e, nextVisit s.d = some e → tableEntry s.d e.eui = some e →
      (e.static = true → ∃ t, exec (.sweepVisit 1) s = .next t ∧ tableEntry t.d e.eui = some { e with swept := s.d.fwd.parity })
      ∧ (e.static = false → e.hit = true →
        ∃ t, exec (.sweepVisit 1) s = .next t ∧ tableEntry t.d e.eui = some { e with swept := s.d.fwd.parity, hit := false, stale := false })
      ∧ (e.static = false → e.hit = false → e.stale = false →
        ∃ t, exec (.sweepVisit 1) s = .next t ∧ tableEntry t.d e.eui = some { e with swept := s.d.fwd.parity, stale := true })
      ∧ (e.static = false → e.hit = false → e.stale = true →
        ∃ t, exec (.sweepVisit 1) s = .next t ∧ tableEntry t.d e.eui = none ∧ counter t.d 0x440013 = satAdd (counter s.d 0x440013) 1))
    ∧ (nextVisit s.d = none → s.d.fwd.behind = true →
      ∃ t, exec (.sweepVisit 1) s = .next t ∧ t.d.fwd.parity = !s.d.fwd.parity ∧ t.d.fwd.behind = false ∧
        counter t.d 0x440012 = satAdd (counter s.d 0x440012) 1 ∧ raised t.d 75 (since s.d s.d.fwd.passStart / sec 1)))

/-- R305; what can never fit is R308's and is excluded by hypothesis. -/
def Obligations.PortSendsTheHighestClass : Prop :=
  ∀ (s : State) (p : Fin 2), shaperOn s.d = true → domainOn s.d 11 = true → (port s.d p).up = true →
    ((port s.d p).sending = none →
      (gatesBind s.d p = false ∨ ∀ c x, classHead s.d p c = some x → wireTime s.d p x.len ≤ maxWindow s.d p c * 64) →
      (∀ c x d1, c < 8 → classHead s.d p c = some x → eligible s.d p c = true → (gatesNow s.d p).testBit c = true → fits s.d p c x.len = true →
        (∀ k y, c < k → k < 8 → classHead s.d p k = some y → eligible s.d p k = false ∨ (gatesNow s.d p).testBit k = false ∨ fits s.d p k y.len = false) →
        takeFrom s.d (8 + 8 * p.val + c) = (d1, some x) →
        ∃ t, exec (.ethernetTransmit p) s = .next t ∧
          (port t.d p).sending = some { cls := c, desc := x, fin := s.d.clk.up + wireTime s.d p x.len } ∧
          ∀ k, k < 8 → k ≠ c → queue t.d (8 + 8 * p.val + k) = queue s.d (8 + 8 * p.val + k))
      ∧ ((∀ k y, k < 8 → classHead s.d p k = some y → eligible s.d p k = false ∨ (gatesNow s.d p).testBit k = false ∨ fits s.d p k y.len = false) →
        exec (.ethernetTransmit p) s = .next s))
    ∧ (∀ x g gr f, (port s.d p).sending = some x → x.desc.buf = some g → granule s.d g = some gr → gr.body = .eth f →
      ∃ t, exec (.ethernetTransmit p) s = .next t ∧ Out.eth p f ∈ t.d.out ∧ x.fin ≤ t.d.clk.up)

/-- R310, with the other half of step 3 of R309. -/
def Obligations.GateBaseIsAdjusted : Prop :=
  ∀ (s : State) (r : Req) (p : Fin 2) n g, accepts s.d r (gateKey p 0x0B) = true → gateListOk s.d p = true →     g = pendList s.d p → n = 14 + 8 * g.entries.length →
    (commitNv s.d 1 n ((upTo (ceilDiv n 4096)).map (fun i => gatePage p + i))).2 = .ok →
    ∃ t m, exec (.gateCommit r p []) s = .next t ∧ (port t.d p).waiting = some (g, (port t.d p).switch) ∧ (port t.d p).committed = some g ∧
      replyOf t.d r = some (.ok, .exec (gateKey p 0x0B) m (sle 8 (port t.d p).switch)) ∧
      (tbNs s.d + 1000000 ≤ g.base → (port t.d p).switch = g.base) ∧
      (g.base < tbNs s.d + 1000000 →
        ∃ k : Nat, (port t.d p).switch = g.base + k * g.cycle ∧ tbNs s.d + 1000000 ≤ (port t.d p).switch ∧
          (port t.d p).switch - g.cycle < tbNs s.d + 1000000 ∧ raised t.d 81 (p.val * 0x1000000 + Nat.min k 0xFFFFFF))

/-- R306, R307, R309, R314, R315, R317, R320, R562, row by row. -/
def Obligations.ShapingCommandsComplete : Prop :=
  ∀ (s : State) (r : Req) (p : Fin 2),
    ((port s.d p).up = true → (∀ q, (queue s.d q).taken = none) →       ∃ t, exec (.linkDown p) s = .next t ∧ (port t.d p).up = false ∧ (∀ c, c < 8 → (queue t.d (8 + 8 * p.val + c)).packets = []) ∧
        raised t.d 83 (p.val * 65536 + sumNat ((upTo 8).map (fun c => (queue s.d (8 + 8 * p.val + c)).packets.length))) ∧
        ∀ k, shOutput s.d k = p → nth t.d.shp.credits k 0 = 0)
    ∧ (∀ speed, hostOn s.d = true → (port s.d p).up = false →       ∃ t, exec (.linkUp p speed) s = .next t ∧ (port t.d p).up = true ∧ (port t.d p).speed = resolvedSpeed s.d p speed)
    ∧ (accepts s.d r (gateKey p 0x12) = true →
      ∃ t m, exec (.gateCancel r p []) s = .next t ∧ (port t.d p).waiting = none ∧ (port t.d p).restored = none ∧
        replyOf t.d r = some (if (port s.d p).waiting.isSome || (port s.d p).restored.isSome then .ok else .wrongMode, .exec (gateKey p 0x12) m []))
    ∧ (∀ g u, queuesOn s.d = true → (port s.d p).waiting = some (g, u) →
      ∃ t, exec (.gateSwitched p) s = .next t ∧ (port t.d p).active = some { g with base := u } ∧ (port t.d p).waiting = none ∧
        t.d.clk = (reachTb s.d u).clk ∧ raised t.d 80 p.val)
    ∧ (∀ g, queuesOn s.d = true → (port s.d p).active = some g →
      ∃ t, exec (.gateEntryBoundary p) s = .next t ∧ t.d.clk = (reachTb s.d (nextBoundary g (tbNs s.d))).clk)
    ∧ (∀ c x i d1, shaperOn s.d = true → s.d.shp.hold = [] → c < 8 → classHead s.d 2 c = some x → x.body = .down i → i.frag = 0 → eligible s.d 2 c = true →
      (∀ k, c < k → k < 8 → meshEligible s.d k = false) → takeFrom s.d (24 + c) = (d1, some x) → 0 ≤ nbCredit s.d i.neighbour →
      (queue s.d 32).space 32 = true →       ∃ t y, exec .meshShaperTurn s = .next t ∧ (queue t.d 32).packets = (queue s.d 32).packets ++ [y] ∧ y.buf = x.buf ∧
        nbCredit t.d i.neighbour = nbCredit s.d i.neighbour - ((meshCost s.d i.neighbour x.len * 64000000 : Nat) : Int))
    ∧ (∀ h u, queuesOn s.d = true → heldOrphan s.d = none → oldestHeld s.d = some (h, u) →
      ∃ t, exec .holdExpired s = .next t ∧ h ∉ t.d.shp.hold)
    ∧ (∀ arg, accepts s.d r 0x480007 = true → arg.length = 2 →
      ∃ t m, exec (.nbQuery r arg) s = .next t ∧
        replyOf t.d r = some (.ok, .exec 0x480007 m (sle 4 (creditRead (nbCredit s.d (leNat arg))) ++ toLe 1 (bandNum (ledgerLink s.d (leNat arg)).1) ++
          toLe 1 (ledgerLink s.d (leNat arg)).2 ++ toLe 2 (heldOf s.d (leNat arg)))))

/-- R336-R338, R350, with GEN of R329. -/
def Obligations.KeyUpdateMessages : Prop :=
  ∀ (s : State) (r : Req) (proof : KeyProof) (u : KeyUpdate) (c : Instr), accepts s.d r 0x500006 = true → u = parseUpdate (octets s.d 0x500005) proof →
    ((u.uop ≠ 2 ∧ u.uop ≠ 3 ∧ u.uop ≠ 4 ∧ c = .install r [] proof) ∨ (u.uop = 2 ∧ c = .invalidate r [] proof) ∨
      (u.uop = 3 ∧ c = .tamperClear r [] proof) ∨ (u.uop = 4 ∧ c = .setAuthority r [] proof)) →
    (∀ st, st = (if checkUpdate s.perm s.d u = .ok then (updateCommit s.d u).2 else checkUpdate s.perm s.d u) → st ≠ .ok →
      ∃ t, exec c s = .next t ∧ replyOf t.d r = some (st, .exec 0x500006 0 []) ∧ t.d.can = s.d.can ∧ t.d.nbr.nodes = s.d.nbr.nodes ∧
        setting t.d 0x500014 = setting s.d 0x500014 ∧ counter t.d 0x500017 = satAdd (counter s.d 0x500017) 1 ∧ raised t.d 92 (statusCode st))
    ∧ (checkUpdate s.perm s.d u = .ok → (updateCommit s.d u).2 = .ok →
      ∃ t, exec c s = .next t ∧ replyOf t.d r = some (.ok, .exec 0x500006 0 (toLe 8 u.counter)) ∧
        (if u.signer = 0 then t.d.can.ctrOperator = u.counter ∧ t.d.can.ctrManager = s.d.can.ctrManager
         else t.d.can.ctrManager = u.counter ∧ t.d.can.ctrOperator = s.d.can.ctrOperator) ∧
        (u.uop = 1 → keyPresent t.d u.kind u.keyId = u.proof.key ∧ genOf t.d u.kind u.keyId = genOf s.d u.kind u.keyId + 1 ∧
          raised t.d 90 (u.kind * 65536 + u.keyId)) ∧
        (u.uop = 2 → u.kind ≠ 9 → keyPresent t.d u.kind u.keyId = none ∧ genOf t.d u.kind u.keyId = genOf s.d u.kind u.keyId + 1 ∧
          raised t.d 91 (u.kind * 65536 + u.keyId)) ∧
        (u.uop = 2 → u.kind = 9 → ∀ n, nodeByEui s.d u.nodeEui = some n → nodeAt s.d n.index = some n → n.pennant.isSome = true →
          raised t.d 91 (9 * 65536) ∧ ∃ m, nodeAt t.d n.index = some m ∧ m.sec.skValid = false ∧ m.state = .rejoinRequired) ∧
        (u.uop = 3 → t.d.can.latch = false ∧ t.d.can.flag = false ∧ t.d.start.pendingReset = some (5, s.d.clk.up + ms 100) ∧ raised t.d 89 0) ∧
        (u.uop = 4 → setting t.d 0x500014 = .bytes u.epub ∧ raised t.d 90 (4 * 65536)))

/-- R340, R341. -/
def Obligations.CompatibleReplacement : Prop :=
  ∀ (s : State) (r : Req) (arg : List Byte) (key : Option Nat) (kind id : Nat), accepts s.d r 0x50000C = true → tampered s.d = false → arg.length = 32 →
    leAt arg 1 1 = 0 → leAt arg 31 1 = 0 → kind = leAt arg 0 1 → id = leAt arg 2 2 →
    ((flag s.d 0x50000B = false ∨ (kind ≠ 6 ∧ kind ≠ 7) ∨ keyPresent s.d kind id = none) →
      ∃ t, exec (.keyReplaceCompat r arg key) s = .next t ∧ t.d.can = s.d.can ∧ replyOf t.d r = some (.accessDenied, .exec 0x50000C 0 []))
    ∧ (flag s.d 0x50000B = true → kind = 6 ∨ kind = 7 → (keyPresent s.d kind id).isSome = true →
      ((∀ k, key = some k → leAt arg 28 3 ≠ Config.kcv k % 16777216) →
        ∃ t, exec (.keyReplaceCompat r arg key) s = .next t ∧ t.d.can = s.d.can ∧ replyOf t.d r = some (.outOfRange, .exec 0x50000C 0 []))
      ∧ (∀ k, key = some k → leAt arg 28 3 = Config.kcv k % 16777216 →
        (∀ st, st = (commitNv s.d 1 64 [keyPage (keySlot s.d kind id)]).2 → st ≠ .ok →
          ∃ t, exec (.keyReplaceCompat r arg key) s = .next t ∧ t.d.can = s.d.can ∧ replyOf t.d r = some (st, .exec 0x50000C 0 []))
        ∧ ((commitNv s.d 1 64 [keyPage (keySlot s.d kind id)]).2 = .ok →
          ∃ t, exec (.keyReplaceCompat r arg key) s = .next t ∧ keyPresent t.d kind id = some k ∧ genOf t.d kind id = genOf s.d kind id + 1 ∧
            raised t.d 90 (kind * 65536 + id) ∧ replyOf t.d r = some (.ok, .exec 0x50000C 0 (toLe 4 (genOf s.d kind id + 1))))))

/-- R345, R347-R349. -/
def Obligations.TamperZeroizes : Prop :=
  ∀ (s : State) (input : Fin 2) (keyOp : Bool),
    (s.d.pwr.mode ≠ .m0 → s.d.can.asserted.testBit input = false → (numN s.d 0x500011).testBit input = true →
      ∃ t, exec (.tamper input true keyOp) s = .next t ∧ t.d.can.hot = [] ∧ t.d.can.retention = [] ∧ t.d.can.kek = false ∧ t.d.can.latch = true ∧
        t.d.can.cause = input.val * 256 + tamperStage s.d keyOp ∧ t.d.can.time = tbNs s.d ∧ raised t.d 88 (input.val * 256 + tamperStage s.d keyOp) ∧
        t.d.can.table = s.d.can.table ∧ t.d.pwr.mode = .m11 ∧ t.d.can.asserted.testBit input = true ∧
        (s.d.can.flag = false → t.d.can.flagDue = some s.d.clk.up))
    ∧ (s.d.pwr.mode ≠ .m0 → s.d.can.asserted.testBit input = false → (numN s.d 0x500011).testBit input = false → s.d.pwr.meshOk = (meshCondition s.perm s.d && !s.d.ifs.extest) →
      exec (.tamper input true keyOp) s = .next { s with d := { s.d with can := { s.d.can with asserted := setBit s.d.can.asserted input } } })
    ∧ (∃ t, exec (.tamper input false keyOp) s = .next t ∧ t.d.can.asserted.testBit input = false ∧ t.d.can.latch = s.d.can.latch)
    ∧ (∀ u, s.d.can.flagDue = some u →
      ∃ t, exec .tamperFlagCommit s = .next t ∧ u ≤ t.d.clk.up ∧
        ((t.d.can.flag = true ∧ t.d.can.flagDue = none) ∨ (t.d.can.flag = s.d.can.flag ∧ t.d.can.flagDue = some (t.d.clk.up + sec 1))))

/-- R332, R333, R338, R339, R343, R359, R361, R363, R364, row by row. -/
def Obligations.SecurityCommandsComplete : Prop :=
  ∀ (s : State) (r : Req),
    (∀ x n i till pinEnd h, runtimeUp s.d = true → (queue s.d (pq 2)).state = .openQ → leastUntil (queue s.d (pq 2)).drain = some x →
      x.buf = none → x.dtype = 0x0D → nodeAt s.d i = some n → hotOf s.d i = some h →
      (x.body = .keyReq i 1 n.short till pinEnd → tampered s.d = false → keyCheck s.d n = 0 → isHot s.d n = true →
        ∃ t g, exec .keyRequest s = .next t ∧ hotOf t.d i = some g ∧ g.pins = h.pins ++ [(till, pinEnd)])
      ∧ (x.body = .keyReq i 2 n.short till pinEnd →
        ∃ t g, exec .keyRequest s = .next t ∧ hotOf t.d i = some g ∧ g.pins = h.pins.filter (fun q => q.1 ≠ till)))
    ∧ (∀ u, firstPinEnd s.d = some u →
      ∃ t, exec .pinExpiry s = .next t ∧ t.d.clk = (reachTb s.d u).clk ∧ ∀ g ∈ t.d.can.hot, ∀ q ∈ g.pins, tbNs t.d < q.2)
    ∧ (∀ arg e, accepts s.d r 0x50000A = true → arg.length = 76 → leAt arg 3 1 = 0 → s.perm.manager = true → tampered s.d = false →
      leAt arg 2 1 = 6 ∨ leAt arg 2 1 = 7 → keyEntry s.d (leAt arg 2 1) (leAt arg 0 2) = some e → e.exportable = true → e.present = true →
      (commitNv s.d 1 8 [cantonPage]).2 = .ok →
      ∃ t m, exec (.keyExport r arg) s = .next t ∧ t.d.can.exportCtr = s.d.can.exportCtr + 1 ∧ t.d.can.table = s.d.can.table ∧ raised t.d 95 (leAt arg 0 2) ∧
        replyOf t.d r = some (.ok, .exec 0x50000A 0 m) ∧ m.length = 240 ∧ leAt m 56 8 = (s.d.can.exportCtr + 1) % 2 ^ 64)
    ∧ (∀ arg n, accepts s.d r 0x500018 = true → arg.length = 8 → tampered s.d = false → nodeByEui s.d (leNat arg) = some n → nodeAt s.d n.index = some n →
      ∃ t m, exec (.forceRejoin r arg) s = .next t ∧ nodeAt t.d n.index = some m ∧ m.sec.skValid = false ∧ raised t.d 91 (9 * 65536) ∧
        replyOf t.d r = some (.ok, .exec 0x500018 0 []))
    ∧ (∀ arg, accepts s.d r 0x510009 = true → arg.length = 2 →
      ∃ t, exec (.secQuery r arg) s = .next t ∧
        replyOf t.d r = some (match nodeOf s.d (leNat arg) with
          | some n => (.ok, .exec 0x510009 0 (secOctets { n.sec with hotSlot := (hotOf s.d n.index).map HotSlot.slot }))
          | none => (.noEntry, .exec 0x510009 0 [])))
    ∧ (∀ u rest, s.d.can.sweeps = (s.d.hier.district, u) :: rest → (∀ n ∈ s.d.nbr.nodes, n.pennant.isSome = true) →
      ∃ t, exec .rejoinRequiredSweep s = .next t ∧ t.d.can.sweeps = rest ∧
        ∀ n ∈ t.d.nbr.nodes, n.state = .rejoinRequired ∧ n.sec.skValid = false)
    ∧ (∀ u, s.d.can.markDue = some u →
      ∃ t, exec .groupFcMarkCommit s = .next t ∧ u ≤ t.d.clk.up ∧ t.d.can.groupFc = s.d.can.groupFc ∧
        ((t.d.can.groupMark = Nat.min 0xFFFFFFFF (s.d.can.groupFc + 16777216) ∧ t.d.can.markDue = none) ∨
         (t.d.can.groupMark = s.d.can.groupMark ∧ t.d.can.markDue = some (t.d.clk.up + sec 1))))
    ∧ (∀ u k, s.d.can.overlapEnd = some u → s.d.can.old = [] → keyEntry s.d 7 s.d.hier.district = some k → k.present = true →
      ∃ t, exec .groupOverlapEnd s = .next t ∧ u ≤ t.d.clk.up ∧ t.d.can.group = some (k.gen, k.key) ∧ t.d.can.groupFc = 0 ∧ t.d.can.overlapEnd = none)

/-- R368, R369, R371, row by row. -/
def Obligations.LinkCommandsComplete : Prop :=
  ∀ s : State,
    (∀ port opener ononce pub, hlArrives s.d port = true → s.perm.role ≠ 0 → openAccepted s.perm s.d opener pub = true →
      ∃ t a l, exec (.openMsg port opener ononce pub) s = .next t ∧ l ∈ t.d.hier.links ∧ l.peer = opener ∧ l.up = true ∧ l.opened = false ∧ l.rxSeq = 0 ∧
        l.key = ⟨pub, ononce, a⟩ ∧ Out.hl opener (.openAck l.link a true) ∈ t.d.out ∧ raised t.d 114 (opener * 256 + 1))
    ∧ (∀ port peer link anonce ononce pub, hlArrives s.d port = true → openAccepted s.perm s.d peer pub = true →
      s.d.hier.opening.any (fun o => o.1 = peer && o.2.1 = ononce) = true →
      ∃ t l, exec (.openAck port peer link anonce ononce pub) s = .next t ∧ l ∈ t.d.hier.links ∧ l.peer = peer ∧ l.up = true ∧ l.opened = true ∧ l.rxSeq = 0 ∧
        l.link = link ∧ l.key = ⟨pub, ononce, anonce⟩ ∧ t.d.hier.opening.any (fun o => o.1 = peer) = false ∧ raised t.d 114 (peer * 256 + 1))
    ∧ (∀ h peer reason, hlTakes s.d h peer (.close reason) = true →
      ∃ t, exec (.hlClose h reason) s = .next t ∧ (∀ l ∈ t.d.hier.links, l.peer ≠ peer) ∧ raised t.d 114 (peer * 256))
    ∧ (qdlServed s.d = true → exec .hlMessageDiscard s = .next { s with d := count s.d 0x700010 })
    ∧ (∀ h c, linkHead c = some h → hlArrives s.d h.port = true → (∀ l, linkFor s.d h = some l → h.seq ≤ l.rxSeq) →
      ∃ t, exec c s = .next t ∧ t.d.hier = s.d.hier ∧ t.d.can = s.d.can ∧ t.d.nbr = s.d.nbr ∧ t.d.sched = s.d.sched ∧ t.d.fwd = s.d.fwd ∧
        t.d.bunting = s.d.bunting ∧ counter t.d 0x700010 = satAdd (counter s.d 0x700010) 1)
    ∧ (∀ r ∈ s.d.hier.requests, linkUp s.d r.peer = true → (∀ x ∈ s.d.hier.requests, r.at_ ≤ x.at_) → (∀ o ∈ s.d.hier.opening, r.at_ ≤ o.2.2) →
      ∃ t, exec .requestRepeat s = .next t ∧ r.at_ + ms 200 ≤ t.d.clk.up ∧ Out.hl r.peer r.msg ∈ t.d.out)
    ∧ (∀ o ∈ s.d.hier.opening, (∀ x ∈ s.d.hier.requests, o.2.2 ≤ x.at_) → (∀ x ∈ s.d.hier.opening, o.2.2 ≤ x.2.2) →
      ∃ t n, exec .requestRepeat s = .next t ∧ o.2.2 + ms 200 ≤ t.d.clk.up ∧ Out.hl o.1 (.openMsg n s.perm.hierId true) ∈ t.d.out)
    ∧ (∀ peer l, s.d.hier.links.find? (fun l => l.peer = peer && l.up) = some l →
      ∃ t, exec (.hlLinkDown peer) s = .next t ∧ linkUp t.d peer = false ∧ raised t.d 114 (peer * 256) ∧
        l.lastRx + ms (3 * hbInterval s.perm s.d) ≤ t.d.clk.up ∧ (l.opened = true → t.d.hier.opening.any (fun o => o.1 = peer) = true))
    ∧ (∀ d1 (x : Desc) kind band district epoch a0 a1, runtimeUp s.d = true → linkUp s.d 0 = true → takeFrom s.d (pq 4) = (d1, some x) →
      x.body = .hier kind band district epoch a0 a1 none → kind ≠ 1 →
      ∃ t, exec .hierarchyControl s = .next t ∧ Out.hl 0 (.report kind band district epoch a0 a1) ∈ t.d.out)

/-- R373-R378, R386, R387. -/
def Obligations.LeasesAndAutonomy : Prop :=
  ∀ (s : State) (h : HlHead), s.perm.role = 2 →
    (∀ seq district revoke standby ml epoch hb till, hlTakes s.d h 0 (.heartbeat seq district revoke standby ml epoch hb till) = true →
      ∃ t, exec (.heartbeat h seq district revoke standby ml epoch hb till) s = .next t ∧ Out.hl 0 (hbAckOf t.d seq) ∈ t.d.out ∧
        t.d.hier.lastHeartbeat = tbNs s.d ∧ t.d.hier.heardAt = some s.d.clk.up ∧
        (district ≠ 0 → district = s.d.hier.district → epoch = s.d.sched.epoch → standby = false →
          t.d.hier.leaseEnd = till ∧
          (revoke = false → s.d.hier.st = .leased ∨ s.d.hier.st = .autonomous ∨ (s.d.hier.st = .expired ∧ tbNs s.d < till) ∨
            (s.d.hier.st = .autonomyEnded ∧ tbNs s.d < till) ∨ (s.d.hier.st = .takingOver ∧ s.d.hier.readySent = true ∧ tbNs s.d < till) →
            t.d.hier.st = .leased) ∧
          (revoke = false → s.d.hier.st = .takingOver → s.d.hier.readySent = true → tbNs s.d < till →
            raised t.d 112 (district * 256 + s.perm.workerId)) ∧
          (revoke = true → s.d.hier.st = .autonomous → t.d.hier.st = .expired)) ∧
        (((district ≠ 0 ∧ district = s.d.hier.district ∧ s.d.sched.epoch < epoch) ∨ (standby = true ∧ serves s.d = true)) → s.d.hier.st ≠ .fenced →
          t.d.hier.st = .fenced ∧ t.d.hier.fenceEpoch = epoch ∧ t.d.sched.st = .stopped ∧ t.d.sched.stopCause = 2 ∧ raised t.d 109 epoch ∧ raised t.d 46 2) ∧
        (standby = true → serves s.d = false → s.d.hier.st ≠ .fenced → ¬ (district ≠ 0 ∧ district = s.d.hier.district ∧ s.d.sched.epoch < epoch) →
          t.d.hier.st = .standby))
    ∧ (s.d.hier.st = .leased →
      ∃ t, exec .leaseExpired s = .next t ∧ t.d.hier.st = .expired ∧ t.d.sched.st = .stopped ∧ t.d.sched.stopCause = 1 ∧ raised t.d 108 s.d.hier.district ∧
        (s.d.sched.st ≠ .stopped → raised t.d 46 1) ∧ t.d.clk = (reachTb s.d (firstT0 s.d s.d.hier.leaseEnd)).clk)
    ∧ (s.d.hier.st = .autonomous →
      ∃ t, exec .autonomyEnd s = .next t ∧ t.d.hier.st = .autonomyEnded ∧ t.d.sched.st = .stopped ∧ t.d.sched.stopCause = 3 ∧
        t.d.clk = (reachTb s.d (firstT0 s.d s.d.hier.autonomyEnd)).clk)
    ∧ (∀ u, s.d.hier.heardAt = some u → s.d.hier.st = .leased → s.d.hier.probe = none →
      ∃ t q, exec .heartbeatMissLimit s = .next t ∧ t.d.hier.probe = some q ∧ q.id = s.d.hier.nextProbe ∧ q.at_ = t.d.clk.up ∧ q.answers = [] ∧
        u + ms (missTime s.d) ≤ t.d.clk.up ∧ (∀ v, s.d.hier.probedAt = some v → v + sec 1 ≤ t.d.clk.up) ∧
        ∀ x ∈ s.d.hier.peers, linkUp s.d x.id = true → Out.hl x.id (.peerProbe q.id) ∈ t.d.out)
    ∧ (∀ q, s.d.hier.probe = some q →
      ∃ t, exec .peerProbeTimeout s = .next t ∧ t.d.hier.probe = none ∧ q.at_ + ms 500 ≤ t.d.clk.up ∧
        (if s.d.hier.st = .leased ∧ numN s.d 0x700008 ≤ q.answers.length ∧ ∀ x ∈ q.answers, missTime s.d ≤ x.2 then
          t.d.hier.st = .autonomous ∧ t.d.sched.st = .autonomous ∧ raised t.d 115 q.answers.length ∧
            t.d.hier.autonomyEnd = tbNs t.d + num s.d 0x700006 * 1000000000
         else t.d.hier.st = s.d.hier.st))

/-- R355, R370, R377, R379, R384, R388, R389, R391, R392, row by row. -/
def Obligations.ServerCommandsComplete : Prop :=
  ∀ (s : State) (h : HlHead), s.perm.role = 2 →
    (∀ k rs epoch base start, hlTakes s.d h 0 (.takeover k rs epoch base start) = true →
      ∃ t, exec (.takeover h k rs epoch base start) s = .next t ∧ t.d.hier.st = .takingOver ∧ t.d.hier.district = k ∧ t.d.hier.taking = k ∧
        t.d.sched.epoch = epoch ∧ t.d.sched.accepted = base ∧ t.d.hier.start = start ∧ t.d.hier.readySent = false)
    ∧ (∀ k epoch ref rt len mark seq n, hlTakes s.d h 0 (.replDistrict k epoch ref rt len mark seq n) = true → s.d.hier.st = .takingOver → k = s.d.hier.district →
      ∃ t, exec (.replDistrict h k epoch ref rt len mark seq n) s = .next t ∧ t.d.sched.asnRef = ref ∧ t.d.sched.asnRefTime = rt ∧
        t.d.sched.ver.tmpl.slotLen = len ∧ t.d.can.groupFc = mark)
    ∧ (∀ i : ReplNode, hlTakes s.d h 0 (.replNodes [i]) = true → s.d.hier.st = .takingOver →
      (insertEntry s.perm s.d i.eui i.short s.perm.workerId s.d.hier.district i.record true).2 = true →
      ∃ t n, exec (.replNodes h [i]) s = .next t ∧ nodeAt t.d i.record = some n ∧ n.eui = i.eui ∧ n.short = i.short ∧ n.route = i.route ∧
        ((restoredSec s.d i.sec).usesLeft ≠ 0 → (restoredSec s.d i.sec).txFc ≤ 0xFFFFFFFF →
          n.sec = restoredSec s.d i.sec ∧ n.pennant.map (fun q => { q with onDie := false }) = i.pennant.map restoredPennant))
    ∧ (∀ k n, hlTakes s.d h 0 (.replGone [k]) = true → s.d.hier.st = .takingOver → nodeAt s.d k = some n → nodeByEui s.d n.eui = some n →
      ∃ t, exec (.replGone h [k]) s = .next t ∧ nodeAt t.d k = none)
    ∧ (∀ a b, hlTakes s.d h 0 (.restoreEnd a b) = true → s.d.hier.st = .takingOver →
      ∃ t, exec (.restoreEnd h a b) s = .next t ∧
        (if s.d.clk.sync = .locked then t.d.hier.readySent = true ∧ Out.hl 0 (.ready s.d.hier.district s.d.hier.restoreStatus) ∈ t.d.out
         else t.d.hier.readyOwed = true ∧ t.d.hier.readySent = s.d.hier.readySent))
    ∧ (∀ l, hlTakes s.d h 0 (.peers l) = true →
      ∃ t, exec (.peers h l) s = .next t ∧ t.d.hier.peers = l ∧
        ∀ q ∈ l, s.perm.workerId < q.id → linkUp s.d q.id = false → ∃ n, Out.hl q.id (.openMsg n s.perm.workerId true) ∈ t.d.out)
    ∧ (∀ o p, hlTakes s.d h 0 (.keyMsg o p) = true →
      ∃ t, exec (.keyMsg h o p) s = .next t ∧
        Out.hl 0 (.keyResult (leAt o 56 8) (statusCode (keyUpdate s.perm s.d (parseUpdate o p)).2)) ∈ t.d.out)
    ∧ (∀ id total l, hlTakes s.d h 0 (.deltaPart id total 0 l) = true → total ≤ l.length → findKey DeltaParts.id id s.d.hier.parts = none →
      (∀ a ∈ s.d.hier.answers, ¬ (a.1 = 0 ∧ a.2.1 = 0x40 ∧ a.2.2.1 = id)) → (queue s.d (pq 3)).space (pq 3) = true →
      ∃ t y a, exec (.deltaPart h id total 0 l) s = .next t ∧ (queue t.d (pq 3)).packets = (queue s.d (pq 3)).packets ++ [y] ∧
        y.body = .delta 0 id a total (tbNs s.d) ∧ (a, l.take total) ∈ t.d.sched.working)
    ∧ (∀ id w j k, hlTakes s.d h 0 (.verdict id false w) = true → s.d.hier.joins.find? (fun j => j.id = id) = some j → dmk s.d = some k →
      ∃ t, exec (.verdict h id false w) s = .next t ∧ (∀ x ∈ t.d.hier.joins, x.id ≠ id) ∧ raised t.d 54 3)
    ∧ (∀ id w j k, hlTakes s.d h 0 (.verdict id true w) = true → s.d.hier.joins.find? (fun j => j.id = id) = some j → dmk s.d = some k →
      (match nodeByEui s.d j.eui with
        | some n => (insertEntry s.perm s.d j.eui n.short s.perm.workerId s.d.hier.district n.index true).2 = true
        | none => (insertEntry s.perm s.d j.eui (pickShort s.d j.req.lastShort) s.perm.workerId s.d.hier.district
            (lowestFree (s.d.nbr.nodes.map Node.index) 0) true).2 = true) →
      ∃ t n, exec (.verdict h id true w) s = .next t ∧ (∀ x ∈ t.d.hier.joins, x.id ≠ id) ∧ nodeByEui t.d j.eui = some n ∧ n.sec.nonce = j.req.nonce ∧
        n.sec.skValid = true ∧ n.sec.txFc = 0)
    ∧ (∀ j rest k, s.d.hier.joins = j :: rest → dmk s.d = some k →
      ∃ t, exec .claimWait s = .next t ∧ j.at_ + ms (numN s.d 0x70000C) ≤ t.d.clk.up ∧ (∀ x ∈ t.d.hier.joins, x.id ≠ j.id) ∧ raised t.d 54 3)
    ∧ (∀ id k, hlTakes s.d h 0 (.witnessReq id k) = true →
      ∃ t, exec (.witnessReq h id k) s = .next t ∧
        Out.hl 0 (match s.d.hier.beacons.find? (fun x => x.1 = k) with
          | some b => .witnessRsp id k (ageMs s.d (some b.2.1)) b.2.2 | none => .witnessRsp id k 0xFFFFFFFF 0) ∈ t.d.out)
    ∧ (∀ peer id, hlTakes s.d h peer (.peerProbe id) = true →
      ∃ t, exec (.peerProbe h id) s = .next t ∧ Out.hl peer (.peerAnswer id (ageMs s.d s.d.hier.heardAt)) ∈ t.d.out)
    ∧ (∀ peer id age q, hlTakes s.d h peer (.peerAnswer id age) = true → s.d.hier.probe = some q → q.id = id → (∀ a ∈ q.answers, a.1 ≠ peer) →
      ∃ t, exec (.peerAnswer h id age) s = .next t ∧ t.d.hier.probe = some { q with answers := q.answers ++ [(peer, age)] })
    ∧ (isServer s.d = true →
      (linkUp s.d 0 = true →
        ∃ t, exec .replInterval s = .next t ∧ s.d.hier.replAt + ms (numN s.d 0x70000A) ≤ t.d.clk.up ∧ t.d.hier.replAt = t.d.clk.up ∧
          t.d.hier.replicated = s.d.nbr.nodes.map replOf ∧ Out.hl 0 (replDistrictOf s.d) ∈ t.d.out ∧
          (∀ n ∈ replChanged s.d, ∃ l, n ∈ l ∧ Out.hl 0 (.replNodes l) ∈ t.d.out) ∧
          t.d.hier.fullLeft = s.d.hier.fullLeft.drop s.d.hier.fullShare ∧
          (∀ i ∈ s.d.hier.fullLeft.take s.d.hier.fullShare, ∀ n, nodeAt s.d i = some n → ∃ l, replOf n ∈ l ∧ Out.hl 0 (.replNodes l) ∈ t.d.out))
      ∧ ∃ t, exec .fullReplPeriod s = .next t ∧ s.d.hier.fullAt + sec (numN s.d 0x70000B) ≤ t.d.clk.up ∧ t.d.hier.fullAt = t.d.clk.up ∧
          t.d.hier.fullLeft = s.d.nbr.nodes.map Node.index)

/-- R390, on the manager and on the holder. -/
def Obligations.ClaimsAreDecided : Prop :=
  ∀ (s : State) (h : HlHead),
    (∀ eui e x (n : ReplNode) q c, tableEntry s.d eui = some e → districtOf s.d e.worker = some x → x.nodes.find? (fun n => n.eui = eui) = some n → n.pennant = some q →
      s.d.hier.sightings.find? (fun a => a.eui = eui && a.worker = e.worker) = some c →
      holderOf s.d eui = some (e.worker, if c.at_ < q.lastHeard then (q.lastHeard, q.lqi) else (c.at_, c.lqi)))
    ∧ (∀ w id eui lqi short sight, s.perm.manager = true → hlTakes s.d h w (.claim id eui lqi short sight) = true →
      let granted (t : State) : Prop := Out.hl w (.verdict id true w) ∈ t.d.out ∧
        ((insertEntry s.perm s.d eui short w ((districtOf s.d w).map DistrictRec.district |>.getD 0) 0xFFFFFFFF false).2 = true →
          (tableEntry t.d eui).map NtEntry.worker = some w)
      (holderOf s.d eui = none ∨ (∃ a b, holderOf s.d eui = some (w, a, b)) →
        ∃ t, exec (.claim h id eui lqi short sight) s = .next t ∧ granted t ∧ counter t.d 0x70100B = counter s.d 0x70100B)
      ∧ (∀ k last hl, holderOf s.d eui = some (k, last, hl) → k ≠ w → linkUp s.d k = true →
        (num s.d 0x701005 * 1000000 < ((sight - last).natAbs : Int) →
          ∃ t, exec (.claim h id eui lqi short sight) s = .next t ∧ granted t ∧ Out.hl k (.drop eui w) ∈ t.d.out ∧
            counter t.d 0x70100B = counter s.d 0x70100B)
        ∧ (¬ num s.d 0x701005 * 1000000 < ((sight - last).natAbs : Int) →
          (hl < lqi ∨ (lqi = hl ∧ w < k) →
            ∃ t, exec (.claim h id eui lqi short sight) s = .next t ∧ granted t ∧ Out.hl k (.drop eui w) ∈ t.d.out ∧
              counter t.d 0x70100B = satAdd (counter s.d 0x70100B) 1)
          ∧ (¬ (hl < lqi ∨ (lqi = hl ∧ w < k)) →
            ∃ t, exec (.claim h id eui lqi short sight) s = .next t ∧ Out.hl w (.verdict id false k) ∈ t.d.out ∧ tableEntry t.d eui = tableEntry s.d eui ∧
              counter t.d 0x70100B = satAdd (counter s.d 0x70100B) 1))))
    ∧ (∀ eui w n, s.perm.role = 2 → hlTakes s.d h 0 (.drop eui w) = true → nodeByEui s.d eui = some n → nodeAt s.d n.index = some n → n.pennant.isSome = true →
      n.state ≠ .dropped → (∀ m ∈ s.d.nbr.nodes, m ≠ n → m.eui ≠ eui ∧ m.index ≠ n.index ∧ m.short ≠ n.short) → s.d.nbr.nodes.count n = 1 →
      ∃ t, exec (.drop h eui w) s = .next t ∧ counter t.d 0x70000F = satAdd (counter s.d 0x70000F) 1 ∧ raised t.d 113 n.short ∧
        (if txList s.d n.short = [] then nodeAt t.d n.index = none ∧ tableEntry t.d eui = none
         else (nodeAt t.d n.index).map Node.state = some .dropped))

/-- R366, R372, R379-R381, R385, R388, R391, R397, R398, row by row. -/
def Obligations.ManagerCommandsComplete : Prop :=
  ∀ (s : State) (h : HlHead) (r : Req), s.perm.manager = true →
    (qdlServed s.d = true → s.d.pwr.mode.running = true →
      ∃ t, exec .heartbeatSend s = .next t ∧ s.d.hier.hbAt + ms (numN s.d 0x701001) ≤ t.d.clk.up ∧
        ∀ w, wProvisioned s.d w = true → linkUp s.d w = true →
          (∃ seq k rv sb ep till, Out.hl w (.heartbeat seq k rv sb (numN s.d 0x701003) ep (numN s.d 0x701001) till) ∈ t.d.out) ∧
          (districtOf s.d w = none → ∃ seq, Out.hl w (.heartbeat seq 0 false true (numN s.d 0x701003) 0 (numN s.d 0x701001) 0) ∈ t.d.out) ∧
          (∀ x, districtOf s.d w = some x → takeoverOf s.d x.district = none → (wRec s.d w).suspect = false → (wRec s.d w).acked = true →
            ∃ seq, Out.hl w (.heartbeat seq x.district false false (numN s.d 0x701003) x.epoch (numN s.d 0x701001) (leaseFrom t.d)) ∈ t.d.out))
    ∧ (∀ w seq hst st asn al bl, hlTakes s.d h w (.hbAck seq hst st asn al bl) = true → (wRec s.d w).hbSeq = some seq →
      ∃ t, exec (.hbAck h seq hst st asn al bl) s = .next t ∧ (wRec t.d w).suspect = false ∧ (wRec t.d w).dead = false ∧ (wRec t.d w).missed = 0 ∧
        (wRec t.d w).acked = true ∧ (wRec t.d w).hstate = hst ∧ (wRec t.d w).align = al)
    ∧ (∀ v id k age ep w, hlTakes s.d h v (.witnessRsp id k age ep) = true → w = (distRec s.d k).server → (wRec s.d w).suspect = true → (wRec s.d w).dead = false →
      ∃ t, exec (.witnessRsp h id k age ep) s = .next t ∧
        (if ((wRec s.d w).witness ++ [(age, ep)]).all (fun x => numN s.d 0x701006 < x.1 || x.2 ≠ (distRec s.d k).epoch) = true then
          (wRec t.d w).dead = true ∧ raised t.d 111 w
         else (wRec t.d w).suspect = true ∧ (wRec t.d w).dead = false ∧ (wRec t.d w).witness = (wRec s.d w).witness ++ [(age, ep)]))
    ∧ (∀ b : Byte, accepts s.d r 0x70100A = true →
      ∃ t, exec (.declareDead r [b]) s = .next t ∧
        (if wState s.d b.toNat = 3 then (wRec t.d b.toNat).dead = true ∧ raised t.d 111 b.toNat ∧ replyOf t.d r = some (.ok, .exec 0x70100A 0 [])
         else replyOf t.d r = some (.wrongMode, .exec 0x70100A 0 [])))
    ∧ (∀ arg k w, accepts s.d r 0x701009 = true → arg.length = 3 → k = leAt arg 0 2 → w = leAt arg 2 1 → 1 ≤ k → k ≤ 127 → w = 255 ∨ wProvisioned s.d w = true →
      (distRec s.d k).dstate ≠ 0 → takeoverOf s.d k = none →
      ∃ t x, exec (.takeoverCommand r arg) s = .next t ∧ replyOf t.d r = some (.ok, .exec 0x701009 1 []) ∧ takeoverOf t.d k = some x ∧
        x.old = (distRec s.d k).server ∧ x.wanted = (if w = 255 then none else some w) ∧ (distRec t.d k).dstate = 2 ∧
        (wProvisioned s.d x.old = true → linkUp s.d x.old = true →
          ∃ seq ep, Out.hl x.old (.heartbeat seq k true false (numN s.d 0x701003) ep (numN s.d 0x701001) (tbNs s.d)) ∈ t.d.out))
    ∧ (∀ arg k w, accepts s.d r 0x701008 = true → arg.length = 3 → w = leAt arg 0 1 → k = leAt arg 1 2 → 1 ≤ k → k ≤ 127 → wProvisioned s.d w = true →
      (distRec s.d k).dstate = 0 → districtOf s.d w = none → takeoverOf s.d k = none →
      ∃ t x, exec (.assign r arg) s = .next t ∧ replyOf t.d r = some (.ok, .exec 0x701008 1 []) ∧ takeoverOf t.d k = some x ∧ x.assign = true ∧ x.wanted = some w)
    ∧ (∀ x w, firstDue s.d = some x → takeoverOf s.d x.district = some x → chooseServer s.d x = some w → (commitEpoch (reach s.d x.due) x).2 = true →
      ∃ t y u, exec .takeoverStart s = .next t ∧ x.due ≤ t.d.clk.up ∧ takeoverOf t.d x.district = some y ∧ y.target = some w ∧ (distRec t.d x.district).server = w ∧
        Out.hl w (.takeover x.district x.restart (distRec t.d x.district).epoch (distRec s.d x.district).deltaCtr u) ∈ t.d.out)
    ∧ (∀ x w, s.d.hier.takeovers = [x] → x.target = none → x.committed = false → x.restart = false ∨ x.assign = true → chooseServer s.d x = some w →
      ∃ t y, exec .epochCommit s = .next t ∧ takeoverOf t.d x.district = some y ∧
        (if (commitEpoch (reach s.d x.due) x).2 = true then y.committed = true ∧ y.target = some w ∧ (distRec t.d x.district).epoch = (if x.assign then 1 else (distRec s.d x.district).epoch + 1)
         else y.committed = false ∧ y.target = none ∧ y.due = t.d.clk.up + sec 1 ∧ (distRec t.d x.district).epoch = (distRec s.d x.district).epoch))
    ∧ (∀ w k st x, hlTakes s.d h w (.ready k st) = true → takeoverOf s.d k = some x → x.target = some w →
      ∃ t, exec (.ready h k st) s = .next t ∧
        (if st = 0 then takeoverOf t.d k = none ∧ (distRec t.d k).server = w ∧ (distRec t.d k).dstate = 1 ∧ raised t.d 112 (k * 256 + w) ∧
            counter t.d 0x70100C = satAdd (counter s.d 0x70100C) 1 ∧
            ∃ seq, Out.hl w (.heartbeat seq k false false (numN s.d 0x701003) (distRec s.d k).epoch (numN s.d 0x701001) (leaseFrom s.d)) ∈ t.d.out
         else ∃ y, takeoverOf t.d k = some y ∧ y.target = none ∧ w ∈ y.tried))
    ∧ (∀ w k e ref rt len mark seq n, hlTakes s.d h w (.replDistrict k e ref rt len mark seq n) = true → (distRec s.d k).server = w →
      ∃ t, exec (.replDistrict h k e ref rt len mark seq n) s = .next t ∧ (distRec t.d k).asnRef = ref ∧ (distRec t.d k).asnRefTime = rt ∧
        (distRec t.d k).slotLen = len ∧ (distRec t.d k).mark = mark ∧ (distRec t.d k).deltaSeq = seq)
    ∧ (∀ w n x, hlTakes s.d h w (.replNodes [n]) = true → districtOf s.d w = some x →
      ∃ t, exec (.replNodes h [n]) s = .next t ∧ findKey ReplNode.record n.record (distRec t.d x.district).nodes = some n ∧
        ((tableEntry s.d n.eui).isSome = true → (tableEntry t.d n.eui).map NtEntry.worker = some w))
    ∧ (∀ w ctr st, hlTakes s.d h w (.keyResult ctr st) = true →
      ∃ t, exec (.keyResult h ctr st) s = .next t ∧ (wRec t.d w).keyResult = some (ctr, st))
    ∧ (∀ w id st re asn, hlTakes s.d h w (.deltaResult id st re asn) = true →
      ∃ t, exec (.deltaResult h id st re asn) s = .next t ∧ (wRec t.d w).deltaResult = some (id, st, asn))
    ∧ (∀ w k b d e a0 a1, hlTakes s.d h w (.report k b d e a0 a1) = true →
      ∃ t, exec (.report h k b d e a0 a1) s = .next t ∧ (wRec t.d w).lastReport = some (k, b, d, e, a0, a1))
    ∧ (∀ (w : Fin 160) key, writes s.perm s.d r 0 ⟨0x7020 + w.val, 2, 0x11, key⟩ = true →
      ∃ t, exec (.wPubkeyWrite r w key) s = .next t ∧ dictGet (wKey w 2) t.d.nv.rp = some (.bytes key) ∧ ∀ l ∈ t.d.hier.links, l.peer ≠ w.val)

/-- R412, with the window of R411. -/
def Obligations.BlockRequestsAreHandled : Prop :=
  ∀ (s : State) (d1 : Dev) (x : Desc) sfd src off a b e p g gr f (q : BlockReq), queuesOn s.d = true → unitWorks s.d .bunting = true → front s.d 36 = some x → x.dstat = 0 →
    takeFrom s.d 36 = (d1, some x) → x.body = .blockReq sfd src off a b e p → x.buf = some g → granule s.d g = some gr → gr.poison = false →
    gr.body = .mac f → messageOf s.d f = .blockReq q →
    ((∀ n, nodeOf s.d (if q.forNode = 0xFFFF then src else q.forNode) = some n →
        n.bunt.state = 0 ∨ n.bunt.tag ≠ q.tag ∨ 2 < n.bunt.state ∨ campActive s.d n.bunt.campaign = false) →
      ∃ t, exec .blockReq s = .next t ∧ t.d.nbr.nodes = s.d.nbr.nodes ∧ counter t.d 0x610009 = satAdd (counter s.d 0x610009) 1 ∧
        counter t.d 0x610008 = satAdd (counter s.d 0x610008) 1)
    ∧ (∀ n, nodeOf s.d (if q.forNode = 0xFFFF then src else q.forNode) = some n → nodeAt s.d n.index = some n → n.bunt.state = 1 ∨ n.bunt.state = 2 → n.bunt.tag = q.tag →
      campActive s.d n.bunt.campaign = true →
      ∃ t m, exec .blockReq s = .next t ∧ nodeAt t.d n.index = some m ∧ m.bunt.lastReq = tbNs s.d ∧ m.bunt.campaign = n.bunt.campaign ∧
        counter t.d 0x610008 = satAdd (counter s.d 0x610008) 1 ∧
        (q.done = true → m.bunt.state = 3 ∧ (camp t.d n.bunt.campaign).doneN = (camp s.d n.bunt.campaign).doneN + 1) ∧
        (q.done = false → q.refuse = true → m.bunt.state = 4 ∧ (camp t.d n.bunt.campaign).refusedN = (camp s.d n.bunt.campaign).refusedN + 1) ∧
        (q.done = false → q.refuse = false → q.verifyFail = true → m.bunt.verify = n.bunt.verify + 1 ∧
          (if 2 ≤ n.bunt.verify then m.bunt.state = 5 ∧ m.bunt.cause = 3 else m.bunt.state = 2)) ∧
        (q.done = false → q.refuse = false → q.verifyFail = false → m.bunt.state = 2 ∧
          (∀ k, k < n.bunt.base + 2048 → k < campBlocks s.d n.bunt.campaign →
            m.bunt.holds k = (decide (k < n.bunt.base) || if k < q.base then true else if k < q.base + q.count then !q.missing.contains k else n.bunt.holds k)) ∧
          (∀ k, (∀ i, q.base ≤ i → i < q.base + q.count → i < campBlocks s.d n.bunt.campaign → (q.missing.contains i = true ↔ i = k)) →
            q.base ≤ k → k < q.base + q.count → k < campBlocks s.d n.bunt.campaign → (camp s.d n.bunt.campaign).st = 3 →
            demand t.d n.bunt.campaign k < numN s.d (campKey n.bunt.campaign 6) → numN s.d (campKey n.bunt.campaign 0x0A) ≠ 0 →
            repairOpen (camp s.d n.bunt.campaign) n.short k = false →
            (camp t.d n.bunt.campaign).waiting = (camp s.d n.bunt.campaign).waiting ++
              (blockParts s.d n.bunt.campaign k).map (fun j => { nbr := src, node := n.short, block := k, part := j }))))

/-- R401, R405, R413-R418, R420-R422, row by row. -/
def Obligations.BuntingCommandsComplete : Prop :=
  ∀ (s : State) (r : Req) (c : Fin 8),
    (∀ arg, accepts s.d r 0x610004 = true → arg.length = 44 → leAt arg 0 2 < repoSlots s.d → 1 ≤ leAt arg 8 4 → leAt arg 8 4 ≤ 1048576 →
      (∀ i, imageAt s.d (leAt arg 0 2) = some i → i.st = 2 → i.kind = leAt arg 2 2 ∧ i.version = leAt arg 4 4 ∧ i.size = leAt arg 8 4 ∧ i.digest = leAt arg 12 32) →
      ((∀ i, imageAt s.d (leAt arg 0 2) = some i → i.st ≠ 2) → slotUsers s.d (leAt arg 0 2) = []) →
      ∃ t, exec (.imageCommit r arg) s = .next t ∧ replyOf t.d r = some (.ok, .exec 0x610004 1 []) ∧
        t.d.bunting.committing = some (leAt arg 0 2, leAt arg 2 2, leAt arg 4 4, leAt arg 8 4, leAt arg 12 32))
    ∧ (∀ slot kind version size digest, s.d.bunting.committing = some (slot, kind, version, size, digest) → taskRuns s.d 6 = true → Memory.wf s.mem = true →
      ∃ t, exec .imageCommitted s = .next t ∧ t.d.bunting.committing = none ∧
        (if leNat (sha256 (stagedString s.d 0x610003 size)) = digest then
          raised t.d 104 (slot * 256) ∧ (imageAt t.d slot).map ImageRec.st = some 1 ∧ (imageAt t.d slot).map ImageRec.size = some size ∧
            (∀ i, i < size → memGet (slotBase s.d slot + i) t.mem = (stagedString s.d 0x610003 size).getD i 0) ∧
            (∀ a, a < slotBase s.d slot ∨ slotBase s.d slot + size ≤ a → memGet a t.mem = memGet a s.mem)
         else raised t.d 104 (slot * 256 + 1) ∧ t.d.bunting.images = s.d.bunting.images ∧ t.mem = s.mem))
    ∧ (∀ arg, accepts s.d r 0x610005 = true → arg.length = 2 → leNat arg < repoSlots s.d →
      ∃ t, exec (.imageDelete r arg) s = .next t ∧
        (if slotUsers s.d (leNat arg) = [] then imageAt t.d (leNat arg) = none ∧ replyOf t.d r = some (.ok, .exec 0x610005 0 [])
         else t.d.bunting = s.d.bunting ∧ replyOf t.d r = some (.wrongMode, .exec 0x610005 0 [])))
    ∧ (accepts s.d r 0x610007 = true →
      ∃ t, exec (.imageDiscard r []) s = .next t ∧ replyOf t.d r = some (.ok, .exec 0x610007 0 []) ∧ stagedEnd t.d 0x610003 = 0)
    ∧ (accepts s.d r (campKey c 0x0D) = true → s.perm.manager = false → spareIdle s.d = false → (camp s.d c).st = 0 ∨ 5 ≤ (camp s.d c).st →
      (imageAt s.d (campSlot s.d c)).map ImageRec.st = some 1 →
      ∃ t, exec (.cStart r c []) s = .next t ∧ (camp t.d c).st = 1 ∧ raised t.d 105 (c.val * 256 + 1) ∧
        replyOf t.d r = some (.ok, .exec (campKey c 0x0D) 0 (toLe 4 ((candidates s.d c).filter (fun n => !takenElsewhere s.d c n)).length)) ∧
        ∀ n ∈ candidates s.d c, takenElsewhere s.d c n = false →
          ∃ m, nodeAt t.d n.index = some m ∧ m.bunt.campaign = c.val ∧ m.bunt.state = 1 ∧ m.bunt.map = 0 ∧ m.bunt.tag = numN s.d (campKey c 3))
    ∧ (accepts s.d r (campKey c 0x0E) = true → 1 ≤ (camp s.d c).st → (camp s.d c).st ≤ 3 →
      ∃ t, exec (.cPause r c []) s = .next t ∧ (camp t.d c).st = 4 ∧ (camp t.d c).prior = (camp s.d c).st ∧ (camp t.d c).pauseCause = 1 ∧
        raised t.d 105 (c.val * 256 + 4) ∧ replyOf t.d r = some (.ok, .exec (campKey c 0x0E) 0 []))
    ∧ (accepts s.d r (campKey c 0x0F) = true → (camp s.d c).st = 4 →
      ∃ t, exec (.cResume r c []) s = .next t ∧ (camp t.d c).st = (camp s.d c).prior ∧ (camp t.d c).pauseCause = 0 ∧
        replyOf t.d r = some (.ok, .exec (campKey c 0x0F) 0 []))
    ∧ (accepts s.d r (campKey c 0x10) = true → campActive s.d c = true →
      ∃ t, exec (.cAbort r c []) s = .next t ∧ (camp t.d c).st = 6 ∧ (camp t.d c).waiting = [] ∧ (camp t.d c).dropList = true ∧
        raised t.d 105 (c.val * 256 + 6) ∧ replyOf t.d r = some (.ok, .exec (campKey c 0x10) 0 []))
    ∧ (∀ arg, accepts s.d r 0x61000F = true → s.perm.manager = true → arg.length = 4 → 1 ≤ leAt arg 0 1 → leAt arg 0 1 ≤ 159 → leAt arg 1 1 ≤ 7 →
      leAt arg 2 2 < repoSlots s.d → (imageAt s.d (leAt arg 2 2)).map ImageRec.st = some 1 →
      ∃ t, exec (.campaignAssign r arg) s = .next t ∧ replyOf t.d r = some (.ok, .exec 0x61000F 1 []))
    ∧ (∀ arg, accepts s.d r 0x61000D = true → arg.length = 2 →
      ∃ t, exec (.buntingQuery r arg) s = .next t ∧
        replyOf t.d r = some (match nodeOf s.d (leNat arg) with | some n => (.ok, .exec 0x61000D 0 (areaOctets n.bunt)) | none => (.noEntry, .exec 0x61000D 0 [])))
    ∧ (∀ d1 (x : Desc) sfd src off lqi b p, queuesOn s.d = true → unitWorks s.d .bunting = true → front s.d 36 = some x → takeFrom s.d 36 = (d1, some x) →
      x.body = .blockReq sfd src off lqi c b p →
      (x.dstat = 1 →
        ∃ t, exec .multicastFrameSent s = .next t ∧ counter t.d 0x61000A = satAdd (counter s.d 0x61000A) 1 ∧ (camp t.d c).outN = (camp s.d c).outN - 1 ∧
          (camp t.d c).lastSent = s.d.clk.up ∧ (camp t.d c).stalled = false ∧
          ((camp s.d c).st = 2 → (camp s.d c).plan = [] → (camp s.d c).annDue = false → (camp s.d c).outN ≤ 1 → (camp t.d c).st = 3 ∧ raised t.d 105 (c.val * 256 + 3)))
      ∧ (x.dstat = 2 →
        ∃ t, exec .repairAcknowledged s = .next t ∧ counter t.d 0x61000B = satAdd (counter s.d 0x61000B) 1 ∧
          (camp t.d c).repairs = (camp s.d c).repairs.eraseP (fun y => y.nbr = src && y.block = b && y.part = p))
      ∧ (x.dstat = 3 →
        ∃ t, exec .repairAbandoned s = .next t ∧ (camp t.d c).repairs = (camp s.d c).repairs.eraseP (fun y => y.nbr = src && y.block = b && y.part = p))
      ∧ (x.dstat = 4 → ∃ t, exec .frameDiscarded s = .next t ∧ (camp t.d c).outN = (camp s.d c).outN - 1))
    ∧ (∀ i, queuesOn s.d = true → unitWorks s.d .bunting = true → (queue s.d 35).space 35 = true → imageAt s.d (campSlot s.d c) = some i →
      ((camp s.d c).st = 1 → (camp s.d c).outN < 4 → 2 ≤ (camp s.d c).announce → (pushAnnounce s.d c i).2 = true →
        ∃ t y, exec (.buntingFramePush c false) s = .next t ∧ (camp t.d c).announce = (camp s.d c).announce - 1 ∧ (camp t.d c).outN = (camp s.d c).outN + 1 ∧
          (queue t.d 35).packets = (queue s.d 35).packets ++ [y] ∧ y.dtype = 8)
      ∧ (∀ x, (camp s.d c).waiting = [x] → outstanding s.d x.nbr < 4 → campActive s.d c = true → (camp s.d c).st ≠ 4 →
        (pushData s.mem s.d c i x.block x.part true 2 x.nbr (if x.node = x.nbr then 0xFFFF else x.node)).2 = true →
        ∃ t, exec (.buntingFramePush c true) s = .next t ∧ (camp t.d c).waiting = [] ∧ (camp t.d c).repairs = (camp s.d c).repairs ++ [x]))
    ∧ (∀ blocks, (camp s.d c).st = 3 → blocks = (upTo (campBlocks s.d c)).filter (fun b => numN s.d (campKey c 6) ≤ demand s.d c b) →
      ∃ t, exec (.roundGapEnd c) s = .next t ∧ (camp s.d c).gapAt + sec (numN s.d (campKey c 8)) ≤ t.d.clk.up ∧
        (if (targets s.d c).any Node.open_ = false then (camp t.d c).st = 5 ∧ raised t.d 105 (c.val * 256 + 5)
         else if (camp s.d c).round = numN s.d (campKey c 7) ∨ blocks = [] then (camp t.d c).st = 3 ∧ (camp t.d c).gapAt = t.d.clk.up
         else (camp t.d c).st = 2 ∧ (camp t.d c).round = (camp s.d c).round + 1 ∧ (camp t.d c).plan = planOf s.d c blocks ∧ (camp t.d c).annDue = true))
    ∧ (∀ n cause, queuesOn s.d = true → unitWorks s.d .bunting = true → s.d.nbr.nodes = [n] → lateCause (reach s.d (s.d.bunting.lastCheck + sec 1)) n = some cause →
      ∃ t m, exec .targetCheck s = .next t ∧ t.d.bunting.lastCheck = t.d.clk.up ∧ s.d.bunting.lastCheck + sec 1 ≤ t.d.clk.up ∧
        t.d.nbr.nodes = [m] ∧ m.bunt.state = 5 ∧ m.bunt.cause = cause)
    ∧ ((camp s.d c).st = 1 ∨ (camp s.d c).st = 2 → (camp s.d c).stalled = false →
      ∃ t, exec (.campaignStalled c) s = .next t ∧ (camp t.d c).stalled = true ∧
        (if s.d.sched.ver.cells.any (fun x => x.mcast && x.group = 0xB000 + c) = true then
          raised t.d 107 (c.val * 256 + 2) ∧ (camp s.d c).lastSent + sec (numN s.d 0x610010) ≤ t.d.clk.up
         else raised t.d 107 (c.val * 256 + 1)))
    ∧ (runtimeUp s.d = true → exec .buntingControl s = .next { s with d := (takeFrom s.d (pq 6)).1 })

/-- R439, row by row of its table. -/
def Obligations.GovernorStatesFollowTheirConditions : Prop :=
  ∀ (s : State) temps holdup, s.d.pwr.mode ≠ .m0 →
    ∃ t, exec (.sensorSample temps holdup) s = .next t ∧ (s.d.pwr.mode.asleep = false ∨ t.d.pwr.mode = s.d.pwr.mode →
      s.d.gov.sampleAt + ms 1 ≤ t.d.clk.up ∧ t.d.gov.sampleAt = t.d.clk.up ∧
      (let crit := num s.d 0x114003
       let shed := num s.d 0x114001
       let hyst := num s.d 0x114002
       if (s.d.gov.st = 4 ∧ crit - hyst < tMax t.d) ∨ (s.d.gov.st ≠ 4 ∧ crit ≤ tMax t.d) then t.d.gov.st = 4
       else t.d.gov.st =
         (if s.d.gov.e < eCap s.d * num s.d (if s.d.gov.st = 1 ∨ s.d.gov.st = 3 then 0x110010 else 0x11000F) / 100 then 1 else 0) +
         (if (s.d.gov.st = 2 ∨ s.d.gov.st = 3) ∧ shed - hyst < tMax t.d ∨ ¬ (s.d.gov.st = 2 ∨ s.d.gov.st = 3) ∧ shed ≤ tMax t.d then 2 else 0)) ∧
      (t.d.gov.st ≠ s.d.gov.st → raised t.d 8 t.d.gov.st ∧
        (s.d.pwr.mode.asleep = false → (queue s.d (pq 7)).space (pq 7) = true → ∃ y ∈ (queue t.d (pq 7)).packets, y.dtype = 0x12 ∧ y.dstat = 1)))

/-- R425-R428, R431, R438, R440, R441, R499, row by row. -/
def Obligations.GovernorCommandsComplete : Prop :=
  ∀ s : State,
    (s.d.pwr.mode ≠ .m0 →
      ∃ t, exec .refill s = .next t ∧ s.d.gov.refillAt + ms 1 ≤ t.d.clk.up ∧ t.d.gov.refillAt = t.d.clk.up ∧
        t.d.gov.frac = (s.d.gov.frac + refillHundredths s.d) % 100 ∧
        t.d.gov.e = (let e := s.d.gov.e + ((s.d.gov.frac + refillHundredths s.d) / 100 : Nat); if eCap s.d < e then eCap s.d else e) ∧
        (t.d.gov.night ≠ s.d.gov.night → raised t.d 13 (boolNum t.d.gov.night)))
    ∧ (∀ samples d1 fore, s.d.pwr.mode ≠ .m0 → d1 = reach s.d (s.d.gov.reconAt + sec 1) →
      fore = ((s.d.gov.granted.filter (fun g => g.fin ≤ tbNs d1)).map GrantedCost.energy).foldl (· + ·) 0 →
      ∃ t, exec (.reconciliation samples) s = .next t ∧ t.d.clk = d1.clk ∧ t.d.gov.reconAt = d1.clk.up ∧
        t.d.gov.granted = s.d.gov.granted.filter (fun g => tbNs d1 < g.fin) ∧
        t.d.gov.e = (if s.d.pwr.mode.asleep = true then s.d.gov.e - sleepPower s.d.pwr.mode + fore
          else if flag s.d 0x110014 then s.d.gov.e - measuredEnergy s.d samples + fore else s.d.gov.e - num s.d 0x110017 * 1000) ∧
        t.d.pwr = s.d.pwr ∧ t.d.queues = s.d.queues ∧ t.d.ev = s.d.ev)
    ∧ (∀ u, s.d.gov.battStale = false → s.d.gov.battAt = some u →
      ∃ t, exec .battStale s = .next t ∧ t.d.gov.battStale = true ∧ u + sec (numN s.d 0x110019) ≤ t.d.clk.up ∧
        (s.d.gov.battRaised = none → t.d.ev.pending.testBit 10 = true ∧ t.d.gov.battRaised = some t.d.clk.up))
    ∧ (∀ temps holdup, s.d.pwr.mode ≠ .m0 → s.d.pwr.mode.asleep = false →
      ∃ t, exec (.sensorSample temps holdup) s = .next t ∧ t.d.nv.sense = lastN 8 (s.d.nv.sense ++ [holdup]) ∧
        (1250 ≤ tMax t.d → s.d.pwr.mode ≠ .m11 → t.d.pwr.mode = .m11 ∧ t.d.pwr.faultCause = 3 ∧ raised t.d 15 (u32Of (tMax t.d)) ∧
          t.d.bandSf.tx = none ∧ t.d.bandG.tx = none))
    ∧ (∀ temps holdup, s.d.pwr.mode.asleep = true →
      ∃ t, exec (.sensorSample temps holdup) s = .next t ∧
        ((t.d.pwr.mode = s.d.pwr.mode ∧ t.d.nv.sense = s.d.nv.sense) ∨ (t.d.pwr.mode = .m11 ∧ t.d.pwr.faultCause = 3 ∧ t.d.ev.pending.testBit 15 = true)))
    ∧ (∀ key u, s.d.gov.deferred.find? (fun x => x.1 = key) = some (key, u) →
      ∃ t, exec (.cmdDeferMax key) s = .next t ∧ u + sec (numN s.d 0x11001D) ≤ t.d.clk.up ∧ t.d.qdl.running.contains key = false ∧
        (∀ x ∈ t.d.gov.deferred, x.1 ≠ key) ∧ (key = 0x402005 → t.d.store.scrubNow = false) ∧ (key = 0x610004 → t.d.bunting.committing = none) ∧
        (key ≠ 0x310021 → t.d.ev.pending.testBit (if key = 0x402005 then 65 else if key = 0x610004 then 104 else if key = 0x600002 then 100 else 24) = true) ∧
        (∀ x, key = 0x310021 → s.d.nbr.burst = some x → t.d.nbr.burst = none ∧ raised t.d 55 (3 * 0x1000000 + bandNum x.band * 0x10000 + x.channel)))
    ∧ (∀ d1 (x : Desc), runtimeUp s.d = true → takeFrom s.d (pq 7) = (d1, some x) → x.dstat = 2 ∨ x.dstat = 3 →
      ∃ t, exec .governorCommand s = .next t ∧ t.d.gov.hold = decide (x.dstat = 2))

/-- R452, R453, R457, R461, row by row. A DUTY_MODE write acts at once where no slot is prepared by the model's choice (log 41). -/
def Obligations.ModesFollowTheirCommands : Prop :=
  ∀ (s : State) (r : Req),
    (∀ v : Byte, writes s.perm s.d r 0 (writeItem 0x100003 [v]) = true →
      ∃ t, exec (.dutyModeWrite r v) s = .next t ∧ numN t.d 0x100003 = v.toNat ∧
        (preparesSlots s.d = false → s.d.pwr.mode = .m6 ∨ s.d.pwr.mode = .m7 → s.d.gov.st = 0 → s.d.pwr.fullOnly = false →
          t.d.pwr.mode = (if v = 0 then .m7 else .m6)))
    ∧ (accepts s.d r 0x10000A = true →
      ((s.d.pwr.mode = .m6 ∨ s.d.pwr.mode = .m7) → (s.d.sched.st = .none ∨ s.d.sched.st = .stopped) →
        ∃ t, exec (.maintenanceEnter r [1]) s = .next t ∧ t.d.pwr.mode = .m10 ∧ replyOf t.d r = some (.ok, .exec 0x10000A 0 []) ∧
          t.d.sched.prep = none ∧ t.d.sched.now = none ∧ domainOn t.d 3 = true ∧ raised t.d 0 (s.d.pwr.mode.num * 256 + 10))
      ∧ (¬ ((s.d.pwr.mode = .m6 ∨ s.d.pwr.mode = .m7) ∧ (s.d.sched.st = .none ∨ s.d.sched.st = .stopped)) →
        ∃ t, exec (.maintenanceEnter r [1]) s = .next t ∧ t.d.pwr.mode = s.d.pwr.mode ∧ replyOf t.d r = some (.wrongMode, .exec 0x10000A 0 []))
      ∧ (s.d.pwr.mode = .m10 →
        ∃ t, exec (.maintenanceExit r [0]) s = .next t ∧ replyOf t.d r = some (.ok, .exec 0x10000A 0 []) ∧
          t.d.pwr.mode = (if s.d.pwr.fullOnly = true ∨ numN s.d 0x100003 = 0 then .m7 else .m6))
      ∧ (s.d.pwr.mode ≠ .m10 →
        ∃ t, exec (.maintenanceExit r [0]) s = .next t ∧ t.d.pwr.mode = s.d.pwr.mode ∧ replyOf t.d r = some (.wrongMode, .exec 0x10000A 0 [])))
    ∧ (∀ (arg : List Byte) mode force (alarm : Int) sources st, accepts s.d r 0x100009 = true → arg.length = 16 →
      mode = leAt arg 0 1 → force = (leAt arg 1 1).testBit 0 → alarm = signedOf 8 (leAt arg 8 8) →
      sources = (let l := numN s.d 0x10000B &&& offered mode; if alarm = 0 then clearBit l 3 else l) →
      st = (if sleepFieldsOk s.d arg = false then .outOfRange
            else if alarm ≠ 0 ∧ alarm < tbNs s.d + 100000000 then .outOfRange
            else if sources = 0 then .outOfRange
            else if force = false ∧ (s.d.hier.st = .leased ∨ s.d.hier.st = .autonomous ∨ s.d.hier.st = .takingOver) then .wrongMode
            else if s.d.pwr.sleepReq.isSome = true then .busy
            else .ok) →
      ∃ t, exec (.sleep r arg) s = .next t ∧ replyOf t.d r = some (st, .exec 0x100009 0 []) ∧
        (st ≠ .ok → t.d.pwr = s.d.pwr) ∧
        (st = .ok → t.d.pwr.sleepReq = some (mode, leAt arg 2 1, leAt arg 3 1, alarm) ∧ t.d.pwr.sleepDue = s.d.clk.up + ms 50 ∧ t.d.pwr.mode = s.d.pwr.mode))

/-- R462-R469, R473, row by row. -/
def Obligations.SleepAndWakeFollowTheirSources : Prop :=
  ∀ (s : State) mode hb ch (alarm : Int), s.d.pwr.sleepReq = some (mode, hb, ch, alarm) →
    (s.d.pwr.entering = false → sleepable s.d = true →
      ∃ t, exec .sleepEntry s = .next t ∧ t.d.pwr.entering = true ∧ t.d.qdl.sessions = [] ∧ t.d.pwr.meshOk = false ∧ t.d.sched.prep = none ∧
        t.d.pwr.lastSleep = mode ∧ t.d.pwr.sleepEntryTime = tbNs t.d ∧ t.d.pwr.sleepDistrict = s.d.hier.district ∧ s.d.pwr.sleepDue ≤ t.d.clk.up)
    ∧ (s.d.pwr.entering = true →
      ∃ t, exec .sleepEntry s = .next t ∧ t.d.pwr.mode = (if mode = 1 then .m1 else if mode = 2 then .m2 else .m3) ∧ t.d.pwr.entering = false ∧
        t.d.pwr.domains = (if mode = 1 then 1 else 3) ∧ t.d.pwr.padHold = 0x980 ∧ t.d.pwr.vcoreOn = false ∧ t.d.pwr.meshOk = false ∧
        t.d.bandSf.tx = none ∧ t.d.bandG.tx = none ∧ t.d.can.hot = [] ∧ (mode = 1 → t.d.can.retention = []) ∧ t.d.pps.out = false ∧
        t.d.clk.fast = false ∧ s.d.pwr.sleepDue + ms 58 ≤ t.d.clk.up)
    ∧ (∀ (c : Instr) bit (symbols : Fin 65) (ident : BitVec 16), s.d.pwr.mode.asleep = true → s.d.pwr.entering = false → s.d.start.stage ≠ .waitPg →
      ((c = .wakeIn ∧ bit = 2) ∨ (c = .e0LinkEnergy ∧ bit = 0) ∨
        (c = .halyardWindow symbols true ident ∧ bit = 1 ∧ s.d.pwr.mode = .m3 ∧ numN s.d 0x100011 ≤ symbols.val ∧
          (ident.toNat = s.d.pwr.sleepDistrict ∨ ident.toNat = 0xFFFF))) →
      ∃ t, exec c s = .next t ∧ t.d.pwr.mode = s.d.pwr.mode ∧
        ((numN s.d 0x10000B &&& offered mode).testBit bit = true →
          t.d.pwr.wakeCause = 2 ^ bit ∧ t.d.pwr.wakeTime = tbNs s.d ∧ t.d.pwr.vcoreOn = true ∧ t.d.start.stage = .waitPg ∧ t.d.start.cause = 3) ∧
        ((numN s.d 0x10000B &&& offered mode).testBit bit = false → t.d.start = s.d.start ∧ t.d.pwr.vcoreOn = s.d.pwr.vcoreOn))
    ∧ (s.d.pwr.mode.asleep = true → s.d.pwr.entering = false → s.d.start.stage ≠ .waitPg → alarm ≠ 0 → (numN s.d 0x10000B &&& offered mode).testBit 3 = true →
      ∃ t, exec .wakeAlarm s = .next t ∧ t.d.pwr.wakeCause = 8 ∧ t.d.pwr.wakeTime = tbNs (reachTb s.d alarm) ∧ t.d.start.stage = .waitPg ∧
        t.d.start.cause = 3)
    ∧ (s.d.pwr.entering = true → (numN s.d 0x10000B &&& offered mode).testBit 2 = true →
      ∃ t, exec .wakeIn s = .next t ∧ t.d.pwr.entering = false ∧
        (if s.d.clk.up < s.d.pwr.sleepDue + ms 57 then t.d.pwr.sleepReq = none ∧ t.d.pwr.mode = s.d.pwr.mode ∧ raised t.d 4 4
         else t.d.pwr.wakeCause = 4 ∧ t.d.start.stage = .waitPg ∧ t.d.start.cause = 3))
    ∧ (∀ (symbols : Fin 65) (ident : BitVec 16), s.d.pwr.mode = .m3 → s.d.start.stage ≠ .waitPg → numN s.d 0x100011 ≤ symbols.val →
      ident.toNat ≠ s.d.pwr.sleepDistrict → ident.toNat ≠ 0xFFFF →
      ∃ t, exec (.halyardWindow symbols true ident) s = .next t ∧ t.d.pwr.halyardForeign = satAdd s.d.pwr.halyardForeign 1 ∧
        t.d.pwr.halyardLastId = ident.toNat ∧ t.d.pwr.mode = .m3 ∧ t.d.start = s.d.start)

/-- R480 steps 1 to 10, R481, R483, R484, R594, in the order of the steps. -/
def Obligations.StartFollowsItsSteps : Prop :=
  ∀ (s : State) (b : BootResult), s.d.start.stage = .waitPg → s.d.start.factoryTest = false → s.d.nv.unreadable = false →
    ∃ t, exec (.powerGood b) s = .next t ∧ t.perm = s.perm ∧ t.d.pwr.vioA18 = b.vioA18 ∧ t.d.pwr.vioB18 = b.vioB18 ∧
      (if b.lock = false then t.d.pwr.mode = .m11 ∧ t.d.pwr.faultCause = 2
       else if b.storeOk = false then t.d.pwr.mode = .m11 ∧ t.d.pwr.faultCause = 4 ∧ t.d.start.detail = 1
       else if s.perm.provisioned = false then t.d.pwr.mode = .m5 ∧ t.d.start.rootDue.isNone = s.perm.root
       else if s.perm.root = false then t.d.pwr.mode = .m11 ∧ t.d.pwr.faultCause = 5
       else if tampered s.d = true ∨ tamperAsserted s.d = true then t.d.pwr.mode = .m11 ∧ t.d.pwr.faultCause = 1
       else if s.d.start.cause = 6 ∧ 3 ≤ s.d.start.watchdogResets then t.d.pwr.mode = .m11 ∧ t.d.pwr.faultCause = 4 ∧ t.d.start.detail = 5
       else if keyPresent s.d 5 0 = none ∨ b.unwrapOk = false then t.d.pwr.mode = .m11 ∧ t.d.pwr.faultCause = 4 ∧ t.d.start.detail = 3
       else
         (b.flashSize < 67108864 ∨ (∀ sl, sl < 2 → 2 ≤ (fwSlot s.d sl).st → (fwSlot s.d sl).st ≤ 4 →
            slotReason s.perm s.d sl (if sl = 0 then b.slotA else b.slotB) ≠ 0) →
          t.d.pwr.mode = .m11 ∧ t.d.pwr.faultCause = 4 ∧ t.d.start.detail = 2)
         ∧ (∀ sl, sl < 2 → 67108864 ≤ b.flashSize → (fwSlot s.d sl).st = 4 → slotReason s.perm s.d sl (if sl = 0 then b.slotA else b.slotB) = 0 →
            (fwSlot s.d (1 - sl)).st ≠ 3 → (fwSlot s.d (1 - sl)).st ≠ 4 →
            t.d.pwr.mode = .m4 ∧ t.d.fw.running = some sl ∧ t.d.start.stage = .booting ∧ t.d.start.runtimeAt = t.d.clk.up))

/-- R238, R480 steps 4 and 10 to 14, R483, R486, R487, row by row. -/
def Obligations.StartCommandsComplete : Prop :=
  ∀ s : State,
    (s.d.start.stage = .booting → s.d.start.clearDone = false →
      (∃ t, exec (.storeClearDone 0) s = .next t ∧ t.mem = [] ∧ t.d.start.clearDone = true ∧
        (s.d.start.ready = true → s.d.start.migrationWait = none → s.perm.manager = true → s.d.bandSf.cal = none → s.d.bandG.cal = none →
          s.d.pwr.mode = .m4 → t.d.pwr.mode = .m7 ∧ t.d.start.stage = .done ∧ t.d.start.served = true ∧ t.d.start.bootRuntime = false ∧
            t.d.start.startCount = satAdd s.d.start.startCount 1 ∧ t.d.start.watchdogResets = 0 ∧ raised t.d 0 (4 * 256 + 7)))
      ∧ (∀ n, 0 < n → ∃ t, exec (.storeClearDone n) s = .next t ∧ t.d.pwr.mode = .m11 ∧ t.d.pwr.faultCause = 4 ∧ t.d.start.detail = 4))
    ∧ (s.d.pwr.mode = .m5 → s.d.start.stage ≠ .booting → s.d.start.clearDone = false → s.perm.root = true →
      ∃ t, exec (.storeClearDone 0) s = .next t ∧ t.mem = [] ∧ t.d.pwr.mode = .m5 ∧ t.d.start.served = true ∧ t.d.start.bootRuntime = true)
    ∧ (∀ translates d1, s.d.start.stage = .booting → s.d.start.ready = false → s.d.fw.running.isSome = true →
      d1 = { s.d with start := { s.d.start with ready := true } } →
      ((migrate d1 translates).2 = .ok → ∃ t, exec (.runtimeReady translates) s = .next t ∧ t.d.start.ready = true ∧ t.d.start.migrationWait = none)
      ∧ ((migrate d1 translates).2 = .holdupLow →
        ∃ t, exec (.runtimeReady translates) s = .next t ∧ t.d.start.ready = true ∧ t.d.start.migrationWait = some (t.d.clk.up + sec 1))
      ∧ ((migrate d1 translates).2 ≠ .ok → (migrate d1 translates).2 ≠ .holdupLow →
        ∃ t, exec (.runtimeReady translates) s = .next t ∧ t.d.start.cause = 4 ∧ t.d.start.stage = .waitPg))
    ∧ (s.d.start.stage = .booting → s.d.start.ready = false → s.d.fw.running.isSome = true →
      ∃ t, exec .watchdog s = .next t ∧ t.d.start.cause = 6 ∧ t.d.start.stage = .waitPg ∧ s.d.start.runtimeAt + sec 2 ≤ t.d.clk.up ∧
        ((commitNv (reach s.d (s.d.start.runtimeAt + sec 2)) 1 4 [counterPage]).2 = .ok → t.d.start.watchdogResets = satAdd s.d.nv.saved.watchdogs 1))
    ∧ (∀ u, s.d.pwr.mode = .m5 → s.d.start.rootDue = some u →
      (∀ st, st = (commitNv (reach s.d u) 1 32 [cantonPage]).2 →
        ∃ t, exec (.rootCommit true) s = .next t ∧
          (st = .ok → t.perm = { s.perm with root := true } ∧ t.d.start.rootDue = none) ∧
          (st ≠ .ok → t.perm = s.perm ∧ t.d.start.rootDue = some (t.d.clk.up + sec 1)))
      ∧ (∃ t, exec (.rootCommit false) s = .next t ∧ t.perm = s.perm ∧ t.d.pwr.mode = .m11 ∧ t.d.pwr.faultCause = 4 ∧ t.d.start.detail = 6))
    ∧ (∀ r : Req, accepts s.d r 0x12000A = true → s.d.start.pendingReset = none → s.d.start.record = none →
      (∀ n st, provisionCheck s.perm s.d = some (n, st) →
        ∃ t, exec (.provisionCommit r []) s = .next t ∧ t.perm = s.perm ∧ t.d.start.pendingReset = none ∧ replyOf t.d r = some (st, .exec 0x12000A 0 (toLe 1 n)))
      ∧ (∀ st, provisionCheck s.perm s.d = none → st = (commitNv s.d 5 64 [cantonPage]).2 →
        ∃ t, exec (.provisionCommit r []) s = .next t ∧
          (st ≠ .ok → t.perm = s.perm ∧ t.d.start.pendingReset = none ∧ replyOf t.d r = some (st, .exec 0x12000A 0 (toLe 1 7))) ∧
          (st = .ok → t.perm = { s.perm with provisioned := true, role := numN s.d 0x120008, workerId := numN s.d 0x120009, debugLocked := true } ∧
            t.d.start.pendingReset = some (7, s.d.clk.up + ms 100) ∧ replyOf t.d r = some (.ok, .exec 0x12000A 0 (toLe 1 0)))))

/-- R452, R468, R472, R474, R478, R479, R488, row by row. -/
def Obligations.PowerAndResetCommandsComplete : Prop :=
  ∀ s : State,
    (s.d.pwr.mode = .m0 →
      ∃ t, exec (.powerOn false) s = .next t ∧ t.d.pwr.mode = .m4 ∧ t.d.start.stage = .waitPg ∧ t.d.start.cause = 1 ∧ t.d.clk.tb = 0 ∧
        t.d.clk.sync = .free ∧ t.d.nv.rp = s.d.nv.rp ∧ t.perm = s.perm)
    ∧ (s.d.pwr.mode = .m0 →
      ∃ t, exec (.powerOn true) s = .next t ∧ t.d.pwr.mode = .m0 ∧ t.d.start.stage = .idle ∧ t.d.start.factoryTest = true)
    ∧ (∃ t, exec .powerOff s = .next t ∧ t.d.pwr.mode = .m0 ∧ t.d.pwr.domains = 0 ∧ t.d.pwr.vcoreOn = false ∧ t.d.pwr.meshOk = false ∧
      t.d.qdl.sessions = [] ∧ t.d.nv.rp = s.d.nv.rp ∧ t.d.can.table = s.d.can.table ∧ t.d.can.flag = s.d.can.flag ∧ t.perm = s.perm)
    ∧ (∀ overload, s.d.pwr.mode ≠ .m0 →
      ∃ t, exec (.brownout overload) s = .next t ∧ t.d.pwr.mode = .m4 ∧ t.d.start.stage = .waitPg ∧ t.d.start.cause = 2 ∧ t.d.clk.tb = 0 ∧
        t.d.pwr.brownFlag = (if overload then 1 else 2) ∧ t.d.can.latch = false ∧ t.d.can.retention = [] ∧ t.d.can.flag = s.d.can.flag)
    ∧ (s.d.start.stage = .waitPg → s.d.start.factoryTest = false → s.d.pwr.mode ≠ .m0 →
      (s.d.start.attempts < 3 → ∃ t, exec .powerGoodTimeout s = .next t ∧ t.d.start.attempts = s.d.start.attempts + 1 ∧ t.d.pwr.vcoreOn = true ∧
        t.d.start.stage = .waitPg ∧ s.d.start.since + ms 30 ≤ t.d.clk.up ∧ t.d.start.since = t.d.clk.up)
      ∧ (3 ≤ s.d.start.attempts → s.d.start.cause = 3 →
        ∃ t, exec .powerGoodTimeout s = .next t ∧ t.d.start.stage = .idle ∧ t.d.pwr.mode = s.d.pwr.mode ∧ t.d.pwr.vcoreOn = false ∧
          t.d.pwr.wakeFails = satAdd s.d.pwr.wakeFails 1 ∧ t.d.pwr.sleepReq = s.d.pwr.sleepReq)
      ∧ (3 ≤ s.d.start.attempts → s.d.start.cause ≠ 3 →
        ∃ t, exec .powerGoodTimeout s = .next t ∧ t.d.start.attempts = s.d.start.attempts + 1 ∧ t.d.pwr.vcoreOn = true ∧ t.d.start.stage = .waitPg ∧
          s.d.start.since + ms 20 + sec 1 ≤ t.d.clk.up ∧ (s.d.start.cause ≤ 2 → t.d.start.pgFails = satAdd s.d.start.pgFails 1)))
    ∧ (∀ r : Req, accepts s.d r 0x120005 = true → s.d.start.pendingReset = none →
      ∃ t, exec (.reset r []) s = .next t ∧ replyOf t.d r = some (.ok, .exec 0x120005 0 []) ∧ t.d.start.pendingReset = some (4, s.d.clk.up + ms 100) ∧
        t.d.pwr = s.d.pwr)
    ∧ (∀ r : Req, accepts s.d r 0x120005 = true → s.d.start.pendingReset.isSome = true →
      ∃ t, exec (.reset r []) s = .next t ∧ replyOf t.d r = some (.busy, .exec 0x120005 0 []) ∧ t.d.start.pendingReset = s.d.start.pendingReset)
    ∧ (∀ cause u, s.d.start.pendingReset = some (cause, u) → 3 ≤ cause →
      ∃ t, exec .deviceReset s = .next t ∧ t.d.start.cause = cause ∧ t.d.start.stage = .waitPg ∧ t.d.pwr.mode = .m4 ∧ t.d.start.pendingReset = none ∧
        t.d.qdl.sessions = [] ∧ t.d.sched.st = .none ∧ t.d.bandSf.tx = none ∧ t.d.bandG.tx = none ∧ t.d.can.latch = s.d.can.latch ∧
        t.d.nv.rp = s.d.nv.rp ∧ u + ms 10 ≤ t.d.clk.up)
    ∧ (∀ (r : Req) (arg : List Byte) mask, accepts s.d r 0x100007 = true → arg.length = 4 → leNat arg < 4096 → mask = leNat arg &&& s.d.pwr.padHold →
      ∃ t, exec (.padRelease r arg) s = .next t ∧ replyOf t.d r = some (.ok, .exec 0x100007 0 []) ∧
        t.d.pwr.padHold = (if mask = 0 then s.d.pwr.padHold else s.d.pwr.padHold &&& (4095 - mask)) ∧ (mask ≠ 0 → raised t.d 3 mask))

/-- R492, R493, R495, R499-R501; the sample's voltage times 1,000 and twice the energy times 10^12 keep the arithmetic exact. -/
def Obligations.CommitsFollowTheHoldUp : Prop :=
  ∀ s : State,
    (∀ w l need vx e2 (bad : Option (Fin 153)) homed, domainOn s.d 1 = true → s.d.pwr.entering = false → s.d.nv.unreadable = false → s.d.nv.journal = [] → s.d.nv.waiting = w :: l →
      need = numN s.d 0x11100F + numN s.d 0x111010 → vx = (s.d.nv.sense.foldl Nat.min (if s.d.nv.sense = [] then 0 else 1000000)) * numN s.d 0x132002 →
      e2 = numN s.d 0x132001 * (vx * vx - (numN s.d 0x132003 * 1000) * (numN s.d 0x132003 * 1000)) →
      ∃ t, exec (.commit bad homed) s = .next t ∧ t.d.nv.waiting = l ∧ t.d.nv.lastNeed = need ∧
        (if numN s.d 0x132001 ≠ 0 ∧ e2 < need * 2000000000000 then
          t.d.nv.saved = s.d.nv.saved ∧ t.d.nv.journal = [] ∧ counter t.d 0x132006 = satAdd (counter s.d 0x132006) 1 ∧ counter t.d 0x130004 = counter s.d 0x130004
         else
          (numN s.d 0x132001 = 0 → counter t.d 0x132008 = satAdd (counter s.d 0x132008) 1) ∧
          (pagesWorn s.d [149] = true → t.d.nv.saved = s.d.nv.saved ∧ t.d.nv.journal = [] ∧ counter t.d 0x130005 = satAdd (counter s.d 0x130005) 1) ∧
          (pagesWorn s.d [149] = false → t.d.nv.saved = w ∧ t.d.nv.journal = (if homed then [] else [w]) ∧ counter t.d 0x130004 = satAdd (counter s.d 0x130004) 1)))
    ∧ (∀ (page : Fin 153) sp, qdlServed s.d = true → taskRuns s.d 3 = true → leastWorn s.d = some sp →
      pageWrites s.d sp + numN s.d 0x130006 < pageWrites s.d (physPage s.d page.val) →
      (∃ t, exec (.wearMove page true) s = .next t ∧ t.d.nv.pageMap = s.d.nv.pageMap ∧ t.d.nv.rp = s.d.nv.rp)
      ∧ (∀ d1 : Dev, d1 = { s.d with nv := { s.d.nv with writes := cntPut sp (pageWrites s.d sp + 1) s.d.nv.writes } } →
        ((commitNv d1 1 8 []).2 = .ok →
          ∃ t, exec (.wearMove page false) s = .next t ∧ physPage t.d page.val = sp ∧ t.d.nv.rp = s.d.nv.rp ∧ counter t.d 0x130009 = satAdd (counter s.d 0x130009) 1)
        ∧ ((commitNv d1 1 8 []).2 ≠ .ok →
          ∃ t, exec (.wearMove page false) s = .next t ∧ t.d.nv.pageMap = s.d.nv.pageMap ∧ counter t.d 0x130009 = counter s.d 0x130009)))
    ∧ (∀ u translates, s.d.start.migrationWait = some u → s.d.start.stage = .booting →
      ((migrate (reach s.d u) translates).2 = .ok →
        ∃ t, exec (.settingsMigrationRetry translates) s = .next t ∧ u ≤ t.d.clk.up ∧ t.d.start.migrationWait = none)
      ∧ ((migrate (reach s.d u) translates).2 = .holdupLow →
        ∃ t, exec (.settingsMigrationRetry translates) s = .next t ∧ u ≤ t.d.clk.up ∧ t.d.start.migrationWait = some (t.d.clk.up + sec 1))
      ∧ ((migrate (reach s.d u) translates).2 ≠ .ok → (migrate (reach s.d u) translates).2 ≠ .holdupLow →
        ∃ t, exec (.settingsMigrationRetry translates) s = .next t ∧ u ≤ t.d.clk.up ∧ t.d.start.cause = 4 ∧ t.d.start.stage = .waitPg))

/-- R509, R511, R512, R516-R520, row by row. -/
def Obligations.UpdateCommandsComplete : Prop :=
  ∀ (s : State),
    (∀ (r : Req) (b : Byte) sl, accepts s.d r 0x600002 = true → targetSlot s.d b.toNat = some sl →
      (s.d.fw.running = some sl ∨ slotIn s.d 3 ≠ none →
        ∃ t, exec (.fwWrite r [b]) s = .next t ∧ t.d.fw = s.d.fw ∧ replyOf t.d r = some (.wrongMode, .exec 0x600002 0 []))
      ∧ (s.d.fw.running ≠ some sl → slotIn s.d 3 = none → s.d.fw.writing ≠ none ∨ s.d.fw.hoist ≠ none →
        ∃ t, exec (.fwWrite r [b]) s = .next t ∧ t.d.fw = s.d.fw ∧ replyOf t.d r = some (.busy, .exec 0x600002 0 []))
      ∧ (s.d.fw.running ≠ some sl → slotIn s.d 3 = none → s.d.fw.writing = none → s.d.fw.hoist = none → (commitNv s.d 1 64 [counterPage]).2 = .ok →
        ∃ t, exec (.fwWrite r [b]) s = .next t ∧ (fwSlot t.d sl).st = 1 ∧ t.d.fw.writing = some sl ∧
          t.d.fw.running = s.d.fw.running ∧ replyOf t.d r = some (.ok, .exec 0x600002 1 [])))
    ∧ (∀ sl sigOk tagsOk digestOk bad l why, s.d.fw.writing = some sl → sl < 2 → writeRuns s.d = true → l = stagedString s.d 0x600001 (stagedEnd s.d 0x600001) →
      why = (if stagedReason s.perm s.d l sigOk tagsOk digestOk ≠ 0 then stagedReason s.perm s.d l sigOk tagsOk digestOk
             else if (∃ k, bad = some k ∧ k < headerBlocks l) then 1
             else if (commitNv s.d 1 64 [counterPage]).2 = .holdupLow then 8 else 0) →
      (why ≠ 0 → ∃ t, exec (.fwWritten sigOk tagsOk digestOk bad) s = .next t ∧ fwSlot t.d sl = {} ∧ t.d.fw.writing = none ∧ t.d.fw.last = why ∧
        stagedOctets t.d 0x600001 = stagedOctets s.d 0x600001 ∧ raised t.d 100 (sl * 256 + why))
      ∧ (why = 0 → (commitNv s.d 1 64 [counterPage]).2 = .ok →
        ∃ t, exec (.fwWritten sigOk tagsOk digestOk bad) s = .next t ∧ fwSlot t.d sl = headerSlot l 2 ∧ t.d.fw.progress = headerBlocks l ∧
          t.d.fw.writing = none ∧ stagedOctets t.d 0x600001 = [] ∧ raised t.d 100 (sl * 256)))
    ∧ (∀ r : Req, accepts s.d r 0x600003 = true →
      (s.d.fw.writing = none → ∃ t, exec (.fwDiscard r []) s = .next t ∧ stagedOctets t.d 0x600001 = [] ∧ t.d.fw = s.d.fw ∧ replyOf t.d r = some (.ok, .exec 0x600003 0 []))
      ∧ (s.d.fw.writing ≠ none → ∃ t, exec (.fwDiscard r []) s = .next t ∧ t.d.fw = s.d.fw ∧ replyOf t.d r = some (.busy, .exec 0x600003 0 [])))
    ∧ (∀ (r : Req) found, accepts s.d r 0x600004 = true → slotIn s.d 3 ≠ none ∨ slotIn s.d 2 = none →
      ∃ t, exec (.fwHoist r [] found) s = .next t ∧ t.d.fw = s.d.fw ∧ replyOf t.d r = some (.wrongMode, .exec 0x600004 0 []))
    ∧ (∀ (r : Req) found sl why, accepts s.d r 0x600004 = true → slotIn s.d 3 = none → slotIn s.d 2 = some sl → worksOn s.d = false →
      why = slotReason s.perm s.d sl found →
      (why ≠ 0 → ∃ t, exec (.fwHoist r [] found) s = .next t ∧ (fwSlot t.d sl).st = 5 ∧ (fwSlot t.d sl).reason = why ∧ t.d.fw.running = s.d.fw.running ∧
        t.d.pwr.mode = s.d.pwr.mode ∧ raised t.d 102 (sl * 256 + why) ∧ raised t.d 101 (sl * 256 + why))
      ∧ (why = 0 → (holdupCheck s.d (numN s.d 0x111011 * 1000)).2 = false →
        ∃ t, exec (.fwHoist r [] found) s = .next t ∧ (fwSlot t.d sl).st = 2 ∧ t.d.fw.running = s.d.fw.running ∧ t.d.pwr.mode = s.d.pwr.mode ∧ raised t.d 101 (sl * 256 + 8))
      ∧ (why = 0 → (holdupCheck s.d (numN s.d 0x111011 * 1000)).2 = true → (commitNv (holdupCheck s.d (numN s.d 0x111011 * 1000)).1 2 128 [counterPage]).2 = .ok →
        ∃ t, exec (.fwHoist r [] found) s = .next t ∧ (fwSlot t.d sl).st = 3 ∧ t.d.fw.running = s.d.fw.running ∧ t.d.fw.trialSince = tbNs s.d ∧
          (if s.d.pwr.mode.running = true then t.d.pwr.mode = .m9 ∧ t.d.fw.hoist = some (sl, false, s.d.clk.up)
           else t.d.pwr.mode = s.d.pwr.mode ∧ t.d.start.pendingReset = some (4, s.d.clk.up + ms 100))))
    ∧ (∀ sl h0 translates d1, s.d.fw.hoist = some (sl, false, h0) → sl < 2 → s.d.pwr.mode = .m9 → d1 = reach s.d (h0 + ms 900) →
      ((migrate { d1 with fw := { d1.fw with running := some sl } } translates).2 = .ok →
        ∃ t, exec (.hoistActivation true translates) s = .next t ∧ t.d.fw.running = some sl ∧ t.d.fw.hoist = none ∧ t.d.fw.hoists = satAdd s.d.fw.hoists 1 ∧
          h0 + ms 900 ≤ t.d.clk.up ∧ raised t.d 101 (sl * 256) ∧
          t.d.pwr.mode = (if s.d.gov.st ≠ 0 then .m8 else if s.d.pwr.fullOnly = true ∨ numN t.d 0x100003 = 0 then .m7 else .m6))
      ∧ (∃ t, exec (.hoistActivation false translates) s = .next t ∧ t.d.fw.running = s.d.fw.running ∧ t.d.fw.hoist = none ∧ (fwSlot t.d sl).st = 5 ∧
          (fwSlot t.d sl).reason = 4 ∧ t.d.nv.rp = s.d.nv.rp ∧ raised t.d 102 (sl * 256 + 4) ∧ raised t.d 101 (sl * 256 + 4))
      ∧ (∀ st, st = (migrate { d1 with fw := { d1.fw with running := some sl } } translates).2 → st ≠ .ok →
        ∃ t, exec (.hoistActivation true translates) s = .next t ∧ t.d.fw.running = s.d.fw.running ∧ t.d.fw.hoist = none ∧
          (if st = .holdupLow then (fwSlot t.d sl).st = 2 ∧ raised t.d 102 (sl * 256 + 8) ∧ raised t.d 101 (sl * 256 + 8)
           else (fwSlot t.d sl).st = 5 ∧ (fwSlot t.d sl).reason = 3 ∧ raised t.d 102 (sl * 256 + 3) ∧ raised t.d 101 (sl * 256 + 3))))
    ∧ (∀ sl h0 translates, s.d.fw.hoist = some (sl, true, h0) → s.d.pwr.mode = .m9 → (switchBack (reach s.d (h0 + ms 900)) sl).2 = .ok →
      ∃ t, exec (.hoistActivation true translates) s = .next t ∧ t.d.fw.running = some sl ∧ t.d.fw.hoist = none ∧ h0 + ms 900 ≤ t.d.clk.up ∧
        raised t.d 101 (sl * 256))
    ∧ (∀ (r : Req) tr g, accepts s.d r 0x600006 = true → slotIn s.d 3 = some tr → slotIn s.d 4 = some g → worksOn s.d = false →
      (holdupCheck s.d (numN s.d 0x111011 * 1000)).2 = true → (commitNv (holdupCheck s.d (numN s.d 0x111011 * 1000)).1 1 64 [counterPage]).2 = .ok →
      ∃ t, exec (.fwRevert r []) s = .next t ∧ (fwSlot t.d tr).st = 5 ∧ (fwSlot t.d tr).reason = 9 ∧ raised t.d 102 (tr * 256 + 9) ∧
        (if s.d.pwr.mode.running = true then t.d.pwr.mode = .m9 ∧ t.d.fw.hoist = some (g, true, s.d.clk.up)
         else t.d.pwr.mode = s.d.pwr.mode ∧ t.d.start.pendingReset = some (4, s.d.clk.up + ms 100)))
    ∧ (∀ (r : Req) sl (c : Instr) d1, runningTrial s.d = some sl → sl < 2 →
      ((c = .fwConfirm r [] ∧ accepts s.d r 0x600005 = true ∧ d1 = s.d)
        ∨ (c = .autoConfirm ∧ numN s.d 0x600007 ≠ 0 ∧ s.d.pwr.mode.running = true ∧ s.d.fw.hoist = none ∧ s.d.fw.confirmAt = none ∧ d1 = reach s.d (autoConfirmAt s.d))
        ∨ (∃ u, c = .confirmCommitRetry ∧ s.d.fw.confirmAt = some u ∧ d1 = reach s.d u)) →
      ((commitNv d1 3 192 [counterPage]).2 = .ok →
        ∃ t, exec c s = .next t ∧ fwSlot t.d sl = { fwSlot s.d sl with st := 4 } ∧ fwSlot t.d (1 - sl) = {} ∧
          t.d.fw.floor = Nat.max s.d.fw.floor (fwSlot s.d sl).sec ∧ t.d.fw.confirmAt = none ∧ raised t.d 103 sl)
      ∧ ((commitNv d1 3 192 [counterPage]).2 = .holdupLow →
        ∃ t, exec c s = .next t ∧ t.d.fw.slots = s.d.fw.slots ∧ t.d.fw.floor = s.d.fw.floor ∧ t.d.fw.confirmAt = some (t.d.clk.up + sec 1)))

/-- R527-R529, R531-R533, R535, R537, row by row; that no expiry or wrap falls between two commands is log 11's choice. -/
def Obligations.TimerCommandsComplete : Prop :=
  ∀ (s : State) (n : Fin 24),
    (∀ p, srcRuns s.d (tmSel s.d n) = true → (timer s.d n).run = true → (timer s.d n).deferred = [] → tmFrozen s.d n = false →
      p = tmPeriod s.d n → p ≠ 0 → (gateOpen s.d n = true ∨ p ≤ (timer s.d n).count) →
      ∃ t, exec (.timerExpiry n) s = .next t ∧
        s.d.clk.up + Nat.max 1 (p - (timer s.d n).count) * tmTick s.d n ≤ t.d.clk.up + srcPhase s.d (tmSel s.d n) ∧
        (timer t.d n).expiries = satAdd (timer s.d n).expiries 1 ∧
        (if numN s.d (tmKey n 1) = 0 then (timer t.d n).count = 0 ∧ (timer t.d n).run = true
         else (timer t.d n).count = p ∧ (timer t.d n).run = false ∧ (timer t.d n).expired = true) ∧
        (flag s.d (tmKey n 0x0B) = true →
          if ∀ u, (rateOf s.d (116 * 65536 + n)).last = some u → u + ms 1 ≤ t.d.clk.up
          then raised t.d 116 (n * 65536 + Nat.min ((rateOf s.d (116 * 65536 + n)).acc + 1) 65535)
          else t.d.ev.pending = s.d.ev.pending ∧ (rateOf t.d (116 * 65536 + n)).acc = (rateOf s.d (116 * 65536 + n)).acc + 1) ∧
        (flag s.d (tmKey n 0x0B) = false → t.d.ev = s.d.ev))
    ∧ (srcRuns s.d (tmSel s.d n) = true → (timer s.d n).run = true → (timer s.d n).deferred = [] → tmFrozen s.d n = false →
      gateOpen s.d n = true → tmPeriod s.d n = 0 →
      ∃ t, exec (.timerWrap n) s = .next t ∧ (timer t.d n).count = 0 ∧ (timer t.d n).wrap = true ∧ (timer t.d n).run = true ∧ raised t.d 118 n)
    ∧ (∀ arm, srcRuns s.d (tmSel s.d n) = true → (timer s.d n).deferred = [arm] → (arm = true → tmPeriod s.d n = 0) →
      ∃ t, exec (.timerExpiry n) s = .next t ∧
        (if tmFrozen s.d n = true then (timer t.d n).deferred = [arm] ∧ (timer t.d n).run = (timer s.d n).run ∧ (timer t.d n).count = (timer s.d n).count
         else (timer t.d n).deferred = [] ∧ (timer t.d n).run = arm ∧ (arm = true → (timer t.d n).expired = false ∧ (timer t.d n).expiries = 0)))
    ∧ (∀ falling, numN s.d (tmKey n 8) ≠ 0 → timersOn s.d = true →
      (capEdge s.d n falling = true →
        ∃ t, exec (.timerCapture n falling) s = .next t ∧ (timer t.d n).capture = (timer s.d n).count ∧ (timer t.d n).capNew = true ∧
          (timer t.d n).overrun = ((timer s.d n).overrun || (timer s.d n).capNew) ∧ ((timer s.d n).capNew = true → raised t.d 117 n))
      ∧ (capEdge s.d n falling = false → ∃ t, exec (.timerCapture n falling) s = .next t ∧ t.d.timers = s.d.timers ∧ t.d.ev = s.d.ev))
    ∧ (∀ (r : Req) captured, takesUp s.d r = true → s.d.start.bootRuntime = false →
      ∃ t, exec (.capLoRead r n captured) s = .next t ∧
        (if captured = true ∧ timersOn s.d = true ∧ numN s.d (tmKey n 8) ≠ 0 then (timer t.d n).capNew = true ∧ (timer t.d n).capture = (timer s.d n).count
         else (timer t.d n).capNew = false ∧ (timer t.d n).capture = (timer s.d n).capture) ∧
        replyOf t.d r = some (.ok, .read [(tmKey n 0x12, itemType ⟨0x1910 + n.val, 0x12, false⟩, .ok, .num ((timer s.d n).capture % 4294967296 : Nat))]))
    ∧ (∀ (r : Req) (v : BitVec 64), writes s.perm s.d r 0 (writeItem (tmKey n 5) (toLe 8 v.toNat)) = true →
      ∃ t, exec (.periodWrite r n v) s = .next t ∧ tmPeriod t.d n = v.toNat ∧ t.d.timers = s.d.timers)
    ∧ (∀ r : Req, accepts s.d r (tmKey n 0x0C) = true →
      (tmPeriod s.d n ≠ 0 ∧ tmPeriod s.d n ≤ tmPhase s.d n →
        ∃ t, exec (.arm r n []) s = .next t ∧ t.d.timers = s.d.timers ∧ replyOf t.d r = some (.outOfRange, .exec (tmKey n 0x0C) 0 []))
      ∧ (tmPeriod s.d n = 0 ∨ tmPhase s.d n < tmPeriod s.d n →
        ∃ t, exec (.arm r n []) s = .next t ∧ replyOf t.d r = some (.ok, .exec (tmKey n 0x0C) 0 []) ∧
          timer t.d n = { timer s.d n with deferred := (timer s.d n).deferred ++ [true] }))
    ∧ (∀ r : Req, accepts s.d r (tmKey n 0x0D) = true →
      ∃ t, exec (.stop r n []) s = .next t ∧ replyOf t.d r = some (.ok, .exec (tmKey n 0x0D) 0 []) ∧
        timer t.d n = { timer s.d n with deferred := (timer s.d n).deferred ++ [false] })
    ∧ (∀ (r : Req) (arg : List Byte), accepts s.d r (tmKey n 0x0F) = true → arg.length = 4 → maskOk 0x1A (leNat arg) = true →
      ∃ t, exec (.clearFlags r n arg) s = .next t ∧ replyOf t.d r = some (.ok, .exec (tmKey n 0x0F) 0 []) ∧
        timer t.d n = { timer s.d n with
          expired := (timer s.d n).expired && !(leNat arg).testBit 1
          overrun := (timer s.d n).overrun && !(leNat arg).testBit 3
          wrap := (timer s.d n).wrap && !(leNat arg).testBit 4 })
    ∧ (∀ (r : Req) (g : Fin 8) stagger m, accepts s.d r 0x190002 = true → m = members s.d g.val →
      (groupOk s.d m stagger = true →
        ∃ t, exec (.groupStart r [BitVec.ofNat 8 g.val, BitVec.ofNat 8 (boolNum stagger)]) s = .next t ∧
          replyOf t.d r = some (.ok, .exec 0x190002 0 [BitVec.ofNat 8 m.length]) ∧ raised t.d 119 (g.val * 256 + m.length) ∧
          ∀ i k, m[i]? = some k → timer t.d k = { timer s.d k with deferred := (timer s.d k).deferred ++ [true] } ∧
            tmPhase t.d k = (if stagger then i * tmPeriod s.d k / m.length else tmPhase s.d k))
      ∧ (groupOk s.d m stagger = false →
        ∃ t, exec (.groupStart r [BitVec.ofNat 8 g.val, BitVec.ofNat 8 (boolNum stagger)]) s = .next t ∧ t.d.timers = s.d.timers ∧
          replyOf t.d r = some (.outOfRange, .exec 0x190002 0 [])))
    ∧ (∀ (r : Req) (g : Fin 8), accepts s.d r 0x190003 = true →
      ∃ t, exec (.groupStop r [BitVec.ofNat 8 g.val]) s = .next t ∧ replyOf t.d r = some (.ok, .exec 0x190003 0 []) ∧
        ∀ k, k < 24 → timer t.d k = { timer s.d k with deferred := (timer s.d k).deferred ++ (if (members s.d g.val).contains k then [false] else []) })
    ∧ (∃ t, exec (.debugHalt true) s = .next t ∧ t.d.halted = (s.d.halted || !s.perm.debugLocked) ∧ t.d.timers = s.d.timers)
    ∧ (∃ t, exec (.debugHalt false) s = .next t ∧ t.d.halted = false ∧ t.d.timers = s.d.timers)

/-- R539-R542, R544, R548-R552, R554-R556, row by row. -/
def Obligations.EventsErrorsAndTelemetryComplete : Prop :=
  ∀ s : State,
    (∀ e data t, e < 128 → t = raise s.d e data →
      evRec t e = ⟨satAdd (evRec s.d e).count 1, stampNs s.d, data⟩ ∧ t.ev.pending.testBit e = true ∧
      (∀ k, k ≠ e → evRec t k = evRec s.d k ∧ t.ev.pending.testBit k = s.d.ev.pending.testBit k) ∧
      (qdlServed s.d = true → t.ev.held = s.d.ev.held ∧ t.ev.seq = (s.d.ev.seq + 1) % 4294967296 ∧
        ((queue s.d (pq 5)).space (pq 5) = true →
          ∃ x ∈ (queue t (pq 5)).packets, x.dtype = 0x10 ∧ x.body = .event e 0 data ((s.d.ev.seq + 1) % 4294967296) (stampNs s.d)) ∧
        ((queue s.d (pq 5)).space (pq 5) = false → counter t 0x800007 = satAdd (counter s.d 0x800007) 1)) ∧
      (qdlServed s.d = false → t.ev.seq = s.d.ev.seq ∧ t.queues = s.d.queues ∧
        (if s.d.ev.held.length < 32 then t.ev.held = s.d.ev.held ++ [(e, data, stampNs s.d)]
         else t.ev.held = s.d.ev.held ∧ counter t 0x800008 = satAdd (counter s.d 0x800008) 1)))
    ∧ (∀ d1 p ev flags data seq time, runtimeUp s.d = true → takeFrom s.d (pq 5) = (d1, some p) → p.body = .event ev flags data seq time →
      ∃ t, exec .eventNotification s = .next t ∧
        (stagingUsed s.d + 64 ≤ 4194304 → queue t.d (pq 5) = queue d1 (pq 5) ∧
          t.d.tel.staged.map TelemRec.body = s.d.tel.staged.map TelemRec.body ++ (if flag s.d ((0x8080 + ev) * 256 + 7) = true then [.event ev flags data seq time] else []) ∧
          ∀ x sub y, eventSubs d1 ev = [(x, sub)] → session (foldMissed d1) x = some y →
            t.d.out = (tell (foldMissed d1) x (.notifyEvent x ((y.notifySeq + 1) % 4294967296) sub ev time data)).out) ∧
        ∀ x y k, session (foldMissed d1) x = some y → k = ((eventSubs d1 ev).filter (fun z => z.1 = x)).length →
          (session t.d x).map Session.notifySeq = some (if k = 0 then y.notifySeq else (y.notifySeq + k) % 4294967296))
    ∧ (∀ (r : Req) (arg : List Byte), accepts s.d r 0x800005 = true → arg.length = 16 →
      ∃ t, exec (.evtAck r arg) s = .next t ∧ replyOf t.d r = some (.ok, .exec 0x800005 0 []) ∧
        ∀ e, e < 128 → t.d.ev.pending.testBit e = (s.d.ev.pending.testBit e && !(leNat arg).testBit e))
    ∧ (∀ d1 p r, runtimeUp s.d = true → takeFrom s.d (pq 1) = (d1, some p) → p.body = .error r →
      ∃ t, exec .errorRecord s = .next t ∧ t.d.err.log = lastN 1024 (d1.err.log ++ [r]) ∧ queue t.d (pq 1) = queue d1 (pq 1))
    ∧ (∀ r : Req, accepts s.d r 0x810005 = true →
      ∃ t, exec (.errLogClear r []) s = .next t ∧ t.d.err.log = [] ∧ replyOf t.d r = some (.ok, .exec 0x810005 0 []))
    ∧ (∀ u state check n, n = ((episode s.d (unitCode u)).map (fun e => e.2.1)).getD 0 →
      (s.d.err.quarantined.testBit (unitCode u) = false → n < 3 →
        ∃ t, exec (.unitFault u state check) s = .next t ∧ episode t.d (unitCode u) = some (unitCode u, n + 1, if state then 0x41 else 0x40) ∧
          t.d.err.quarantined = s.d.err.quarantined ∧
          (if n = 0 then counter t.d 0x810008 = satAdd (counter s.d 0x810008) 1 else counter t.d 0x810009 = satAdd (counter s.d 0x810009) 1))
      ∧ (s.d.err.quarantined.testBit (unitCode u) = true ∨ 3 ≤ n → exec (.unitFault u state check) s = .next s))
    ∧ (∀ u n code, episode s.d (unitCode u) = some (unitCode u, n, code) →
      ∃ t, exec (.unitRecovered u) s = .next t ∧ episode t.d (unitCode u) = none ∧
        (n < 3 → t.d.err.quarantined = s.d.err.quarantined ∧ t.d.ev = s.d.ev) ∧
        (3 ≤ n → t.d.err.quarantined.testBit (unitCode u) = true ∧ unitWorks t.d u = false ∧ raised t.d 126 (unitCode u * 256)))
    ∧ (∀ (r : Req) u, accepts s.d r 0x81000B = true →
      (s.d.err.quarantined.testBit (unitCode u) = true →
        ∃ t, exec (.unitRestore r [BitVec.ofNat 8 (unitCode u)]) s = .next t ∧ t.d.err.quarantined.testBit (unitCode u) = false ∧
          replyOf t.d r = some (.ok, .exec 0x81000B 0 []) ∧ raised t.d 126 (2147483648 + unitCode u * 256))
      ∧ (s.d.err.quarantined.testBit (unitCode u) = false →
        ∃ t, exec (.unitRestore r [BitVec.ofNat 8 (unitCode u)]) s = .next t ∧ t.d.err.quarantined = s.d.err.quarantined ∧
          replyOf t.d r = some (.wrongMode, .exec 0x81000B 0 [])))
    ∧ (∀ cause unit_, s.d.pwr.mode ≠ .m0 → s.d.pwr.mode.asleep = false → s.d.start.stage ≠ .waitPg →
      ∃ t x, exec (.runtimeFault cause unit_) s = .next t ∧ t.d.err.lastFatal = some x ∧ x.severity = 4 ∧ x.code = 0x60 ∧ x.arg0 = fatalNum cause ∧ x.arg1 = unit_ ∧
        x.time = tbNs s.d ∧ t.d.start.cause = 6 ∧ t.d.start.stage = .waitPg ∧ t.d.pwr.mode = .m4 ∧ t.d.bandSf.tx = none ∧ t.d.bandG.tx = none)
    ∧ (fullRuntime s.d = true → taskRuns s.d 4 = true →
      (s.d.tel.frozen = true → exec .telemWrite s = .next s)
      ∧ (s.d.tel.frozen = false → ∃ t, exec .telemWrite s = .next t ∧ t.d.tel.staged = [] ∧
          ∀ x left base, s.d.tel.staged = [x] → x.len < ringSize s.d → left = ringSize s.d - s.d.tel.head → base = regionBase s.d 7 →
            (x.len < left →
              t.d.tel.head = s.d.tel.head + x.len ∧ t.d.tel.nextSeq = (s.d.tel.nextSeq + 1) % 4294967296 ∧
              t.mem = memWrite (base + s.d.tel.head) (telemOctets s.d.free s.d.tel.nextSeq x.len x.time x.body) s.mem)
            ∧ (left < x.len →
              t.d.tel.head = x.len ∧ t.d.tel.nextSeq = ((s.d.tel.nextSeq + 1) % 4294967296 + 1) % 4294967296 ∧ counter t.d 0x82000B = satAdd (counter s.d 0x82000B) 1 ∧
              t.mem = memWrite base (telemOctets (s.d.free + 1) ((s.d.tel.nextSeq + 1) % 4294967296) x.len x.time x.body)
                (memWrite (base + s.d.tel.head) (telemOctets s.d.free s.d.tel.nextSeq left (tbNs s.d) (.pad left)) s.mem))))
    ∧ (fullRuntime s.d = true → numN s.d 0x820007 ≠ 0 →
      ∃ t, exec .sample s = .next t ∧ t.d.tel.lastSample = t.d.clk.up ∧ s.d.tel.lastSample + sec (numN s.d 0x820007) ≤ t.d.clk.up ∧
        (stagingUsed s.d + 4096 ≤ 4194304 → ∃ l, (t.d.tel.staged.getLast?).map TelemRec.body = some (.sample l) ∧
          l.map (fun i => (i.1, i.2.1)) = sampleList 64 (octets s.d 0x820008)))
    ∧ (∀ (r : Req) freeze, accepts s.d r 0x820005 = true →
      ∃ t, exec (.telemFreeze r [BitVec.ofNat 8 (boolNum freeze)]) s = .next t ∧ t.d.tel = { s.d.tel with frozen := freeze } ∧
        replyOf t.d r = some (.ok, .exec 0x820005 0 []))

/-- R562-R571, R575-R577, R579, row by row. -/
def Obligations.InterfaceCommandsComplete : Prop :=
  ∀ (s : State) (prt : Fin 2),
    (∀ fcs (f : EthFrame), hostOn s.d = true → (port s.d prt.val).up = true →
      (frameAccepted s.d prt.val fcs f = false →
        ∃ t, exec (.ethernetReceive prt fcs f) s = .next t ∧ t.d.queues = s.d.queues ∧ counter t.d ((0x9010 + prt.val) * 256 + 9) = satAdd (counter s.d ((0x9010 + prt.val) * 256 + 9)) 1)
      ∧ (frameAccepted s.d prt.val fcs f = true → (alloc s.d (2 + prt.val) f.len (.eth f)).2 = none →
        ∃ t, exec (.ethernetReceive prt fcs f) s = .next t ∧ queue t.d (6 + prt.val) = queue s.d (6 + prt.val) ∧
          counter t.d ((0x9010 + prt.val) * 256 + 9) = satAdd (counter s.d ((0x9010 + prt.val) * 256 + 9)) 1)
      ∧ (∀ g, frameAccepted s.d prt.val fcs f = true → (alloc s.d (2 + prt.val) f.len (.eth f)).2 = some g → (queue s.d (6 + prt.val)).space (6 + prt.val) = true →
        ∃ t, exec (.ethernetReceive prt fcs f) s = .next t ∧ counter t.d ((0x9010 + prt.val) * 256 + 7) = satAdd (counter s.d ((0x9010 + prt.val) * 256 + 7)) 1 ∧
          ∃ x ∈ (queue t.d (6 + prt.val)).packets, x.dtype = 2 ∧ x.dstat = 0 ∧ x.len = f.len ∧ x.buf = some g))
    ∧ (∀ (r : Req) autoneg (v : Byte) key, key = (0x9010 + prt.val) * 256 + (if autoneg then 2 else 1) → writes s.perm s.d r 0 (writeItem key [v]) = true →
      ∃ t, exec (.portModeWrite r prt autoneg v) s = .next t ∧ dictGet key t.d.nv.rp = some (.num v.toNat) ∧ (port t.d prt.val).up = false)
    ∧ (∀ router pfx, hostOn s.d = true → (port s.d 0).up = true ∨ (port s.d 1).up = true →
      ∃ t, exec (.routerAdvertisement router pfx) s = .next t ∧ t.d.ifs.router = some router ∧ t.d.ifs.raPrefix = s.d.ifs.raPrefix.or pfx)
    ∧ (∀ target, hostOn s.d = true → (port s.d prt.val).up = true →
      exec (.neighborSolicitation prt true target) s = .next (if s.d.ifs.addr4 ≠ 0 ∧ target = s.d.ifs.addr4 then { s with d := emit s.d (.arpReply prt.val target) } else s) ∧
      exec (.neighborSolicitation prt false target) s =
        .next (if s.d.ifs.linkLocal = some target ∨ s.d.ifs.global_ = some target then { s with d := emit s.d (.neighborAdvert prt.val target) } else s))
    ∧ (∀ addr, s.d.ifs.tentative.contains addr = true →
      (∃ t, exec (.duplicateAddressDetection addr true) s = .next t ∧ t.d.ifs.tentative.contains addr = false ∧ t.d.ifs.linkLocal = s.d.ifs.linkLocal ∧
        t.d.ifs.global_ = s.d.ifs.global_ ∧ counter t.d 0x900809 = satAdd (counter s.d 0x900809) 1)
      ∧ (∃ t, exec (.duplicateAddressDetection addr false) s = .next t ∧ t.d.ifs.tentative.contains addr = false ∧
        (if addr = linkLocalAddr s.d then t.d.ifs.linkLocal = some addr else t.d.ifs.global_ = some addr)))
    ∧ (∀ l : List Byte, qdlServed s.d = true → hostOn s.d = true → (s.d.ifs.muartPart = none ∨ s.d.ifs.muartPart = some []) → l ≠ [] → (∀ b ∈ l, b ≠ 0x7E) →
      (∀ tagOk sigOk, frameContent l = none →
        ∃ t, exec (.muartFrame (0x7E :: (l ++ [0x7E])) false tagOk sigOk) s = .next t ∧ t.d.qdl = s.d.qdl ∧ t.d.nv = s.d.nv ∧ counter t.d 0x902004 = satAdd (counter s.d 0x902004) 1)
      ∧ (∀ tagOk sigOk pdu, frameContent l = some pdu → pdu.length = 100 → pdu.take 4 = [1, 0x10, 0, 0] → leAt pdu 12 2 = 84 → leAt pdu 16 1 ≤ 15 →
        refused s.d (leAt pdu 16 1) = false → credUsable s.d (leAt pdu 16 1) = true → sessionsFull s.d = false →
        ∃ t, exec (.muartFrame (0x7E :: (l ++ [0x7E])) false tagOk sigOk) s = .next t ∧ counter t.d 0x902003 = satAdd (counter s.d 0x902003) 1 ∧
          t.d.qdl.handshakes = s.d.qdl.handshakes ++ [newHandshake s.d .muart (leAt pdu 16 1) (leAt pdu 20 16) (leAt pdu 36 64)]))
    ∧ (∀ l, s.d.ifs.muartPart = some l → qdlServed s.d = true → hostOn s.d = true →
      (∃ t, exec (.muartFrame [] true false false) s = .next t ∧ t.d.ifs.muartPart = none ∧ counter t.d 0x902004 = satAdd (counter s.d 0x902004) 1)
      ∧ (l ≠ [] → ∃ t, exec .muartIdleTimeout s = .next t ∧ t.d.ifs.muartPart = none ∧ s.d.ifs.muartAt + ms 100 ≤ t.d.clk.up))
    ∧ (qdlServed s.d = true →
      ∃ t, exec (.muartCtsN true) s = .next t ∧ t.d.ifs.cts = true ∧ t.d.ifs.muartOut = [] ∧ t.d.out = s.d.out ++ s.d.ifs.muartOut.map OutPdu.pdu)
    ∧ (∀ (r : Req) (v : BitVec 32), writes s.perm s.d r 0 (writeItem 0x902001 (toLe 4 v.toNat)) = true →
      ∃ t, exec (.baudWrite r v) s = .next t ∧ numN t.d 0x902001 = v.toNat ∧ t.d.ifs.baud = s.d.ifs.baud ∧ t.d.ifs.baudDue = some (v.toNat, s.d.clk.up + ms 10))
    ∧ (∀ (pdu : List Byte) (crc : BitVec 32) tagOk sigOk, qdlServed s.d = true → hostOn s.d = true →
      (∀ len, 4096 < len ∨ pdu.length ≠ len ∨ crc.toNat ≠ crc32c 0xFFFFFFFF pdu →
        ∃ t, exec (.mspiWrite len pdu crc tagOk sigOk) s = .next t ∧ t.d.qdl = s.d.qdl ∧ t.d.nv = s.d.nv ∧ counter t.d 0x902102 = satAdd (counter s.d 0x902102) 1)
      ∧ (crc.toNat = crc32c 0xFFFFFFFF pdu → pdu.length = 100 → pdu.take 4 = [1, 0x10, 0, 0] → leAt pdu 12 2 = 84 → leAt pdu 16 1 ≤ 15 →
        refused s.d (leAt pdu 16 1) = false → credUsable s.d (leAt pdu 16 1) = true → sessionsFull s.d = false →
        ∃ t, exec (.mspiWrite pdu.length pdu crc tagOk sigOk) s = .next t ∧ counter t.d 0x902101 = satAdd (counter s.d 0x902101) 1 ∧
          t.d.qdl.handshakes = s.d.qdl.handshakes ++ [newHandshake s.d .mspi (leAt pdu 16 1) (leAt pdu 20 16) (leAt pdu 36 64)]))
    ∧ (hostOn s.d = true →
      (∀ clocked, s.d.ifs.mspiOut = [] → exec (.mspiRead clocked) s = .next { s with d := emit s.d (.mspiLen 0) })
      ∧ (∀ clocked x l, s.d.ifs.mspiOut = x :: l → s.d.ifs.mspiWait = [] →
        ∃ t, exec (.mspiRead clocked) s = .next t ∧
          (clocked < x.len + 6 → t.d.ifs.mspiOut = x :: l ∧ t.d.out = s.d.out ++ [.mspiLen x.len]) ∧
          (x.len + 6 ≤ clocked → t.d.ifs.mspiOut = l ∧ t.d.out = s.d.out ++ [.mspiLen x.len, x.pdu]))
      ∧ exec (.mspiStatus 3) s = .next { s with d := emit s.d (.mspiStatus (match s.d.ifs.mspiOut with | x :: _ => x.len | [] => 0) 4096) }
      ∧ (∀ b : Byte, b ≠ 1 → b ≠ 2 → b ≠ 3 → ∃ t, exec (.mspiStatus b) s = .next t ∧ t.d.ifs = s.d.ifs ∧ t.d.out = s.d.out ∧
          counter t.d 0x902102 = satAdd (counter s.d 0x902102) 1))
    ∧ (∀ (r : Req) (v : BitVec 16) (k : Fin 5), writes s.perm s.d r k.val (writeItem 0x903802 (toLe 2 v.toNat)) = true →
      ∃ t, exec (.vcoreSetWrite r v k) s = .next t ∧ numN t.d 0x903802 = v.toNat ∧ counter t.d 0x903806 = satAdd (counter s.d 0x903806) k.val ∧
        Out.pmic (numN s.d 0x90380A) (numN s.d 0x903801) (numN s.d 0x903803) (voltageCode v.toNat (numN s.d 0x903804) (numN s.d 0x903805)) ∈ t.d.out)
    ∧ (∀ (r : Req) (n : Fin 24) (v : Byte), writes s.perm s.d r 0 (writeItem ((0x9040 + n.val) * 256 + 3) [v]) = true →
      ∃ t, exec (.gpioOutWrite r n v) s = .next t ∧ numN t.d ((0x9040 + n.val) * 256 + 3) = v.toNat ∧
        (s.d.pwr.padHold.testBit 11 = false → numN s.d ((0x9040 + n.val) * 256 + 1) ≠ 0 → Out.gpio n.val (decide (v ≠ 0)) ∈ t.d.out))
    ∧ (pgState s.d = true → s.d.pwr.mode ≠ .m0 → s.d.pwr.mode.asleep = false →
      ∃ t, exec .extest s = .next t ∧ t.d.ifs.extest = true ∧ t.d.bandSf.tx = none ∧ t.d.bandG.tx = none ∧ t.d.pwr.meshOk = false)
    ∧ (s.d.ifs.extest = true → ∃ t, exec .idcode s = .next t ∧ t.d.start.cause = 4 ∧ t.d.pwr.mode = .m4 ∧ t.d.ifs.extest = false)
    ∧ (s.d.ifs.extest = false → ∃ t, exec .idcode s = .next t ∧ t.d.start = s.d.start ∧ t.d.pwr.mode = s.d.pwr.mode)

/-- R30-R89: the frame of these rows, by `touches`; that a row which is an instant carries clock, credits, counts and SLEW_ACTIVE with it is the model's
(log 11), as is the order of `out` (log 44). -/
def Obligations.TimeAndSessionCommandsKeepOtherUnits : Prop :=
  ∀ (c : Instr) (s t : State), chapterOf c = 2 ∨ chapterOf c = 3 → exec c s = .next t → keepsBut (touches c) s.d t.d

/-- R8-R26, R90-R235: the frame of these rows, by `touches`; the carried clock is the model's (log 11). -/
def Obligations.RadioCommandsKeepOtherUnits : Prop :=
  ∀ (c : Instr) (s t : State), chapterOf c = 1 ∨ (4 ≤ chapterOf c ∧ chapterOf c ≤ 7) → exec c s = .next t → keepsBut (touches c) s.d t.d

/-- R236-R365: the frame of these rows, by `touches`; the carried clock is the model's (log 11). -/
def Obligations.ForwardingAndKeyCommandsKeepOtherUnits : Prop :=
  ∀ (c : Instr) (s t : State), 8 ≤ chapterOf c → chapterOf c ≤ 11 → exec c s = .next t → keepsBut (touches c) s.d t.d

/-- R366-R424: the frame of these rows, by `touches`; the carried clock is the model's (log 11). -/
def Obligations.HierarchyAndBuntingCommandsKeepOtherUnits : Prop :=
  ∀ (c : Instr) (s t : State), chapterOf c = 12 ∨ chapterOf c = 13 → exec c s = .next t → keepsBut (touches c) s.d t.d

/-- R425-R582: the frame of these rows, by `touches`; a reset or wake starts the device anew, and its frame is every part; the carried clock is the model's
(log 11). -/
def Obligations.SystemCommandsKeepOtherUnits : Prop :=
  ∀ (c : Instr) (s t : State), 14 ≤ chapterOf c → chapterOf c ≤ 21 → exec c s = .next t → keepsBut (touches c) s.d t.d

/-- The queue's discipline, and what an empty queue means (log 40). -/
def Obligations.StepRunsTheFrontCommand : Prop :=
  (∀ (c : Instr) (s : State), step { s with pending := c :: s.pending } = exec c s)
  ∧ (∀ s : State, s.pending = [] → requestReady s.d = true → step s = .next { s with d := settle s.perm (runWaiting s.perm s.mem s.d) })
  ∧ (∀ s : State, s.pending = [] → requestReady s.d = false →
      (s.d.pwr.mode = .m0 → step s = .next s) ∧
      (s.d.pwr.mode ≠ .m0 → step s = .next { s with d := settle s.perm (afterTick s.perm (passTick s.d)) } ∧ (passTick s.d).clk.up = s.d.clk.up + tickLen s.d))

/-- R238, R401, R486, R487, R554: the frame of every command over the queue, the store and the fixed part. -/
def Obligations.EveryCommandGoesOnWithinItsFrame : Prop :=
  ∀ (c : Instr) (s : State), ∃ t, exec c s = .next t ∧ t.pending = s.pending ∧
    (writesStore c = false → ∀ a, memGet a t.mem = memGet a s.mem) ∧
    (∀ n, c = .storeClearDone n → t.mem = s.mem ∨ ∀ a, memGet a t.mem = 0) ∧
    (c = .imageCommitted → ∀ a, (∀ b img, (imageCommitted s.d).2 = some (b, img) → a < b ∨ b + img.length ≤ a) → memGet a t.mem = memGet a s.mem) ∧
    (c = .telemWrite → ∀ a, a < regionBase s.d 7 → memGet a t.mem = memGet a s.mem) ∧
    (mayProvision c = false → t.perm = s.perm) ∧
    t.perm.siliconRev = s.perm.siliconRev ∧ t.perm.deviceEui = s.perm.deviceEui ∧ (s.perm.root = true → t.perm.root = true) ∧
    (s.perm.provisioned = true → t.perm.provisioned = true) ∧ (s.perm.debugLocked = true → t.perm.debugLocked = true)

/-- R481, R486, R487 for the record; the canonical form is the model's own (R236). -/
def Obligations.SoundnessIsKept : Prop := ∀ s t : State, sound s = true → step s = .next t → sound t = true

/-- R478, R475, R192, R525, R558; where the spec gives no value the model's stands (log 2). -/
def Obligations.ResetLeavesAFreshStart : Prop :=
  State.reset.pending = [] ∧ State.reset.d.pwr.mode = .m4 ∧ State.reset.d.start.stage = .waitPg ∧ State.reset.d.start.cause = 1 ∧ State.reset.d.clk.tb = 0 ∧
  State.reset.d.clk.sync = .free ∧ State.reset.d.pwr.meshOk = false ∧ (State.reset.d.pwr.paSf, State.reset.d.pwr.paG, State.reset.d.pwr.lnaSf, State.reset.d.pwr.lnaG) = (false, false, false, false) ∧
  qdlServed State.reset.d = false ∧ State.reset.d.qdl.sessions = [] ∧ State.reset.d.sched.st = .none ∧ State.reset.d.nbr.nodes = [] ∧ State.reset.d.fw.running = none ∧
  (∀ n : Fin 24, timer State.reset.d n = {}) ∧ (∀ q : Fin 56, (queue State.reset.d q).packets = []) ∧ State.reset.d.ev.pending = 0 ∧ (∀ e : Fin 128, (evRec State.reset.d e).count = 0) ∧
  (∀ k, dictGet k State.reset.d.rw = none ∧ dictGet k State.reset.d.nv.rp = none) ∧ sound State.reset = true
end

