-- ==== Sys2Proof/Laws/State.lean ====
section
/-!
SUPPORT. What each plain update of the state leaves alone: one lemma per field and update, so that no later proof unfolds a record
update.
-/
namespace Sys2Proof.Machine

variable (d : Dev)

@[simp] theorem countBy_rw (k n : Nat) : (countBy d k n).rw = d.rw := rfl
@[simp] theorem countBy_clk (k n : Nat) : (countBy d k n).clk = d.clk := rfl
@[simp] theorem countBy_ptp (k n : Nat) : (countBy d k n).ptp = d.ptp := rfl
@[simp] theorem countBy_pps (k n : Nat) : (countBy d k n).pps = d.pps := rfl
@[simp] theorem countBy_pwr (k n : Nat) : (countBy d k n).pwr = d.pwr := rfl
@[simp] theorem countBy_start (k n : Nat) : (countBy d k n).start = d.start := rfl
@[simp] theorem countBy_nv (k n : Nat) : (countBy d k n).nv = d.nv := rfl
@[simp] theorem countBy_ev (k n : Nat) : (countBy d k n).ev = d.ev := rfl
@[simp] theorem countBy_err (k n : Nat) : (countBy d k n).err = d.err := rfl
@[simp] theorem countBy_tel (k n : Nat) : (countBy d k n).tel = d.tel := rfl
@[simp] theorem countBy_store (k n : Nat) : (countBy d k n).store = d.store := rfl
@[simp] theorem countBy_queues (k n : Nat) : (countBy d k n).queues = d.queues := rfl
@[simp] theorem countBy_timers (k n : Nat) : (countBy d k n).timers = d.timers := rfl
@[simp] theorem countBy_tmSrc (k n : Nat) : (countBy d k n).tmSrc = d.tmSrc := rfl
@[simp] theorem countBy_halted (k n : Nat) : (countBy d k n).halted = d.halted := rfl
@[simp] theorem countBy_bandSf (k n : Nat) : (countBy d k n).bandSf = d.bandSf := rfl
@[simp] theorem countBy_bandG (k n : Nat) : (countBy d k n).bandG = d.bandG := rfl
@[simp] theorem countBy_lanes (k n : Nat) : (countBy d k n).lanes = d.lanes := rfl
@[simp] theorem countBy_gov (k n : Nat) : (countBy d k n).gov = d.gov := rfl
@[simp] theorem countBy_sched (k n : Nat) : (countBy d k n).sched = d.sched := rfl
@[simp] theorem countBy_nbr (k n : Nat) : (countBy d k n).nbr = d.nbr := rfl
@[simp] theorem countBy_fwd (k n : Nat) : (countBy d k n).fwd = d.fwd := rfl
@[simp] theorem countBy_shp (k n : Nat) : (countBy d k n).shp = d.shp := rfl
@[simp] theorem countBy_bunting (k n : Nat) : (countBy d k n).bunting = d.bunting := rfl
@[simp] theorem countBy_fw (k n : Nat) : (countBy d k n).fw = d.fw := rfl
@[simp] theorem countBy_can (k n : Nat) : (countBy d k n).can = d.can := rfl
@[simp] theorem countBy_hier (k n : Nat) : (countBy d k n).hier = d.hier := rfl
@[simp] theorem countBy_qdl (k n : Nat) : (countBy d k n).qdl = d.qdl := rfl
@[simp] theorem countBy_gpio (k n : Nat) : (countBy d k n).gpio = d.gpio := rfl
@[simp] theorem countBy_ifs (k n : Nat) : (countBy d k n).ifs = d.ifs := rfl
@[simp] theorem countBy_free (k n : Nat) : (countBy d k n).free = d.free := rfl
@[simp] theorem countBy_out (k n : Nat) : (countBy d k n).out = d.out := rfl

@[simp] theorem count_rw (k : Nat) : (count d k).rw = d.rw := rfl
@[simp] theorem count_clk (k : Nat) : (count d k).clk = d.clk := rfl
@[simp] theorem count_ptp (k : Nat) : (count d k).ptp = d.ptp := rfl
@[simp] theorem count_pps (k : Nat) : (count d k).pps = d.pps := rfl
@[simp] theorem count_pwr (k : Nat) : (count d k).pwr = d.pwr := rfl
@[simp] theorem count_start (k : Nat) : (count d k).start = d.start := rfl
@[simp] theorem count_nv (k : Nat) : (count d k).nv = d.nv := rfl
@[simp] theorem count_ev (k : Nat) : (count d k).ev = d.ev := rfl
@[simp] theorem count_err (k : Nat) : (count d k).err = d.err := rfl
@[simp] theorem count_tel (k : Nat) : (count d k).tel = d.tel := rfl
@[simp] theorem count_store (k : Nat) : (count d k).store = d.store := rfl
@[simp] theorem count_queues (k : Nat) : (count d k).queues = d.queues := rfl
@[simp] theorem count_timers (k : Nat) : (count d k).timers = d.timers := rfl
@[simp] theorem count_tmSrc (k : Nat) : (count d k).tmSrc = d.tmSrc := rfl
@[simp] theorem count_halted (k : Nat) : (count d k).halted = d.halted := rfl
@[simp] theorem count_bandSf (k : Nat) : (count d k).bandSf = d.bandSf := rfl
@[simp] theorem count_bandG (k : Nat) : (count d k).bandG = d.bandG := rfl
@[simp] theorem count_lanes (k : Nat) : (count d k).lanes = d.lanes := rfl
@[simp] theorem count_gov (k : Nat) : (count d k).gov = d.gov := rfl
@[simp] theorem count_sched (k : Nat) : (count d k).sched = d.sched := rfl
@[simp] theorem count_nbr (k : Nat) : (count d k).nbr = d.nbr := rfl
@[simp] theorem count_fwd (k : Nat) : (count d k).fwd = d.fwd := rfl
@[simp] theorem count_shp (k : Nat) : (count d k).shp = d.shp := rfl
@[simp] theorem count_bunting (k : Nat) : (count d k).bunting = d.bunting := rfl
@[simp] theorem count_fw (k : Nat) : (count d k).fw = d.fw := rfl
@[simp] theorem count_can (k : Nat) : (count d k).can = d.can := rfl
@[simp] theorem count_hier (k : Nat) : (count d k).hier = d.hier := rfl
@[simp] theorem count_qdl (k : Nat) : (count d k).qdl = d.qdl := rfl
@[simp] theorem count_gpio (k : Nat) : (count d k).gpio = d.gpio := rfl
@[simp] theorem count_ifs (k : Nat) : (count d k).ifs = d.ifs := rfl
@[simp] theorem count_free (k : Nat) : (count d k).free = d.free := rfl
@[simp] theorem count_out (k : Nat) : (count d k).out = d.out := rfl

@[simp] theorem putRw_cnt (k : Nat) (v : Val) : (putRw d k v).cnt = d.cnt := rfl
@[simp] theorem putRw_clk (k : Nat) (v : Val) : (putRw d k v).clk = d.clk := rfl
@[simp] theorem putRw_ptp (k : Nat) (v : Val) : (putRw d k v).ptp = d.ptp := rfl
@[simp] theorem putRw_pps (k : Nat) (v : Val) : (putRw d k v).pps = d.pps := rfl
@[simp] theorem putRw_pwr (k : Nat) (v : Val) : (putRw d k v).pwr = d.pwr := rfl
@[simp] theorem putRw_start (k : Nat) (v : Val) : (putRw d k v).start = d.start := rfl
@[simp] theorem putRw_nv (k : Nat) (v : Val) : (putRw d k v).nv = d.nv := rfl
@[simp] theorem putRw_ev (k : Nat) (v : Val) : (putRw d k v).ev = d.ev := rfl
@[simp] theorem putRw_err (k : Nat) (v : Val) : (putRw d k v).err = d.err := rfl
@[simp] theorem putRw_tel (k : Nat) (v : Val) : (putRw d k v).tel = d.tel := rfl
@[simp] theorem putRw_store (k : Nat) (v : Val) : (putRw d k v).store = d.store := rfl
@[simp] theorem putRw_queues (k : Nat) (v : Val) : (putRw d k v).queues = d.queues := rfl
@[simp] theorem putRw_timers (k : Nat) (v : Val) : (putRw d k v).timers = d.timers := rfl
@[simp] theorem putRw_tmSrc (k : Nat) (v : Val) : (putRw d k v).tmSrc = d.tmSrc := rfl
@[simp] theorem putRw_halted (k : Nat) (v : Val) : (putRw d k v).halted = d.halted := rfl
@[simp] theorem putRw_bandSf (k : Nat) (v : Val) : (putRw d k v).bandSf = d.bandSf := rfl
@[simp] theorem putRw_bandG (k : Nat) (v : Val) : (putRw d k v).bandG = d.bandG := rfl
@[simp] theorem putRw_lanes (k : Nat) (v : Val) : (putRw d k v).lanes = d.lanes := rfl
@[simp] theorem putRw_gov (k : Nat) (v : Val) : (putRw d k v).gov = d.gov := rfl
@[simp] theorem putRw_sched (k : Nat) (v : Val) : (putRw d k v).sched = d.sched := rfl
@[simp] theorem putRw_nbr (k : Nat) (v : Val) : (putRw d k v).nbr = d.nbr := rfl
@[simp] theorem putRw_fwd (k : Nat) (v : Val) : (putRw d k v).fwd = d.fwd := rfl
@[simp] theorem putRw_shp (k : Nat) (v : Val) : (putRw d k v).shp = d.shp := rfl
@[simp] theorem putRw_bunting (k : Nat) (v : Val) : (putRw d k v).bunting = d.bunting := rfl
@[simp] theorem putRw_fw (k : Nat) (v : Val) : (putRw d k v).fw = d.fw := rfl
@[simp] theorem putRw_can (k : Nat) (v : Val) : (putRw d k v).can = d.can := rfl
@[simp] theorem putRw_hier (k : Nat) (v : Val) : (putRw d k v).hier = d.hier := rfl
@[simp] theorem putRw_qdl (k : Nat) (v : Val) : (putRw d k v).qdl = d.qdl := rfl
@[simp] theorem putRw_gpio (k : Nat) (v : Val) : (putRw d k v).gpio = d.gpio := rfl
@[simp] theorem putRw_ifs (k : Nat) (v : Val) : (putRw d k v).ifs = d.ifs := rfl
@[simp] theorem putRw_free (k : Nat) (v : Val) : (putRw d k v).free = d.free := rfl
@[simp] theorem putRw_out (k : Nat) (v : Val) : (putRw d k v).out = d.out := rfl

@[simp] theorem putRp_cnt (k : Nat) (v : Val) : (putRp d k v).cnt = d.cnt := rfl
@[simp] theorem putRp_rw (k : Nat) (v : Val) : (putRp d k v).rw = d.rw := rfl
@[simp] theorem putRp_clk (k : Nat) (v : Val) : (putRp d k v).clk = d.clk := rfl
@[simp] theorem putRp_ptp (k : Nat) (v : Val) : (putRp d k v).ptp = d.ptp := rfl
@[simp] theorem putRp_pps (k : Nat) (v : Val) : (putRp d k v).pps = d.pps := rfl
@[simp] theorem putRp_pwr (k : Nat) (v : Val) : (putRp d k v).pwr = d.pwr := rfl
@[simp] theorem putRp_start (k : Nat) (v : Val) : (putRp d k v).start = d.start := rfl
@[simp] theorem putRp_ev (k : Nat) (v : Val) : (putRp d k v).ev = d.ev := rfl
@[simp] theorem putRp_err (k : Nat) (v : Val) : (putRp d k v).err = d.err := rfl
@[simp] theorem putRp_tel (k : Nat) (v : Val) : (putRp d k v).tel = d.tel := rfl
@[simp] theorem putRp_store (k : Nat) (v : Val) : (putRp d k v).store = d.store := rfl
@[simp] theorem putRp_queues (k : Nat) (v : Val) : (putRp d k v).queues = d.queues := rfl
@[simp] theorem putRp_timers (k : Nat) (v : Val) : (putRp d k v).timers = d.timers := rfl
@[simp] theorem putRp_tmSrc (k : Nat) (v : Val) : (putRp d k v).tmSrc = d.tmSrc := rfl
@[simp] theorem putRp_halted (k : Nat) (v : Val) : (putRp d k v).halted = d.halted := rfl
@[simp] theorem putRp_bandSf (k : Nat) (v : Val) : (putRp d k v).bandSf = d.bandSf := rfl
@[simp] theorem putRp_bandG (k : Nat) (v : Val) : (putRp d k v).bandG = d.bandG := rfl
@[simp] theorem putRp_lanes (k : Nat) (v : Val) : (putRp d k v).lanes = d.lanes := rfl
@[simp] theorem putRp_gov (k : Nat) (v : Val) : (putRp d k v).gov = d.gov := rfl
@[simp] theorem putRp_sched (k : Nat) (v : Val) : (putRp d k v).sched = d.sched := rfl
@[simp] theorem putRp_nbr (k : Nat) (v : Val) : (putRp d k v).nbr = d.nbr := rfl
@[simp] theorem putRp_fwd (k : Nat) (v : Val) : (putRp d k v).fwd = d.fwd := rfl
@[simp] theorem putRp_shp (k : Nat) (v : Val) : (putRp d k v).shp = d.shp := rfl
@[simp] theorem putRp_bunting (k : Nat) (v : Val) : (putRp d k v).bunting = d.bunting := rfl
@[simp] theorem putRp_fw (k : Nat) (v : Val) : (putRp d k v).fw = d.fw := rfl
@[simp] theorem putRp_can (k : Nat) (v : Val) : (putRp d k v).can = d.can := rfl
@[simp] theorem putRp_hier (k : Nat) (v : Val) : (putRp d k v).hier = d.hier := rfl
@[simp] theorem putRp_qdl (k : Nat) (v : Val) : (putRp d k v).qdl = d.qdl := rfl
@[simp] theorem putRp_gpio (k : Nat) (v : Val) : (putRp d k v).gpio = d.gpio := rfl
@[simp] theorem putRp_ifs (k : Nat) (v : Val) : (putRp d k v).ifs = d.ifs := rfl
@[simp] theorem putRp_free (k : Nat) (v : Val) : (putRp d k v).free = d.free := rfl
@[simp] theorem putRp_out (k : Nat) (v : Val) : (putRp d k v).out = d.out := rfl

@[simp] theorem drawn_cnt : (drawn d).cnt = d.cnt := rfl
@[simp] theorem drawn_rw : (drawn d).rw = d.rw := rfl
@[simp] theorem drawn_clk : (drawn d).clk = d.clk := rfl
@[simp] theorem drawn_ptp : (drawn d).ptp = d.ptp := rfl
@[simp] theorem drawn_pps : (drawn d).pps = d.pps := rfl
@[simp] theorem drawn_pwr : (drawn d).pwr = d.pwr := rfl
@[simp] theorem drawn_start : (drawn d).start = d.start := rfl
@[simp] theorem drawn_nv : (drawn d).nv = d.nv := rfl
@[simp] theorem drawn_ev : (drawn d).ev = d.ev := rfl
@[simp] theorem drawn_err : (drawn d).err = d.err := rfl
@[simp] theorem drawn_tel : (drawn d).tel = d.tel := rfl
@[simp] theorem drawn_store : (drawn d).store = d.store := rfl
@[simp] theorem drawn_queues : (drawn d).queues = d.queues := rfl
@[simp] theorem drawn_timers : (drawn d).timers = d.timers := rfl
@[simp] theorem drawn_tmSrc : (drawn d).tmSrc = d.tmSrc := rfl
@[simp] theorem drawn_halted : (drawn d).halted = d.halted := rfl
@[simp] theorem drawn_bandSf : (drawn d).bandSf = d.bandSf := rfl
@[simp] theorem drawn_bandG : (drawn d).bandG = d.bandG := rfl
@[simp] theorem drawn_lanes : (drawn d).lanes = d.lanes := rfl
@[simp] theorem drawn_gov : (drawn d).gov = d.gov := rfl
@[simp] theorem drawn_sched : (drawn d).sched = d.sched := rfl
@[simp] theorem drawn_nbr : (drawn d).nbr = d.nbr := rfl
@[simp] theorem drawn_fwd : (drawn d).fwd = d.fwd := rfl
@[simp] theorem drawn_shp : (drawn d).shp = d.shp := rfl
@[simp] theorem drawn_bunting : (drawn d).bunting = d.bunting := rfl
@[simp] theorem drawn_fw : (drawn d).fw = d.fw := rfl
@[simp] theorem drawn_can : (drawn d).can = d.can := rfl
@[simp] theorem drawn_hier : (drawn d).hier = d.hier := rfl
@[simp] theorem drawn_qdl : (drawn d).qdl = d.qdl := rfl
@[simp] theorem drawn_gpio : (drawn d).gpio = d.gpio := rfl
@[simp] theorem drawn_ifs : (drawn d).ifs = d.ifs := rfl
@[simp] theorem drawn_out : (drawn d).out = d.out := rfl

@[simp] theorem emit_cnt (o : Out) : (emit d o).cnt = d.cnt := rfl
@[simp] theorem emit_rw (o : Out) : (emit d o).rw = d.rw := rfl
@[simp] theorem emit_clk (o : Out) : (emit d o).clk = d.clk := rfl
@[simp] theorem emit_ptp (o : Out) : (emit d o).ptp = d.ptp := rfl
@[simp] theorem emit_pps (o : Out) : (emit d o).pps = d.pps := rfl
@[simp] theorem emit_pwr (o : Out) : (emit d o).pwr = d.pwr := rfl
@[simp] theorem emit_start (o : Out) : (emit d o).start = d.start := rfl
@[simp] theorem emit_nv (o : Out) : (emit d o).nv = d.nv := rfl
@[simp] theorem emit_ev (o : Out) : (emit d o).ev = d.ev := rfl
@[simp] theorem emit_err (o : Out) : (emit d o).err = d.err := rfl
@[simp] theorem emit_tel (o : Out) : (emit d o).tel = d.tel := rfl
@[simp] theorem emit_store (o : Out) : (emit d o).store = d.store := rfl
@[simp] theorem emit_queues (o : Out) : (emit d o).queues = d.queues := rfl
@[simp] theorem emit_timers (o : Out) : (emit d o).timers = d.timers := rfl
@[simp] theorem emit_tmSrc (o : Out) : (emit d o).tmSrc = d.tmSrc := rfl
@[simp] theorem emit_halted (o : Out) : (emit d o).halted = d.halted := rfl
@[simp] theorem emit_bandSf (o : Out) : (emit d o).bandSf = d.bandSf := rfl
@[simp] theorem emit_bandG (o : Out) : (emit d o).bandG = d.bandG := rfl
@[simp] theorem emit_lanes (o : Out) : (emit d o).lanes = d.lanes := rfl
@[simp] theorem emit_gov (o : Out) : (emit d o).gov = d.gov := rfl
@[simp] theorem emit_sched (o : Out) : (emit d o).sched = d.sched := rfl
@[simp] theorem emit_nbr (o : Out) : (emit d o).nbr = d.nbr := rfl
@[simp] theorem emit_fwd (o : Out) : (emit d o).fwd = d.fwd := rfl
@[simp] theorem emit_shp (o : Out) : (emit d o).shp = d.shp := rfl
@[simp] theorem emit_bunting (o : Out) : (emit d o).bunting = d.bunting := rfl
@[simp] theorem emit_fw (o : Out) : (emit d o).fw = d.fw := rfl
@[simp] theorem emit_can (o : Out) : (emit d o).can = d.can := rfl
@[simp] theorem emit_hier (o : Out) : (emit d o).hier = d.hier := rfl
@[simp] theorem emit_qdl (o : Out) : (emit d o).qdl = d.qdl := rfl
@[simp] theorem emit_gpio (o : Out) : (emit d o).gpio = d.gpio := rfl
@[simp] theorem emit_ifs (o : Out) : (emit d o).ifs = d.ifs := rfl
@[simp] theorem emit_free (o : Out) : (emit d o).free = d.free := rfl

@[simp] theorem updQueue_cnt (q : Nat) (f : Queue → Queue) : (updQueue d q f).cnt = d.cnt := rfl
@[simp] theorem updQueue_rw (q : Nat) (f : Queue → Queue) : (updQueue d q f).rw = d.rw := rfl
@[simp] theorem updQueue_clk (q : Nat) (f : Queue → Queue) : (updQueue d q f).clk = d.clk := rfl
@[simp] theorem updQueue_ptp (q : Nat) (f : Queue → Queue) : (updQueue d q f).ptp = d.ptp := rfl
@[simp] theorem updQueue_pps (q : Nat) (f : Queue → Queue) : (updQueue d q f).pps = d.pps := rfl
@[simp] theorem updQueue_pwr (q : Nat) (f : Queue → Queue) : (updQueue d q f).pwr = d.pwr := rfl
@[simp] theorem updQueue_start (q : Nat) (f : Queue → Queue) : (updQueue d q f).start = d.start := rfl
@[simp] theorem updQueue_nv (q : Nat) (f : Queue → Queue) : (updQueue d q f).nv = d.nv := rfl
@[simp] theorem updQueue_ev (q : Nat) (f : Queue → Queue) : (updQueue d q f).ev = d.ev := rfl
@[simp] theorem updQueue_err (q : Nat) (f : Queue → Queue) : (updQueue d q f).err = d.err := rfl
@[simp] theorem updQueue_tel (q : Nat) (f : Queue → Queue) : (updQueue d q f).tel = d.tel := rfl
@[simp] theorem updQueue_store (q : Nat) (f : Queue → Queue) : (updQueue d q f).store = d.store := rfl
@[simp] theorem updQueue_timers (q : Nat) (f : Queue → Queue) : (updQueue d q f).timers = d.timers := rfl
@[simp] theorem updQueue_tmSrc (q : Nat) (f : Queue → Queue) : (updQueue d q f).tmSrc = d.tmSrc := rfl
@[simp] theorem updQueue_halted (q : Nat) (f : Queue → Queue) : (updQueue d q f).halted = d.halted := rfl
@[simp] theorem updQueue_bandSf (q : Nat) (f : Queue → Queue) : (updQueue d q f).bandSf = d.bandSf := rfl
@[simp] theorem updQueue_bandG (q : Nat) (f : Queue → Queue) : (updQueue d q f).bandG = d.bandG := rfl
@[simp] theorem updQueue_lanes (q : Nat) (f : Queue → Queue) : (updQueue d q f).lanes = d.lanes := rfl
@[simp] theorem updQueue_gov (q : Nat) (f : Queue → Queue) : (updQueue d q f).gov = d.gov := rfl
@[simp] theorem updQueue_sched (q : Nat) (f : Queue → Queue) : (updQueue d q f).sched = d.sched := rfl
@[simp] theorem updQueue_nbr (q : Nat) (f : Queue → Queue) : (updQueue d q f).nbr = d.nbr := rfl
@[simp] theorem updQueue_fwd (q : Nat) (f : Queue → Queue) : (updQueue d q f).fwd = d.fwd := rfl
@[simp] theorem updQueue_shp (q : Nat) (f : Queue → Queue) : (updQueue d q f).shp = d.shp := rfl
@[simp] theorem updQueue_bunting (q : Nat) (f : Queue → Queue) : (updQueue d q f).bunting = d.bunting := rfl
@[simp] theorem updQueue_fw (q : Nat) (f : Queue → Queue) : (updQueue d q f).fw = d.fw := rfl
@[simp] theorem updQueue_can (q : Nat) (f : Queue → Queue) : (updQueue d q f).can = d.can := rfl
@[simp] theorem updQueue_hier (q : Nat) (f : Queue → Queue) : (updQueue d q f).hier = d.hier := rfl
@[simp] theorem updQueue_qdl (q : Nat) (f : Queue → Queue) : (updQueue d q f).qdl = d.qdl := rfl
@[simp] theorem updQueue_gpio (q : Nat) (f : Queue → Queue) : (updQueue d q f).gpio = d.gpio := rfl
@[simp] theorem updQueue_ifs (q : Nat) (f : Queue → Queue) : (updQueue d q f).ifs = d.ifs := rfl
@[simp] theorem updQueue_free (q : Nat) (f : Queue → Queue) : (updQueue d q f).free = d.free := rfl
@[simp] theorem updQueue_out (q : Nat) (f : Queue → Queue) : (updQueue d q f).out = d.out := rfl

@[simp] theorem updGranule_cnt (g : Nat) (f : Granule → Granule) : (updGranule d g f).cnt = d.cnt := rfl
@[simp] theorem updGranule_rw (g : Nat) (f : Granule → Granule) : (updGranule d g f).rw = d.rw := rfl
@[simp] theorem updGranule_clk (g : Nat) (f : Granule → Granule) : (updGranule d g f).clk = d.clk := rfl
@[simp] theorem updGranule_ptp (g : Nat) (f : Granule → Granule) : (updGranule d g f).ptp = d.ptp := rfl
@[simp] theorem updGranule_pps (g : Nat) (f : Granule → Granule) : (updGranule d g f).pps = d.pps := rfl
@[simp] theorem updGranule_pwr (g : Nat) (f : Granule → Granule) : (updGranule d g f).pwr = d.pwr := rfl
@[simp] theorem updGranule_start (g : Nat) (f : Granule → Granule) : (updGranule d g f).start = d.start := rfl
@[simp] theorem updGranule_nv (g : Nat) (f : Granule → Granule) : (updGranule d g f).nv = d.nv := rfl
@[simp] theorem updGranule_ev (g : Nat) (f : Granule → Granule) : (updGranule d g f).ev = d.ev := rfl
@[simp] theorem updGranule_err (g : Nat) (f : Granule → Granule) : (updGranule d g f).err = d.err := rfl
@[simp] theorem updGranule_tel (g : Nat) (f : Granule → Granule) : (updGranule d g f).tel = d.tel := rfl
@[simp] theorem updGranule_queues (g : Nat) (f : Granule → Granule) : (updGranule d g f).queues = d.queues := rfl
@[simp] theorem updGranule_timers (g : Nat) (f : Granule → Granule) : (updGranule d g f).timers = d.timers := rfl
@[simp] theorem updGranule_tmSrc (g : Nat) (f : Granule → Granule) : (updGranule d g f).tmSrc = d.tmSrc := rfl
@[simp] theorem updGranule_halted (g : Nat) (f : Granule → Granule) : (updGranule d g f).halted = d.halted := rfl
@[simp] theorem updGranule_bandSf (g : Nat) (f : Granule → Granule) : (updGranule d g f).bandSf = d.bandSf := rfl
@[simp] theorem updGranule_bandG (g : Nat) (f : Granule → Granule) : (updGranule d g f).bandG = d.bandG := rfl
@[simp] theorem updGranule_lanes (g : Nat) (f : Granule → Granule) : (updGranule d g f).lanes = d.lanes := rfl
@[simp] theorem updGranule_gov (g : Nat) (f : Granule → Granule) : (updGranule d g f).gov = d.gov := rfl
@[simp] theorem updGranule_sched (g : Nat) (f : Granule → Granule) : (updGranule d g f).sched = d.sched := rfl
@[simp] theorem updGranule_nbr (g : Nat) (f : Granule → Granule) : (updGranule d g f).nbr = d.nbr := rfl
@[simp] theorem updGranule_fwd (g : Nat) (f : Granule → Granule) : (updGranule d g f).fwd = d.fwd := rfl
@[simp] theorem updGranule_shp (g : Nat) (f : Granule → Granule) : (updGranule d g f).shp = d.shp := rfl
@[simp] theorem updGranule_bunting (g : Nat) (f : Granule → Granule) : (updGranule d g f).bunting = d.bunting := rfl
@[simp] theorem updGranule_fw (g : Nat) (f : Granule → Granule) : (updGranule d g f).fw = d.fw := rfl
@[simp] theorem updGranule_can (g : Nat) (f : Granule → Granule) : (updGranule d g f).can = d.can := rfl
@[simp] theorem updGranule_hier (g : Nat) (f : Granule → Granule) : (updGranule d g f).hier = d.hier := rfl
@[simp] theorem updGranule_qdl (g : Nat) (f : Granule → Granule) : (updGranule d g f).qdl = d.qdl := rfl
@[simp] theorem updGranule_gpio (g : Nat) (f : Granule → Granule) : (updGranule d g f).gpio = d.gpio := rfl
@[simp] theorem updGranule_ifs (g : Nat) (f : Granule → Granule) : (updGranule d g f).ifs = d.ifs := rfl
@[simp] theorem updGranule_free (g : Nat) (f : Granule → Granule) : (updGranule d g f).free = d.free := rfl
@[simp] theorem updGranule_out (g : Nat) (f : Granule → Granule) : (updGranule d g f).out = d.out := rfl

@[simp] theorem updTimer_cnt (n : Nat) (f : Timer → Timer) : (updTimer d n f).cnt = d.cnt := rfl
@[simp] theorem updTimer_rw (n : Nat) (f : Timer → Timer) : (updTimer d n f).rw = d.rw := rfl
@[simp] theorem updTimer_clk (n : Nat) (f : Timer → Timer) : (updTimer d n f).clk = d.clk := rfl
@[simp] theorem updTimer_ptp (n : Nat) (f : Timer → Timer) : (updTimer d n f).ptp = d.ptp := rfl
@[simp] theorem updTimer_pps (n : Nat) (f : Timer → Timer) : (updTimer d n f).pps = d.pps := rfl
@[simp] theorem updTimer_pwr (n : Nat) (f : Timer → Timer) : (updTimer d n f).pwr = d.pwr := rfl
@[simp] theorem updTimer_start (n : Nat) (f : Timer → Timer) : (updTimer d n f).start = d.start := rfl
@[simp] theorem updTimer_nv (n : Nat) (f : Timer → Timer) : (updTimer d n f).nv = d.nv := rfl
@[simp] theorem updTimer_ev (n : Nat) (f : Timer → Timer) : (updTimer d n f).ev = d.ev := rfl
@[simp] theorem updTimer_err (n : Nat) (f : Timer → Timer) : (updTimer d n f).err = d.err := rfl
@[simp] theorem updTimer_tel (n : Nat) (f : Timer → Timer) : (updTimer d n f).tel = d.tel := rfl
@[simp] theorem updTimer_store (n : Nat) (f : Timer → Timer) : (updTimer d n f).store = d.store := rfl
@[simp] theorem updTimer_queues (n : Nat) (f : Timer → Timer) : (updTimer d n f).queues = d.queues := rfl
@[simp] theorem updTimer_tmSrc (n : Nat) (f : Timer → Timer) : (updTimer d n f).tmSrc = d.tmSrc := rfl
@[simp] theorem updTimer_halted (n : Nat) (f : Timer → Timer) : (updTimer d n f).halted = d.halted := rfl
@[simp] theorem updTimer_bandSf (n : Nat) (f : Timer → Timer) : (updTimer d n f).bandSf = d.bandSf := rfl
@[simp] theorem updTimer_bandG (n : Nat) (f : Timer → Timer) : (updTimer d n f).bandG = d.bandG := rfl
@[simp] theorem updTimer_lanes (n : Nat) (f : Timer → Timer) : (updTimer d n f).lanes = d.lanes := rfl
@[simp] theorem updTimer_gov (n : Nat) (f : Timer → Timer) : (updTimer d n f).gov = d.gov := rfl
@[simp] theorem updTimer_sched (n : Nat) (f : Timer → Timer) : (updTimer d n f).sched = d.sched := rfl
@[simp] theorem updTimer_nbr (n : Nat) (f : Timer → Timer) : (updTimer d n f).nbr = d.nbr := rfl
@[simp] theorem updTimer_fwd (n : Nat) (f : Timer → Timer) : (updTimer d n f).fwd = d.fwd := rfl
@[simp] theorem updTimer_shp (n : Nat) (f : Timer → Timer) : (updTimer d n f).shp = d.shp := rfl
@[simp] theorem updTimer_bunting (n : Nat) (f : Timer → Timer) : (updTimer d n f).bunting = d.bunting := rfl
@[simp] theorem updTimer_fw (n : Nat) (f : Timer → Timer) : (updTimer d n f).fw = d.fw := rfl
@[simp] theorem updTimer_can (n : Nat) (f : Timer → Timer) : (updTimer d n f).can = d.can := rfl
@[simp] theorem updTimer_hier (n : Nat) (f : Timer → Timer) : (updTimer d n f).hier = d.hier := rfl
@[simp] theorem updTimer_qdl (n : Nat) (f : Timer → Timer) : (updTimer d n f).qdl = d.qdl := rfl
@[simp] theorem updTimer_gpio (n : Nat) (f : Timer → Timer) : (updTimer d n f).gpio = d.gpio := rfl
@[simp] theorem updTimer_ifs (n : Nat) (f : Timer → Timer) : (updTimer d n f).ifs = d.ifs := rfl
@[simp] theorem updTimer_free (n : Nat) (f : Timer → Timer) : (updTimer d n f).free = d.free := rfl
@[simp] theorem updTimer_out (n : Nat) (f : Timer → Timer) : (updTimer d n f).out = d.out := rfl

@[simp] theorem updPort_cnt (p : Nat) (f : Port → Port) : (updPort d p f).cnt = d.cnt := rfl
@[simp] theorem updPort_rw (p : Nat) (f : Port → Port) : (updPort d p f).rw = d.rw := rfl
@[simp] theorem updPort_clk (p : Nat) (f : Port → Port) : (updPort d p f).clk = d.clk := rfl
@[simp] theorem updPort_ptp (p : Nat) (f : Port → Port) : (updPort d p f).ptp = d.ptp := rfl
@[simp] theorem updPort_pps (p : Nat) (f : Port → Port) : (updPort d p f).pps = d.pps := rfl
@[simp] theorem updPort_pwr (p : Nat) (f : Port → Port) : (updPort d p f).pwr = d.pwr := rfl
@[simp] theorem updPort_start (p : Nat) (f : Port → Port) : (updPort d p f).start = d.start := rfl
@[simp] theorem updPort_nv (p : Nat) (f : Port → Port) : (updPort d p f).nv = d.nv := rfl
@[simp] theorem updPort_ev (p : Nat) (f : Port → Port) : (updPort d p f).ev = d.ev := rfl
@[simp] theorem updPort_err (p : Nat) (f : Port → Port) : (updPort d p f).err = d.err := rfl
@[simp] theorem updPort_tel (p : Nat) (f : Port → Port) : (updPort d p f).tel = d.tel := rfl
@[simp] theorem updPort_store (p : Nat) (f : Port → Port) : (updPort d p f).store = d.store := rfl
@[simp] theorem updPort_queues (p : Nat) (f : Port → Port) : (updPort d p f).queues = d.queues := rfl
@[simp] theorem updPort_timers (p : Nat) (f : Port → Port) : (updPort d p f).timers = d.timers := rfl
@[simp] theorem updPort_tmSrc (p : Nat) (f : Port → Port) : (updPort d p f).tmSrc = d.tmSrc := rfl
@[simp] theorem updPort_halted (p : Nat) (f : Port → Port) : (updPort d p f).halted = d.halted := rfl
@[simp] theorem updPort_bandSf (p : Nat) (f : Port → Port) : (updPort d p f).bandSf = d.bandSf := rfl
@[simp] theorem updPort_bandG (p : Nat) (f : Port → Port) : (updPort d p f).bandG = d.bandG := rfl
@[simp] theorem updPort_lanes (p : Nat) (f : Port → Port) : (updPort d p f).lanes = d.lanes := rfl
@[simp] theorem updPort_gov (p : Nat) (f : Port → Port) : (updPort d p f).gov = d.gov := rfl
@[simp] theorem updPort_sched (p : Nat) (f : Port → Port) : (updPort d p f).sched = d.sched := rfl
@[simp] theorem updPort_nbr (p : Nat) (f : Port → Port) : (updPort d p f).nbr = d.nbr := rfl
@[simp] theorem updPort_fwd (p : Nat) (f : Port → Port) : (updPort d p f).fwd = d.fwd := rfl
@[simp] theorem updPort_bunting (p : Nat) (f : Port → Port) : (updPort d p f).bunting = d.bunting := rfl
@[simp] theorem updPort_fw (p : Nat) (f : Port → Port) : (updPort d p f).fw = d.fw := rfl
@[simp] theorem updPort_can (p : Nat) (f : Port → Port) : (updPort d p f).can = d.can := rfl
@[simp] theorem updPort_hier (p : Nat) (f : Port → Port) : (updPort d p f).hier = d.hier := rfl
@[simp] theorem updPort_qdl (p : Nat) (f : Port → Port) : (updPort d p f).qdl = d.qdl := rfl
@[simp] theorem updPort_gpio (p : Nat) (f : Port → Port) : (updPort d p f).gpio = d.gpio := rfl
@[simp] theorem updPort_ifs (p : Nat) (f : Port → Port) : (updPort d p f).ifs = d.ifs := rfl
@[simp] theorem updPort_free (p : Nat) (f : Port → Port) : (updPort d p f).free = d.free := rfl
@[simp] theorem updPort_out (p : Nat) (f : Port → Port) : (updPort d p f).out = d.out := rfl

@[simp] theorem updSession_cnt (i : Nat) (f : Session → Session) : (updSession d i f).cnt = d.cnt := rfl
@[simp] theorem updSession_rw (i : Nat) (f : Session → Session) : (updSession d i f).rw = d.rw := rfl
@[simp] theorem updSession_clk (i : Nat) (f : Session → Session) : (updSession d i f).clk = d.clk := rfl
@[simp] theorem updSession_ptp (i : Nat) (f : Session → Session) : (updSession d i f).ptp = d.ptp := rfl
@[simp] theorem updSession_pps (i : Nat) (f : Session → Session) : (updSession d i f).pps = d.pps := rfl
@[simp] theorem updSession_pwr (i : Nat) (f : Session → Session) : (updSession d i f).pwr = d.pwr := rfl
@[simp] theorem updSession_start (i : Nat) (f : Session → Session) : (updSession d i f).start = d.start := rfl
@[simp] theorem updSession_nv (i : Nat) (f : Session → Session) : (updSession d i f).nv = d.nv := rfl
@[simp] theorem updSession_ev (i : Nat) (f : Session → Session) : (updSession d i f).ev = d.ev := rfl
@[simp] theorem updSession_err (i : Nat) (f : Session → Session) : (updSession d i f).err = d.err := rfl
@[simp] theorem updSession_tel (i : Nat) (f : Session → Session) : (updSession d i f).tel = d.tel := rfl
@[simp] theorem updSession_store (i : Nat) (f : Session → Session) : (updSession d i f).store = d.store := rfl
@[simp] theorem updSession_queues (i : Nat) (f : Session → Session) : (updSession d i f).queues = d.queues := rfl
@[simp] theorem updSession_timers (i : Nat) (f : Session → Session) : (updSession d i f).timers = d.timers := rfl
@[simp] theorem updSession_tmSrc (i : Nat) (f : Session → Session) : (updSession d i f).tmSrc = d.tmSrc := rfl
@[simp] theorem updSession_halted (i : Nat) (f : Session → Session) : (updSession d i f).halted = d.halted := rfl
@[simp] theorem updSession_bandSf (i : Nat) (f : Session → Session) : (updSession d i f).bandSf = d.bandSf := rfl
@[simp] theorem updSession_bandG (i : Nat) (f : Session → Session) : (updSession d i f).bandG = d.bandG := rfl
@[simp] theorem updSession_lanes (i : Nat) (f : Session → Session) : (updSession d i f).lanes = d.lanes := rfl
@[simp] theorem updSession_gov (i : Nat) (f : Session → Session) : (updSession d i f).gov = d.gov := rfl
@[simp] theorem updSession_sched (i : Nat) (f : Session → Session) : (updSession d i f).sched = d.sched := rfl
@[simp] theorem updSession_nbr (i : Nat) (f : Session → Session) : (updSession d i f).nbr = d.nbr := rfl
@[simp] theorem updSession_fwd (i : Nat) (f : Session → Session) : (updSession d i f).fwd = d.fwd := rfl
@[simp] theorem updSession_shp (i : Nat) (f : Session → Session) : (updSession d i f).shp = d.shp := rfl
@[simp] theorem updSession_bunting (i : Nat) (f : Session → Session) : (updSession d i f).bunting = d.bunting := rfl
@[simp] theorem updSession_fw (i : Nat) (f : Session → Session) : (updSession d i f).fw = d.fw := rfl
@[simp] theorem updSession_can (i : Nat) (f : Session → Session) : (updSession d i f).can = d.can := rfl
@[simp] theorem updSession_hier (i : Nat) (f : Session → Session) : (updSession d i f).hier = d.hier := rfl
@[simp] theorem updSession_gpio (i : Nat) (f : Session → Session) : (updSession d i f).gpio = d.gpio := rfl
@[simp] theorem updSession_ifs (i : Nat) (f : Session → Session) : (updSession d i f).ifs = d.ifs := rfl
@[simp] theorem updSession_free (i : Nat) (f : Session → Session) : (updSession d i f).free = d.free := rfl
@[simp] theorem updSession_out (i : Nat) (f : Session → Session) : (updSession d i f).out = d.out := rfl

@[simp] theorem noteEvent_cnt (e x : Nat) (t : Int) : (noteEvent d e x t).cnt = d.cnt := rfl
@[simp] theorem noteEvent_rw (e x : Nat) (t : Int) : (noteEvent d e x t).rw = d.rw := rfl
@[simp] theorem noteEvent_clk (e x : Nat) (t : Int) : (noteEvent d e x t).clk = d.clk := rfl
@[simp] theorem noteEvent_ptp (e x : Nat) (t : Int) : (noteEvent d e x t).ptp = d.ptp := rfl
@[simp] theorem noteEvent_pps (e x : Nat) (t : Int) : (noteEvent d e x t).pps = d.pps := rfl
@[simp] theorem noteEvent_pwr (e x : Nat) (t : Int) : (noteEvent d e x t).pwr = d.pwr := rfl
@[simp] theorem noteEvent_start (e x : Nat) (t : Int) : (noteEvent d e x t).start = d.start := rfl
@[simp] theorem noteEvent_nv (e x : Nat) (t : Int) : (noteEvent d e x t).nv = d.nv := rfl
@[simp] theorem noteEvent_err (e x : Nat) (t : Int) : (noteEvent d e x t).err = d.err := rfl
@[simp] theorem noteEvent_tel (e x : Nat) (t : Int) : (noteEvent d e x t).tel = d.tel := rfl
@[simp] theorem noteEvent_store (e x : Nat) (t : Int) : (noteEvent d e x t).store = d.store := rfl
@[simp] theorem noteEvent_queues (e x : Nat) (t : Int) : (noteEvent d e x t).queues = d.queues := rfl
@[simp] theorem noteEvent_timers (e x : Nat) (t : Int) : (noteEvent d e x t).timers = d.timers := rfl
@[simp] theorem noteEvent_tmSrc (e x : Nat) (t : Int) : (noteEvent d e x t).tmSrc = d.tmSrc := rfl
@[simp] theorem noteEvent_halted (e x : Nat) (t : Int) : (noteEvent d e x t).halted = d.halted := rfl
@[simp] theorem noteEvent_bandSf (e x : Nat) (t : Int) : (noteEvent d e x t).bandSf = d.bandSf := rfl
@[simp] theorem noteEvent_bandG (e x : Nat) (t : Int) : (noteEvent d e x t).bandG = d.bandG := rfl
@[simp] theorem noteEvent_lanes (e x : Nat) (t : Int) : (noteEvent d e x t).lanes = d.lanes := rfl
@[simp] theorem noteEvent_gov (e x : Nat) (t : Int) : (noteEvent d e x t).gov = d.gov := rfl
@[simp] theorem noteEvent_sched (e x : Nat) (t : Int) : (noteEvent d e x t).sched = d.sched := rfl
@[simp] theorem noteEvent_nbr (e x : Nat) (t : Int) : (noteEvent d e x t).nbr = d.nbr := rfl
@[simp] theorem noteEvent_fwd (e x : Nat) (t : Int) : (noteEvent d e x t).fwd = d.fwd := rfl
@[simp] theorem noteEvent_shp (e x : Nat) (t : Int) : (noteEvent d e x t).shp = d.shp := rfl
@[simp] theorem noteEvent_bunting (e x : Nat) (t : Int) : (noteEvent d e x t).bunting = d.bunting := rfl
@[simp] theorem noteEvent_fw (e x : Nat) (t : Int) : (noteEvent d e x t).fw = d.fw := rfl
@[simp] theorem noteEvent_can (e x : Nat) (t : Int) : (noteEvent d e x t).can = d.can := rfl
@[simp] theorem noteEvent_hier (e x : Nat) (t : Int) : (noteEvent d e x t).hier = d.hier := rfl
@[simp] theorem noteEvent_qdl (e x : Nat) (t : Int) : (noteEvent d e x t).qdl = d.qdl := rfl
@[simp] theorem noteEvent_gpio (e x : Nat) (t : Int) : (noteEvent d e x t).gpio = d.gpio := rfl
@[simp] theorem noteEvent_ifs (e x : Nat) (t : Int) : (noteEvent d e x t).ifs = d.ifs := rfl
@[simp] theorem noteEvent_free (e x : Nat) (t : Int) : (noteEvent d e x t).free = d.free := rfl
@[simp] theorem noteEvent_out (e x : Nat) (t : Int) : (noteEvent d e x t).out = d.out := rfl

@[simp] theorem accept_cnt (k : Nat) : (accept d k).cnt = d.cnt := rfl
@[simp] theorem accept_rw (k : Nat) : (accept d k).rw = d.rw := rfl
@[simp] theorem accept_clk (k : Nat) : (accept d k).clk = d.clk := rfl
@[simp] theorem accept_ptp (k : Nat) : (accept d k).ptp = d.ptp := rfl
@[simp] theorem accept_pps (k : Nat) : (accept d k).pps = d.pps := rfl
@[simp] theorem accept_pwr (k : Nat) : (accept d k).pwr = d.pwr := rfl
@[simp] theorem accept_start (k : Nat) : (accept d k).start = d.start := rfl
@[simp] theorem accept_nv (k : Nat) : (accept d k).nv = d.nv := rfl
@[simp] theorem accept_ev (k : Nat) : (accept d k).ev = d.ev := rfl
@[simp] theorem accept_err (k : Nat) : (accept d k).err = d.err := rfl
@[simp] theorem accept_tel (k : Nat) : (accept d k).tel = d.tel := rfl
@[simp] theorem accept_store (k : Nat) : (accept d k).store = d.store := rfl
@[simp] theorem accept_queues (k : Nat) : (accept d k).queues = d.queues := rfl
@[simp] theorem accept_timers (k : Nat) : (accept d k).timers = d.timers := rfl
@[simp] theorem accept_tmSrc (k : Nat) : (accept d k).tmSrc = d.tmSrc := rfl
@[simp] theorem accept_halted (k : Nat) : (accept d k).halted = d.halted := rfl
@[simp] theorem accept_bandSf (k : Nat) : (accept d k).bandSf = d.bandSf := rfl
@[simp] theorem accept_bandG (k : Nat) : (accept d k).bandG = d.bandG := rfl
@[simp] theorem accept_lanes (k : Nat) : (accept d k).lanes = d.lanes := rfl
@[simp] theorem accept_gov (k : Nat) : (accept d k).gov = d.gov := rfl
@[simp] theorem accept_sched (k : Nat) : (accept d k).sched = d.sched := rfl
@[simp] theorem accept_nbr (k : Nat) : (accept d k).nbr = d.nbr := rfl
@[simp] theorem accept_fwd (k : Nat) : (accept d k).fwd = d.fwd := rfl
@[simp] theorem accept_shp (k : Nat) : (accept d k).shp = d.shp := rfl
@[simp] theorem accept_bunting (k : Nat) : (accept d k).bunting = d.bunting := rfl
@[simp] theorem accept_fw (k : Nat) : (accept d k).fw = d.fw := rfl
@[simp] theorem accept_can (k : Nat) : (accept d k).can = d.can := rfl
@[simp] theorem accept_hier (k : Nat) : (accept d k).hier = d.hier := rfl
@[simp] theorem accept_gpio (k : Nat) : (accept d k).gpio = d.gpio := rfl
@[simp] theorem accept_ifs (k : Nat) : (accept d k).ifs = d.ifs := rfl
@[simp] theorem accept_free (k : Nat) : (accept d k).free = d.free := rfl
@[simp] theorem accept_out (k : Nat) : (accept d k).out = d.out := rfl

@[simp] theorem finish_cnt (k : Nat) : (finish d k).cnt = d.cnt := rfl
@[simp] theorem finish_rw (k : Nat) : (finish d k).rw = d.rw := rfl
@[simp] theorem finish_clk (k : Nat) : (finish d k).clk = d.clk := rfl
@[simp] theorem finish_ptp (k : Nat) : (finish d k).ptp = d.ptp := rfl
@[simp] theorem finish_pps (k : Nat) : (finish d k).pps = d.pps := rfl
@[simp] theorem finish_pwr (k : Nat) : (finish d k).pwr = d.pwr := rfl
@[simp] theorem finish_start (k : Nat) : (finish d k).start = d.start := rfl
@[simp] theorem finish_nv (k : Nat) : (finish d k).nv = d.nv := rfl
@[simp] theorem finish_ev (k : Nat) : (finish d k).ev = d.ev := rfl
@[simp] theorem finish_err (k : Nat) : (finish d k).err = d.err := rfl
@[simp] theorem finish_tel (k : Nat) : (finish d k).tel = d.tel := rfl
@[simp] theorem finish_store (k : Nat) : (finish d k).store = d.store := rfl
@[simp] theorem finish_queues (k : Nat) : (finish d k).queues = d.queues := rfl
@[simp] theorem finish_timers (k : Nat) : (finish d k).timers = d.timers := rfl
@[simp] theorem finish_tmSrc (k : Nat) : (finish d k).tmSrc = d.tmSrc := rfl
@[simp] theorem finish_halted (k : Nat) : (finish d k).halted = d.halted := rfl
@[simp] theorem finish_bandSf (k : Nat) : (finish d k).bandSf = d.bandSf := rfl
@[simp] theorem finish_bandG (k : Nat) : (finish d k).bandG = d.bandG := rfl
@[simp] theorem finish_lanes (k : Nat) : (finish d k).lanes = d.lanes := rfl
@[simp] theorem finish_sched (k : Nat) : (finish d k).sched = d.sched := rfl
@[simp] theorem finish_nbr (k : Nat) : (finish d k).nbr = d.nbr := rfl
@[simp] theorem finish_fwd (k : Nat) : (finish d k).fwd = d.fwd := rfl
@[simp] theorem finish_shp (k : Nat) : (finish d k).shp = d.shp := rfl
@[simp] theorem finish_bunting (k : Nat) : (finish d k).bunting = d.bunting := rfl
@[simp] theorem finish_fw (k : Nat) : (finish d k).fw = d.fw := rfl
@[simp] theorem finish_can (k : Nat) : (finish d k).can = d.can := rfl
@[simp] theorem finish_hier (k : Nat) : (finish d k).hier = d.hier := rfl
@[simp] theorem finish_gpio (k : Nat) : (finish d k).gpio = d.gpio := rfl
@[simp] theorem finish_ifs (k : Nat) : (finish d k).ifs = d.ifs := rfl
@[simp] theorem finish_free (k : Nat) : (finish d k).free = d.free := rfl
@[simp] theorem finish_out (k : Nat) : (finish d k).out = d.out := rfl

@[simp] theorem addRef_cnt (g : Nat) : (addRef d g).cnt = d.cnt := rfl
@[simp] theorem addRef_rw (g : Nat) : (addRef d g).rw = d.rw := rfl
@[simp] theorem addRef_clk (g : Nat) : (addRef d g).clk = d.clk := rfl
@[simp] theorem addRef_ptp (g : Nat) : (addRef d g).ptp = d.ptp := rfl
@[simp] theorem addRef_pps (g : Nat) : (addRef d g).pps = d.pps := rfl
@[simp] theorem addRef_pwr (g : Nat) : (addRef d g).pwr = d.pwr := rfl
@[simp] theorem addRef_start (g : Nat) : (addRef d g).start = d.start := rfl
@[simp] theorem addRef_nv (g : Nat) : (addRef d g).nv = d.nv := rfl
@[simp] theorem addRef_ev (g : Nat) : (addRef d g).ev = d.ev := rfl
@[simp] theorem addRef_err (g : Nat) : (addRef d g).err = d.err := rfl
@[simp] theorem addRef_tel (g : Nat) : (addRef d g).tel = d.tel := rfl
@[simp] theorem addRef_queues (g : Nat) : (addRef d g).queues = d.queues := rfl
@[simp] theorem addRef_timers (g : Nat) : (addRef d g).timers = d.timers := rfl
@[simp] theorem addRef_tmSrc (g : Nat) : (addRef d g).tmSrc = d.tmSrc := rfl
@[simp] theorem addRef_halted (g : Nat) : (addRef d g).halted = d.halted := rfl
@[simp] theorem addRef_bandSf (g : Nat) : (addRef d g).bandSf = d.bandSf := rfl
@[simp] theorem addRef_bandG (g : Nat) : (addRef d g).bandG = d.bandG := rfl
@[simp] theorem addRef_lanes (g : Nat) : (addRef d g).lanes = d.lanes := rfl
@[simp] theorem addRef_gov (g : Nat) : (addRef d g).gov = d.gov := rfl
@[simp] theorem addRef_sched (g : Nat) : (addRef d g).sched = d.sched := rfl
@[simp] theorem addRef_nbr (g : Nat) : (addRef d g).nbr = d.nbr := rfl
@[simp] theorem addRef_fwd (g : Nat) : (addRef d g).fwd = d.fwd := rfl
@[simp] theorem addRef_shp (g : Nat) : (addRef d g).shp = d.shp := rfl
@[simp] theorem addRef_bunting (g : Nat) : (addRef d g).bunting = d.bunting := rfl
@[simp] theorem addRef_fw (g : Nat) : (addRef d g).fw = d.fw := rfl
@[simp] theorem addRef_can (g : Nat) : (addRef d g).can = d.can := rfl
@[simp] theorem addRef_hier (g : Nat) : (addRef d g).hier = d.hier := rfl
@[simp] theorem addRef_qdl (g : Nat) : (addRef d g).qdl = d.qdl := rfl
@[simp] theorem addRef_gpio (g : Nat) : (addRef d g).gpio = d.gpio := rfl
@[simp] theorem addRef_ifs (g : Nat) : (addRef d g).ifs = d.ifs := rfl
@[simp] theorem addRef_free (g : Nat) : (addRef d g).free = d.free := rfl
@[simp] theorem addRef_out (g : Nat) : (addRef d g).out = d.out := rfl

@[simp] theorem passBuf_cnt (b : Option Nat) : (passBuf d b).cnt = d.cnt := by cases b <;> rfl
@[simp] theorem passBuf_rw (b : Option Nat) : (passBuf d b).rw = d.rw := by cases b <;> rfl
@[simp] theorem passBuf_clk (b : Option Nat) : (passBuf d b).clk = d.clk := by cases b <;> rfl
@[simp] theorem passBuf_ptp (b : Option Nat) : (passBuf d b).ptp = d.ptp := by cases b <;> rfl
@[simp] theorem passBuf_pps (b : Option Nat) : (passBuf d b).pps = d.pps := by cases b <;> rfl
@[simp] theorem passBuf_pwr (b : Option Nat) : (passBuf d b).pwr = d.pwr := by cases b <;> rfl
@[simp] theorem passBuf_start (b : Option Nat) : (passBuf d b).start = d.start := by cases b <;> rfl
@[simp] theorem passBuf_nv (b : Option Nat) : (passBuf d b).nv = d.nv := by cases b <;> rfl
@[simp] theorem passBuf_ev (b : Option Nat) : (passBuf d b).ev = d.ev := by cases b <;> rfl
@[simp] theorem passBuf_err (b : Option Nat) : (passBuf d b).err = d.err := by cases b <;> rfl
@[simp] theorem passBuf_tel (b : Option Nat) : (passBuf d b).tel = d.tel := by cases b <;> rfl
@[simp] theorem passBuf_queues (b : Option Nat) : (passBuf d b).queues = d.queues := by cases b <;> rfl
@[simp] theorem passBuf_timers (b : Option Nat) : (passBuf d b).timers = d.timers := by cases b <;> rfl
@[simp] theorem passBuf_tmSrc (b : Option Nat) : (passBuf d b).tmSrc = d.tmSrc := by cases b <;> rfl
@[simp] theorem passBuf_halted (b : Option Nat) : (passBuf d b).halted = d.halted := by cases b <;> rfl
@[simp] theorem passBuf_bandSf (b : Option Nat) : (passBuf d b).bandSf = d.bandSf := by cases b <;> rfl
@[simp] theorem passBuf_bandG (b : Option Nat) : (passBuf d b).bandG = d.bandG := by cases b <;> rfl
@[simp] theorem passBuf_lanes (b : Option Nat) : (passBuf d b).lanes = d.lanes := by cases b <;> rfl
@[simp] theorem passBuf_gov (b : Option Nat) : (passBuf d b).gov = d.gov := by cases b <;> rfl
@[simp] theorem passBuf_sched (b : Option Nat) : (passBuf d b).sched = d.sched := by cases b <;> rfl
@[simp] theorem passBuf_nbr (b : Option Nat) : (passBuf d b).nbr = d.nbr := by cases b <;> rfl
@[simp] theorem passBuf_fwd (b : Option Nat) : (passBuf d b).fwd = d.fwd := by cases b <;> rfl
@[simp] theorem passBuf_shp (b : Option Nat) : (passBuf d b).shp = d.shp := by cases b <;> rfl
@[simp] theorem passBuf_bunting (b : Option Nat) : (passBuf d b).bunting = d.bunting := by cases b <;> rfl
@[simp] theorem passBuf_fw (b : Option Nat) : (passBuf d b).fw = d.fw := by cases b <;> rfl
@[simp] theorem passBuf_can (b : Option Nat) : (passBuf d b).can = d.can := by cases b <;> rfl
@[simp] theorem passBuf_hier (b : Option Nat) : (passBuf d b).hier = d.hier := by cases b <;> rfl
@[simp] theorem passBuf_qdl (b : Option Nat) : (passBuf d b).qdl = d.qdl := by cases b <;> rfl
@[simp] theorem passBuf_gpio (b : Option Nat) : (passBuf d b).gpio = d.gpio := by cases b <;> rfl
@[simp] theorem passBuf_ifs (b : Option Nat) : (passBuf d b).ifs = d.ifs := by cases b <;> rfl
@[simp] theorem passBuf_free (b : Option Nat) : (passBuf d b).free = d.free := by cases b <;> rfl
@[simp] theorem passBuf_out (b : Option Nat) : (passBuf d b).out = d.out := by cases b <;> rfl
@[simp] theorem updLane_cnt (n : Nat) (f : Lane → Lane) : (updLane d n f).cnt = d.cnt := rfl
@[simp] theorem updLane_rw (n : Nat) (f : Lane → Lane) : (updLane d n f).rw = d.rw := rfl
@[simp] theorem updLane_clk (n : Nat) (f : Lane → Lane) : (updLane d n f).clk = d.clk := rfl
@[simp] theorem updLane_ptp (n : Nat) (f : Lane → Lane) : (updLane d n f).ptp = d.ptp := rfl
@[simp] theorem updLane_pps (n : Nat) (f : Lane → Lane) : (updLane d n f).pps = d.pps := rfl
@[simp] theorem updLane_pwr (n : Nat) (f : Lane → Lane) : (updLane d n f).pwr = d.pwr := rfl
@[simp] theorem updLane_start (n : Nat) (f : Lane → Lane) : (updLane d n f).start = d.start := rfl
@[simp] theorem updLane_nv (n : Nat) (f : Lane → Lane) : (updLane d n f).nv = d.nv := rfl
@[simp] theorem updLane_ev (n : Nat) (f : Lane → Lane) : (updLane d n f).ev = d.ev := rfl
@[simp] theorem updLane_err (n : Nat) (f : Lane → Lane) : (updLane d n f).err = d.err := rfl
@[simp] theorem updLane_tel (n : Nat) (f : Lane → Lane) : (updLane d n f).tel = d.tel := rfl
@[simp] theorem updLane_store (n : Nat) (f : Lane → Lane) : (updLane d n f).store = d.store := rfl
@[simp] theorem updLane_queues (n : Nat) (f : Lane → Lane) : (updLane d n f).queues = d.queues := rfl
@[simp] theorem updLane_timers (n : Nat) (f : Lane → Lane) : (updLane d n f).timers = d.timers := rfl
@[simp] theorem updLane_tmSrc (n : Nat) (f : Lane → Lane) : (updLane d n f).tmSrc = d.tmSrc := rfl
@[simp] theorem updLane_halted (n : Nat) (f : Lane → Lane) : (updLane d n f).halted = d.halted := rfl
@[simp] theorem updLane_bandSf (n : Nat) (f : Lane → Lane) : (updLane d n f).bandSf = d.bandSf := rfl
@[simp] theorem updLane_bandG (n : Nat) (f : Lane → Lane) : (updLane d n f).bandG = d.bandG := rfl
@[simp] theorem updLane_gov (n : Nat) (f : Lane → Lane) : (updLane d n f).gov = d.gov := rfl
@[simp] theorem updLane_sched (n : Nat) (f : Lane → Lane) : (updLane d n f).sched = d.sched := rfl
@[simp] theorem updLane_nbr (n : Nat) (f : Lane → Lane) : (updLane d n f).nbr = d.nbr := rfl
@[simp] theorem updLane_fwd (n : Nat) (f : Lane → Lane) : (updLane d n f).fwd = d.fwd := rfl
@[simp] theorem updLane_shp (n : Nat) (f : Lane → Lane) : (updLane d n f).shp = d.shp := rfl
@[simp] theorem updLane_bunting (n : Nat) (f : Lane → Lane) : (updLane d n f).bunting = d.bunting := rfl
@[simp] theorem updLane_fw (n : Nat) (f : Lane → Lane) : (updLane d n f).fw = d.fw := rfl
@[simp] theorem updLane_can (n : Nat) (f : Lane → Lane) : (updLane d n f).can = d.can := rfl
@[simp] theorem updLane_hier (n : Nat) (f : Lane → Lane) : (updLane d n f).hier = d.hier := rfl
@[simp] theorem updLane_qdl (n : Nat) (f : Lane → Lane) : (updLane d n f).qdl = d.qdl := rfl
@[simp] theorem updLane_gpio (n : Nat) (f : Lane → Lane) : (updLane d n f).gpio = d.gpio := rfl
@[simp] theorem updLane_ifs (n : Nat) (f : Lane → Lane) : (updLane d n f).ifs = d.ifs := rfl
@[simp] theorem updLane_free (n : Nat) (f : Lane → Lane) : (updLane d n f).free = d.free := rfl
@[simp] theorem updLane_out (n : Nat) (f : Lane → Lane) : (updLane d n f).out = d.out := rfl

end Sys2Proof.Machine
end

