-- ==== Sys2Proof/Laws/Frames.lean ====
section
/-!
SUPPORT. What a raised event, an error record, a sent response and the passing of time can touch, said once as relations between the device
before and after, and that each shared operation keeps to its relation.
-/
namespace Sys2Proof.Machine

/-- The device after differs from the device before in the events, the queues, the counters and, of power, the domains only. -/
structure EvOnly (d e : Dev) : Prop where
  rw : e.rw = d.rw
  clk : e.clk = d.clk
  ptp : e.ptp = d.ptp
  pps : e.pps = d.pps
  start : e.start = d.start
  nv : e.nv = d.nv
  err : e.err = d.err
  tel : e.tel = d.tel
  store : e.store = d.store
  timers : e.timers = d.timers
  tmSrc : e.tmSrc = d.tmSrc
  halted : e.halted = d.halted
  bandSf : e.bandSf = d.bandSf
  bandG : e.bandG = d.bandG
  lanes : e.lanes = d.lanes
  gov : e.gov = d.gov
  sched : e.sched = d.sched
  nbr : e.nbr = d.nbr
  fwd : e.fwd = d.fwd
  shp : e.shp = d.shp
  bunting : e.bunting = d.bunting
  fw : e.fw = d.fw
  can : e.can = d.can
  hier : e.hier = d.hier
  qdl : e.qdl = d.qdl
  gpio : e.gpio = d.gpio
  ifs : e.ifs = d.ifs
  free : e.free = d.free
  out : e.out = d.out
  pwr : e.pwr = { d.pwr with domains := e.pwr.domains }

theorem EvOnly.rfl' (d : Dev) : EvOnly d d := by constructor <;> rfl
theorem EvOnly.ite {d a b : Dev} {c : Prop} [Decidable c] (h : EvOnly d a) (k : EvOnly d b) : EvOnly d (if c then a else b) := by split <;> assumption
theorem EvOnly.trans {a b c : Dev} (h : EvOnly a b) (k : EvOnly b c) : EvOnly a c where
  rw := k.rw.trans h.rw
  clk := k.clk.trans h.clk
  ptp := k.ptp.trans h.ptp
  pps := k.pps.trans h.pps
  start := k.start.trans h.start
  nv := k.nv.trans h.nv
  err := k.err.trans h.err
  tel := k.tel.trans h.tel
  store := k.store.trans h.store
  timers := k.timers.trans h.timers
  tmSrc := k.tmSrc.trans h.tmSrc
  halted := k.halted.trans h.halted
  bandSf := k.bandSf.trans h.bandSf
  bandG := k.bandG.trans h.bandG
  lanes := k.lanes.trans h.lanes
  gov := k.gov.trans h.gov
  sched := k.sched.trans h.sched
  nbr := k.nbr.trans h.nbr
  fwd := k.fwd.trans h.fwd
  shp := k.shp.trans h.shp
  bunting := k.bunting.trans h.bunting
  fw := k.fw.trans h.fw
  can := k.can.trans h.can
  hier := k.hier.trans h.hier
  qdl := k.qdl.trans h.qdl
  gpio := k.gpio.trans h.gpio
  ifs := k.ifs.trans h.ifs
  free := k.free.trans h.free
  out := k.out.trans h.out
  pwr := by rw [k.pwr, h.pwr]

theorem EvOnly.mode {d e : Dev} (h : EvOnly d e) : e.pwr.mode = d.pwr.mode := by rw [h.pwr]
theorem EvOnly.entering {d e : Dev} (h : EvOnly d e) : e.pwr.entering = d.pwr.entering := by rw [h.pwr]
theorem EvOnly.meshOk {d e : Dev} (h : EvOnly d e) : e.pwr.meshOk = d.pwr.meshOk := by rw [h.pwr]
theorem EvOnly.fullOnly {d e : Dev} (h : EvOnly d e) : e.pwr.fullOnly = d.pwr.fullOnly := by rw [h.pwr]
theorem EvOnly.baseFull {d e : Dev} (h : EvOnly d e) : e.pwr.baseFull = d.pwr.baseFull := by rw [h.pwr]
theorem EvOnly.faultCause {d e : Dev} (h : EvOnly d e) : e.pwr.faultCause = d.pwr.faultCause := by rw [h.pwr]
theorem EvOnly.padHold {d e : Dev} (h : EvOnly d e) : e.pwr.padHold = d.pwr.padHold := by rw [h.pwr]
theorem EvOnly.sleepReq {d e : Dev} (h : EvOnly d e) : e.pwr.sleepReq = d.pwr.sleepReq := by rw [h.pwr]
theorem EvOnly.vcoreOn {d e : Dev} (h : EvOnly d e) : e.pwr.vcoreOn = d.pwr.vcoreOn := by rw [h.pwr]

/-- The device after differs from the device before in the events, the error records, the central store, the queues, the counters and, of power, the domains only. -/
structure ErrOnly (d e : Dev) : Prop where
  rw : e.rw = d.rw
  clk : e.clk = d.clk
  ptp : e.ptp = d.ptp
  pps : e.pps = d.pps
  start : e.start = d.start
  nv : e.nv = d.nv
  tel : e.tel = d.tel
  timers : e.timers = d.timers
  tmSrc : e.tmSrc = d.tmSrc
  halted : e.halted = d.halted
  bandSf : e.bandSf = d.bandSf
  bandG : e.bandG = d.bandG
  lanes : e.lanes = d.lanes
  gov : e.gov = d.gov
  sched : e.sched = d.sched
  nbr : e.nbr = d.nbr
  fwd : e.fwd = d.fwd
  shp : e.shp = d.shp
  bunting : e.bunting = d.bunting
  fw : e.fw = d.fw
  can : e.can = d.can
  hier : e.hier = d.hier
  qdl : e.qdl = d.qdl
  gpio : e.gpio = d.gpio
  ifs : e.ifs = d.ifs
  free : e.free = d.free
  out : e.out = d.out
  pwr : e.pwr = { d.pwr with domains := e.pwr.domains }

theorem ErrOnly.rfl' (d : Dev) : ErrOnly d d := by constructor <;> rfl
theorem ErrOnly.ite {d a b : Dev} {c : Prop} [Decidable c] (h : ErrOnly d a) (k : ErrOnly d b) : ErrOnly d (if c then a else b) := by split <;> assumption
theorem ErrOnly.trans {a b c : Dev} (h : ErrOnly a b) (k : ErrOnly b c) : ErrOnly a c where
  rw := k.rw.trans h.rw
  clk := k.clk.trans h.clk
  ptp := k.ptp.trans h.ptp
  pps := k.pps.trans h.pps
  start := k.start.trans h.start
  nv := k.nv.trans h.nv
  tel := k.tel.trans h.tel
  timers := k.timers.trans h.timers
  tmSrc := k.tmSrc.trans h.tmSrc
  halted := k.halted.trans h.halted
  bandSf := k.bandSf.trans h.bandSf
  bandG := k.bandG.trans h.bandG
  lanes := k.lanes.trans h.lanes
  gov := k.gov.trans h.gov
  sched := k.sched.trans h.sched
  nbr := k.nbr.trans h.nbr
  fwd := k.fwd.trans h.fwd
  shp := k.shp.trans h.shp
  bunting := k.bunting.trans h.bunting
  fw := k.fw.trans h.fw
  can := k.can.trans h.can
  hier := k.hier.trans h.hier
  qdl := k.qdl.trans h.qdl
  gpio := k.gpio.trans h.gpio
  ifs := k.ifs.trans h.ifs
  free := k.free.trans h.free
  out := k.out.trans h.out
  pwr := by rw [k.pwr, h.pwr]

theorem ErrOnly.mode {d e : Dev} (h : ErrOnly d e) : e.pwr.mode = d.pwr.mode := by rw [h.pwr]
theorem ErrOnly.entering {d e : Dev} (h : ErrOnly d e) : e.pwr.entering = d.pwr.entering := by rw [h.pwr]
theorem ErrOnly.meshOk {d e : Dev} (h : ErrOnly d e) : e.pwr.meshOk = d.pwr.meshOk := by rw [h.pwr]
theorem ErrOnly.fullOnly {d e : Dev} (h : ErrOnly d e) : e.pwr.fullOnly = d.pwr.fullOnly := by rw [h.pwr]
theorem ErrOnly.baseFull {d e : Dev} (h : ErrOnly d e) : e.pwr.baseFull = d.pwr.baseFull := by rw [h.pwr]
theorem ErrOnly.faultCause {d e : Dev} (h : ErrOnly d e) : e.pwr.faultCause = d.pwr.faultCause := by rw [h.pwr]
theorem ErrOnly.padHold {d e : Dev} (h : ErrOnly d e) : e.pwr.padHold = d.pwr.padHold := by rw [h.pwr]
theorem ErrOnly.sleepReq {d e : Dev} (h : ErrOnly d e) : e.pwr.sleepReq = d.pwr.sleepReq := by rw [h.pwr]
theorem ErrOnly.vcoreOn {d e : Dev} (h : ErrOnly d e) : e.pwr.vcoreOn = d.pwr.vcoreOn := by rw [h.pwr]

/-- The device after differs from the device before in what has left, the transports and the sessions only. -/
structure SentOnly (d e : Dev) : Prop where
  cnt : e.cnt = d.cnt
  rw : e.rw = d.rw
  clk : e.clk = d.clk
  ptp : e.ptp = d.ptp
  pps : e.pps = d.pps
  pwr : e.pwr = d.pwr
  start : e.start = d.start
  nv : e.nv = d.nv
  ev : e.ev = d.ev
  err : e.err = d.err
  tel : e.tel = d.tel
  store : e.store = d.store
  queues : e.queues = d.queues
  timers : e.timers = d.timers
  tmSrc : e.tmSrc = d.tmSrc
  halted : e.halted = d.halted
  bandSf : e.bandSf = d.bandSf
  bandG : e.bandG = d.bandG
  lanes : e.lanes = d.lanes
  gov : e.gov = d.gov
  sched : e.sched = d.sched
  nbr : e.nbr = d.nbr
  fwd : e.fwd = d.fwd
  shp : e.shp = d.shp
  bunting : e.bunting = d.bunting
  fw : e.fw = d.fw
  can : e.can = d.can
  hier : e.hier = d.hier
  gpio : e.gpio = d.gpio
  free : e.free = d.free

theorem SentOnly.rfl' (d : Dev) : SentOnly d d := by constructor <;> rfl
theorem SentOnly.ite {d a b : Dev} {c : Prop} [Decidable c] (h : SentOnly d a) (k : SentOnly d b) : SentOnly d (if c then a else b) := by split <;> assumption
theorem SentOnly.trans {a b c : Dev} (h : SentOnly a b) (k : SentOnly b c) : SentOnly a c where
  cnt := k.cnt.trans h.cnt
  rw := k.rw.trans h.rw
  clk := k.clk.trans h.clk
  ptp := k.ptp.trans h.ptp
  pps := k.pps.trans h.pps
  pwr := k.pwr.trans h.pwr
  start := k.start.trans h.start
  nv := k.nv.trans h.nv
  ev := k.ev.trans h.ev
  err := k.err.trans h.err
  tel := k.tel.trans h.tel
  store := k.store.trans h.store
  queues := k.queues.trans h.queues
  timers := k.timers.trans h.timers
  tmSrc := k.tmSrc.trans h.tmSrc
  halted := k.halted.trans h.halted
  bandSf := k.bandSf.trans h.bandSf
  bandG := k.bandG.trans h.bandG
  lanes := k.lanes.trans h.lanes
  gov := k.gov.trans h.gov
  sched := k.sched.trans h.sched
  nbr := k.nbr.trans h.nbr
  fwd := k.fwd.trans h.fwd
  shp := k.shp.trans h.shp
  bunting := k.bunting.trans h.bunting
  fw := k.fw.trans h.fw
  can := k.can.trans h.can
  hier := k.hier.trans h.hier
  gpio := k.gpio.trans h.gpio
  free := k.free.trans h.free

/-- The device after differs from the device before in the persistent store, but for its items, the counters and the position of the free values only. -/
structure NvOnly (d e : Dev) : Prop where
  rw : e.rw = d.rw
  clk : e.clk = d.clk
  ptp : e.ptp = d.ptp
  pps : e.pps = d.pps
  pwr : e.pwr = d.pwr
  start : e.start = d.start
  ev : e.ev = d.ev
  err : e.err = d.err
  tel : e.tel = d.tel
  store : e.store = d.store
  queues : e.queues = d.queues
  timers : e.timers = d.timers
  tmSrc : e.tmSrc = d.tmSrc
  halted : e.halted = d.halted
  bandSf : e.bandSf = d.bandSf
  bandG : e.bandG = d.bandG
  lanes : e.lanes = d.lanes
  gov : e.gov = d.gov
  sched : e.sched = d.sched
  nbr : e.nbr = d.nbr
  fwd : e.fwd = d.fwd
  shp : e.shp = d.shp
  bunting : e.bunting = d.bunting
  fw : e.fw = d.fw
  can : e.can = d.can
  hier : e.hier = d.hier
  qdl : e.qdl = d.qdl
  gpio : e.gpio = d.gpio
  ifs : e.ifs = d.ifs
  out : e.out = d.out
  rp : e.nv.rp = d.nv.rp

theorem NvOnly.rfl' (d : Dev) : NvOnly d d := by constructor <;> rfl
theorem NvOnly.ite {d a b : Dev} {c : Prop} [Decidable c] (h : NvOnly d a) (k : NvOnly d b) : NvOnly d (if c then a else b) := by split <;> assumption
theorem NvOnly.trans {a b c : Dev} (h : NvOnly a b) (k : NvOnly b c) : NvOnly a c where
  rw := k.rw.trans h.rw
  clk := k.clk.trans h.clk
  ptp := k.ptp.trans h.ptp
  pps := k.pps.trans h.pps
  pwr := k.pwr.trans h.pwr
  start := k.start.trans h.start
  ev := k.ev.trans h.ev
  err := k.err.trans h.err
  tel := k.tel.trans h.tel
  store := k.store.trans h.store
  queues := k.queues.trans h.queues
  timers := k.timers.trans h.timers
  tmSrc := k.tmSrc.trans h.tmSrc
  halted := k.halted.trans h.halted
  bandSf := k.bandSf.trans h.bandSf
  bandG := k.bandG.trans h.bandG
  lanes := k.lanes.trans h.lanes
  gov := k.gov.trans h.gov
  sched := k.sched.trans h.sched
  nbr := k.nbr.trans h.nbr
  fwd := k.fwd.trans h.fwd
  shp := k.shp.trans h.shp
  bunting := k.bunting.trans h.bunting
  fw := k.fw.trans h.fw
  can := k.can.trans h.can
  hier := k.hier.trans h.hier
  qdl := k.qdl.trans h.qdl
  gpio := k.gpio.trans h.gpio
  ifs := k.ifs.trans h.ifs
  out := k.out.trans h.out
  rp := k.rp.trans h.rp

/-- The device after differs from the device before in the clock and what counts with it: SLEW_ACTIVE, the credits, the timers only. -/
structure TimeOnly (d e : Dev) : Prop where
  cnt : e.cnt = d.cnt
  rw : e.rw = d.rw
  ptp : e.ptp = d.ptp
  pps : e.pps = d.pps
  pwr : e.pwr = d.pwr
  start : e.start = d.start
  nv : e.nv = d.nv
  ev : e.ev = d.ev
  err : e.err = d.err
  tel : e.tel = d.tel
  store : e.store = d.store
  queues : e.queues = d.queues
  halted : e.halted = d.halted
  bandSf : e.bandSf = d.bandSf
  bandG : e.bandG = d.bandG
  lanes : e.lanes = d.lanes
  gov : e.gov = d.gov
  sched : e.sched = d.sched
  fwd : e.fwd = d.fwd
  bunting : e.bunting = d.bunting
  fw : e.fw = d.fw
  can : e.can = d.can
  hier : e.hier = d.hier
  qdl : e.qdl = d.qdl
  gpio : e.gpio = d.gpio
  ifs : e.ifs = d.ifs
  free : e.free = d.free
  out : e.out = d.out

theorem TimeOnly.rfl' (d : Dev) : TimeOnly d d := by constructor <;> rfl
theorem TimeOnly.ite {d a b : Dev} {c : Prop} [Decidable c] (h : TimeOnly d a) (k : TimeOnly d b) : TimeOnly d (if c then a else b) := by split <;> assumption
theorem TimeOnly.trans {a b c : Dev} (h : TimeOnly a b) (k : TimeOnly b c) : TimeOnly a c where
  cnt := k.cnt.trans h.cnt
  rw := k.rw.trans h.rw
  ptp := k.ptp.trans h.ptp
  pps := k.pps.trans h.pps
  pwr := k.pwr.trans h.pwr
  start := k.start.trans h.start
  nv := k.nv.trans h.nv
  ev := k.ev.trans h.ev
  err := k.err.trans h.err
  tel := k.tel.trans h.tel
  store := k.store.trans h.store
  queues := k.queues.trans h.queues
  halted := k.halted.trans h.halted
  bandSf := k.bandSf.trans h.bandSf
  bandG := k.bandG.trans h.bandG
  lanes := k.lanes.trans h.lanes
  gov := k.gov.trans h.gov
  sched := k.sched.trans h.sched
  fwd := k.fwd.trans h.fwd
  bunting := k.bunting.trans h.bunting
  fw := k.fw.trans h.fw
  can := k.can.trans h.can
  hier := k.hier.trans h.hier
  qdl := k.qdl.trans h.qdl
  gpio := k.gpio.trans h.gpio
  ifs := k.ifs.trans h.ifs
  free := k.free.trans h.free
  out := k.out.trans h.out

theorem EvOnly.err' {d e : Dev} (h : EvOnly d e) : ErrOnly d e where
  rw := h.rw
  clk := h.clk
  ptp := h.ptp
  pps := h.pps
  start := h.start
  nv := h.nv
  tel := h.tel
  timers := h.timers
  tmSrc := h.tmSrc
  halted := h.halted
  bandSf := h.bandSf
  bandG := h.bandG
  lanes := h.lanes
  gov := h.gov
  sched := h.sched
  nbr := h.nbr
  fwd := h.fwd
  shp := h.shp
  bunting := h.bunting
  fw := h.fw
  can := h.can
  hier := h.hier
  qdl := h.qdl
  gpio := h.gpio
  ifs := h.ifs
  free := h.free
  out := h.out
  pwr := h.pwr

theorem updQueue_only (d : Dev) (q : Nat) (f : Queue → Queue) : EvOnly d (updQueue d q f) := by constructor <;> rfl

theorem count_only (d : Dev) (k : Nat) : EvOnly d (count d k) := by constructor <;> rfl

theorem countBy_only (d : Dev) (k n : Nat) : EvOnly d (countBy d k n) := by constructor <;> rfl

theorem ev_only (d : Dev) (x : EvState) : EvOnly d { d with ev := x } := by constructor <;> rfl

theorem gateCores_only (d : Dev) : EvOnly d (gateCores d) := by
  unfold gateCores; split
  · constructor <;> rfl
  · exact .rfl' d

theorem passBuf_only (d : Dev) (b : Option Nat) : ErrOnly d (passBuf d b) := by cases b <;> (constructor <;> rfl)

/-- What a push can do: commit the packet, its buffer passing with it, or count the refusal. -/
theorem push_only (d : Dev) (q : Nat) (x : Desc) : ErrOnly d (push d q x).1 := by
  unfold push; split
  · exact (passBuf_only d _).trans ((updQueue_only _ q _).trans (gateCores_only _)).err'
  · exact (updQueue_only d q _).err'

/-- A push of a packet without a buffer leaves the central store as it is. -/
theorem push_nobuf (d : Dev) (q : Nat) {x : Desc} (h : x.buf = none) : EvOnly d (push d q x).1 := by
  unfold push; rw [h]; split
  · exact (updQueue_only d q _).trans (gateCores_only _)
  · exact updQueue_only d q _

theorem push'_keeps_err (d : Dev) (q : Nat) (x : Desc) : (push' d q x).err = d.err := by
  unfold push' push; split
  · rw [(gateCores_only _).err, (updQueue_only _ q _).err]; cases x.buf <;> rfl
  · exact (updQueue_only d q _).err

theorem push'_only (d : Dev) (q : Nat) (x : Desc) : ErrOnly d (push' d q x) := push_only d q x

theorem take1_only (d : Dev) (q : Nat) : EvOnly d (take1 d q) := by
  unfold take1; split
  · exact updQueue_only d q _
  · exact (updQueue_only d q _).trans (gateCores_only _)

theorem notifyP5_only (d : Dev) (e x g : Nat) (t : Int) : EvOnly d (notifyP5 d e x g t) := by
  unfold notifyP5; dsimp only; split
  · exact (ev_only d _).trans (push_nobuf _ _ rfl)
  · exact (((ev_only d _).trans (push_nobuf _ _ rfl)).trans (ev_only _ _)).trans (count_only _ _)

theorem noteEvent_only (d : Dev) (e x : Nat) (t : Int) : EvOnly d (noteEvent d e x t) := ev_only d _

/-- What raising an event can do (R539, R544). -/
theorem raiseAt_only (d : Dev) (e x : Nat) (t : Int) : EvOnly d (raiseAt d e x t) := by
  unfold raiseAt; dsimp only; split
  · exact (noteEvent_only d e x t).trans (notifyP5_only _ _ _ _ _)
  · split
    · exact (noteEvent_only d e x t).trans (ev_only _ _)
    · exact (noteEvent_only d e x t).trans (count_only _ _)

theorem raise_only (d : Dev) (e x : Nat) : EvOnly d (raise d e x) := raiseAt_only d e x _

theorem raiseRate_only (d : Dev) (e i n p : Nat) (f : Nat → Nat) : EvOnly d (raiseRate d e i n p f) := by
  unfold raiseRate
  exact .ite ((ev_only d _).trans (raise_only _ _ _)) (ev_only d _)

/-- What an error record can do (R545, R552). -/
theorem errRecord_only (d : Dev) (r : ErrRec) : ErrOnly d (errRecord d r) := by
  have h (x : Dev) (y : ErrState) : ErrOnly x { x with err := y } := by constructor <;> rfl
  unfold errRecord; dsimp only; split
  · exact ((push_only d _ _).trans (h _ _)).trans (count_only _ _).err'
  · exact ((push_only d _ _).trans (count_only _ _).err').trans (raiseRate_only _ _ _ _ _ _).err'

theorem errBy_only (d : Dev) (a b c g : Nat) (h i : Option Nat) (j k l : Nat) : ErrOnly d (errBy d a b c g h i j k l) := errRecord_only d _

theorem out_only (d : Dev) (o : List Out) : SentOnly d { d with out := o } := by constructor <;> rfl

theorem ifs_only (d : Dev) (o : IfState) : SentOnly d { d with ifs := o } := by constructor <;> rfl

theorem qdl_only (d : Dev) (o : QdlState) : SentOnly d { d with qdl := o } := by constructor <;> rfl

theorem sendOn_only (d : Dev) (t : Transport) (k : Option SessKey) (n : Bool) (o : Out) : SentOnly d (sendOn d t k n o) := by
  cases t <;> simp only [sendOn, emit]
  · exact .ite (out_only d _) (.rfl' d)
  · exact .ite (out_only d _) (.ite (.rfl' d) (ifs_only d _))
  · exact .ite (ifs_only d _) (.ite (.rfl' d) (ifs_only d _))

theorem sendTo_only (d : Dev) (i : Nat) (v : Transport) (o : Out) : SentOnly d (sendTo d i v o) := sendOn_only _ _ _ _ _

theorem tell_only (d : Dev) (i : Nat) (o : Out) : SentOnly d (tell d i o) := by
  unfold tell; split
  · exact sendOn_only _ _ _ _ _
  · exact .rfl' d

/-- What sending a response can do (R43). -/
theorem respond_only (d : Dev) (i q : Nat) (v : Transport) (st : Status) (b : Body) : SentOnly d (respond d i q v st b) :=
  (qdl_only d _).trans (sendTo_only _ _ _ _)

theorem updTimer_only (d : Dev) (n : Nat) (f : Timer → Timer) : TimeOnly d (updTimer d n f) := by constructor <;> rfl

theorem countTo_only (k : Nat) (d : Dev) (n : Nat) : TimeOnly d (countTo k d n) := by
  unfold countTo; exact .ite (.rfl' d) (updTimer_only _ _ _)

/-- What was deferred to a tick can change one timer only (R534). -/
theorem applyDeferred_only (d : Dev) (n : Nat) : TimeOnly d (applyDeferred d n) := by
  have h (l : List Bool) : ∀ x : Dev, TimeOnly x (l.foldl (fun x arm => if arm then armNow x n else stopNow x n) x) := by
    induction l with
    | nil => exact .rfl'
    | cons a t ih => exact fun x => (TimeOnly.ite (c := a) (updTimer_only _ _ _) (updTimer_only _ _ _)).trans (ih _)
  unfold applyDeferred; exact .ite (.rfl' d) ((updTimer_only _ _ _).trans (h _ _))

theorem timerWait_only (n : Nat) (d : Dev) (a : Nat) : TimeOnly d (timerWait n d a) := by
  unfold timerWait
  exact .ite (.rfl' d) (.ite (countTo_only _ _ _) (((countTo_only _ _ _).trans (applyDeferred_only _ _)).trans (countTo_only _ _ _)))

theorem srcPass_only (d : Dev) (n : Nat) : TimeOnly d (srcPass d n) := by
  unfold srcPass; split <;> (constructor <;> rfl)

theorem timerWaits_only (n : Nat) (l : List Nat) : ∀ d : Dev, TimeOnly d (l.foldl (timerWait n) d) := by
  induction l with
  | nil => exact TimeOnly.rfl'
  | cons a t ih => exact fun d => (timerWait_only n d a).trans (ih _)

theorem timePasses_only (d : Dev) (n : Nat) : TimeOnly d (timePasses d n) := by
  have h : TimeOnly d (creditPass (slewPass d n) n) := by constructor <;> rfl
  exact (h.trans (timerWaits_only n _ _)).trans (srcPass_only _ _)

/-- What carrying the clock to an instant can do (log 11). -/
theorem reach_only (d : Dev) (t : Nat) : TimeOnly d (reach d t) := by
  have h (x : Dev) (y : ClkState) : TimeOnly x { x with clk := y } := by constructor <;> rfl
  unfold reach; split
  · exact .rfl' d
  · exact (timePasses_only d _).trans (h _ _)

theorem reachTb_only (d : Dev) (v : Int) : TimeOnly d (reachTb d v) := reach_only d _

theorem nvCount_only (d : Dev) (k : Nat) : NvOnly d (count d k) := by constructor <;> rfl

theorem lastNeed_only (d : Dev) (n : Nat) : NvOnly d { d with nv := { d.nv with lastNeed := n } } := by constructor <;> rfl

theorem holdupCheck_only (d : Dev) (n : Nat) : NvOnly d (holdupCheck d n).1 := by
  unfold holdupCheck; dsimp only
  split
  · exact (lastNeed_only d n).trans (nvCount_only _ _)
  · split
    · exact (lastNeed_only d n).trans (nvCount_only _ _)
    · exact lastNeed_only d n

theorem retirePage_only (d : Dev) (l : Nat) : NvOnly d (retirePage d l) := by
  unfold retirePage writeDirectory; split <;> (constructor <;> rfl)

theorem programPage_only (d : Dev) (l : Nat) : NvOnly d (programPage d l) := by
  have h (w : Counters) : NvOnly d { d with nv := { d.nv with writes := w } } := by constructor <;> rfl
  unfold programPage; dsimp only; split
  · exact (h _).trans (retirePage_only _ _)
  · exact h _

theorem programPages_only (l : List Nat) : ∀ d : Dev, NvOnly d (l.foldl programPage d) := by
  induction l with
  | nil => exact .rfl'
  | cons a t ih => exact fun d => (programPage_only d a).trans (ih _)

/-- What a commit can touch, whatever its status (R492, R493). -/
theorem commitNv_only (d : Dev) (n b : Nat) (l : List Nat) : NvOnly d (commitNv d n b l).1 := by
  have g (x : Dev) : NvOnly x (drawn x) := by constructor <;> rfl
  unfold commitNv; dsimp only
  split
  · exact nvCount_only d _
  · split
    · exact .rfl' d
    · split
      · exact holdupCheck_only d _
      · split
        · exact (holdupCheck_only d _).trans (nvCount_only _ _)
        · exact (((((holdupCheck_only d _).trans (g _)).trans (programPage_only _ _)).trans (programPage_only _ _)).trans
            (programPages_only _ _)).trans (nvCount_only _ _)

/-- A change of mode, but for MODE itself (R451). -/
theorem setMode_only (d : Dev) (m : Mode) : EvOnly { d with pwr := { d.pwr with mode := m } } (setMode d m) := by
  unfold setMode; split
  · rename_i h
    subst h
    exact .rfl' _
  · exact raise_only _ _ _

/-- What bringing MESH_OK_N to its condition can do, but for the pin itself (R456). -/
theorem settle_only (p : Perm) (d : Dev) :
    EvOnly { d with pwr := { d.pwr with meshOk := meshCondition p d && !d.ifs.extest } } (settle p d) := by
  unfold settle; dsimp only; split
  · rename_i h
    constructor <;> first | rfl | (dsimp only; rw [← h])
  · exact raise_only _ _ _


variable (d : Dev)

@[simp] theorem setMode_rw (m : Mode) : (setMode d m).rw = d.rw := (setMode_only d m).rw
@[simp] theorem settle_rw (p : Perm) : (settle p d).rw = d.rw := (settle_only p d).rw
@[simp] theorem setMode_clk (m : Mode) : (setMode d m).clk = d.clk := (setMode_only d m).clk
@[simp] theorem settle_clk (p : Perm) : (settle p d).clk = d.clk := (settle_only p d).clk
@[simp] theorem setMode_ptp (m : Mode) : (setMode d m).ptp = d.ptp := (setMode_only d m).ptp
@[simp] theorem settle_ptp (p : Perm) : (settle p d).ptp = d.ptp := (settle_only p d).ptp
@[simp] theorem setMode_pps (m : Mode) : (setMode d m).pps = d.pps := (setMode_only d m).pps
@[simp] theorem settle_pps (p : Perm) : (settle p d).pps = d.pps := (settle_only p d).pps
@[simp] theorem setMode_start (m : Mode) : (setMode d m).start = d.start := (setMode_only d m).start
@[simp] theorem settle_start (p : Perm) : (settle p d).start = d.start := (settle_only p d).start
@[simp] theorem setMode_nv (m : Mode) : (setMode d m).nv = d.nv := (setMode_only d m).nv
@[simp] theorem settle_nv (p : Perm) : (settle p d).nv = d.nv := (settle_only p d).nv
@[simp] theorem setMode_err (m : Mode) : (setMode d m).err = d.err := (setMode_only d m).err
@[simp] theorem settle_err (p : Perm) : (settle p d).err = d.err := (settle_only p d).err
@[simp] theorem setMode_tel (m : Mode) : (setMode d m).tel = d.tel := (setMode_only d m).tel
@[simp] theorem settle_tel (p : Perm) : (settle p d).tel = d.tel := (settle_only p d).tel
@[simp] theorem setMode_store (m : Mode) : (setMode d m).store = d.store := (setMode_only d m).store
@[simp] theorem settle_store (p : Perm) : (settle p d).store = d.store := (settle_only p d).store
@[simp] theorem setMode_timers (m : Mode) : (setMode d m).timers = d.timers := (setMode_only d m).timers
@[simp] theorem setMode_tmSrc (m : Mode) : (setMode d m).tmSrc = d.tmSrc := (setMode_only d m).tmSrc
@[simp] theorem settle_timers (p : Perm) : (settle p d).timers = d.timers := (settle_only p d).timers
@[simp] theorem settle_tmSrc (p : Perm) : (settle p d).tmSrc = d.tmSrc := (settle_only p d).tmSrc
@[simp] theorem setMode_halted (m : Mode) : (setMode d m).halted = d.halted := (setMode_only d m).halted
@[simp] theorem settle_halted (p : Perm) : (settle p d).halted = d.halted := (settle_only p d).halted
@[simp] theorem setMode_bandSf (m : Mode) : (setMode d m).bandSf = d.bandSf := (setMode_only d m).bandSf
@[simp] theorem settle_bandSf (p : Perm) : (settle p d).bandSf = d.bandSf := (settle_only p d).bandSf
@[simp] theorem setMode_bandG (m : Mode) : (setMode d m).bandG = d.bandG := (setMode_only d m).bandG
@[simp] theorem settle_bandG (p : Perm) : (settle p d).bandG = d.bandG := (settle_only p d).bandG
@[simp] theorem setMode_lanes (m : Mode) : (setMode d m).lanes = d.lanes := (setMode_only d m).lanes
@[simp] theorem settle_lanes (p : Perm) : (settle p d).lanes = d.lanes := (settle_only p d).lanes
@[simp] theorem setMode_gov (m : Mode) : (setMode d m).gov = d.gov := (setMode_only d m).gov
@[simp] theorem settle_gov (p : Perm) : (settle p d).gov = d.gov := (settle_only p d).gov
@[simp] theorem setMode_sched (m : Mode) : (setMode d m).sched = d.sched := (setMode_only d m).sched
@[simp] theorem settle_sched (p : Perm) : (settle p d).sched = d.sched := (settle_only p d).sched
@[simp] theorem setMode_nbr (m : Mode) : (setMode d m).nbr = d.nbr := (setMode_only d m).nbr
@[simp] theorem settle_nbr (p : Perm) : (settle p d).nbr = d.nbr := (settle_only p d).nbr
@[simp] theorem setMode_fwd (m : Mode) : (setMode d m).fwd = d.fwd := (setMode_only d m).fwd
@[simp] theorem settle_fwd (p : Perm) : (settle p d).fwd = d.fwd := (settle_only p d).fwd
@[simp] theorem setMode_shp (m : Mode) : (setMode d m).shp = d.shp := (setMode_only d m).shp
@[simp] theorem settle_shp (p : Perm) : (settle p d).shp = d.shp := (settle_only p d).shp
@[simp] theorem setMode_bunting (m : Mode) : (setMode d m).bunting = d.bunting := (setMode_only d m).bunting
@[simp] theorem settle_bunting (p : Perm) : (settle p d).bunting = d.bunting := (settle_only p d).bunting
@[simp] theorem setMode_fw (m : Mode) : (setMode d m).fw = d.fw := (setMode_only d m).fw
@[simp] theorem settle_fw (p : Perm) : (settle p d).fw = d.fw := (settle_only p d).fw
@[simp] theorem setMode_can (m : Mode) : (setMode d m).can = d.can := (setMode_only d m).can
@[simp] theorem settle_can (p : Perm) : (settle p d).can = d.can := (settle_only p d).can
@[simp] theorem setMode_hier (m : Mode) : (setMode d m).hier = d.hier := (setMode_only d m).hier
@[simp] theorem settle_hier (p : Perm) : (settle p d).hier = d.hier := (settle_only p d).hier
@[simp] theorem setMode_qdl (m : Mode) : (setMode d m).qdl = d.qdl := (setMode_only d m).qdl
@[simp] theorem settle_qdl (p : Perm) : (settle p d).qdl = d.qdl := (settle_only p d).qdl
@[simp] theorem setMode_gpio (m : Mode) : (setMode d m).gpio = d.gpio := (setMode_only d m).gpio
@[simp] theorem settle_gpio (p : Perm) : (settle p d).gpio = d.gpio := (settle_only p d).gpio
@[simp] theorem setMode_ifs (m : Mode) : (setMode d m).ifs = d.ifs := (setMode_only d m).ifs
@[simp] theorem settle_ifs (p : Perm) : (settle p d).ifs = d.ifs := (settle_only p d).ifs
@[simp] theorem setMode_free (m : Mode) : (setMode d m).free = d.free := (setMode_only d m).free
@[simp] theorem settle_free (p : Perm) : (settle p d).free = d.free := (settle_only p d).free
@[simp] theorem setMode_out (m : Mode) : (setMode d m).out = d.out := (setMode_only d m).out
@[simp] theorem settle_out (p : Perm) : (settle p d).out = d.out := (settle_only p d).out
@[simp] theorem setMode_mode (m : Mode) : (setMode d m).pwr.mode = m := (setMode_only d m).mode
@[simp] theorem setMode_entering (m : Mode) : (setMode d m).pwr.entering = d.pwr.entering := (setMode_only d m).entering
@[simp] theorem setMode_fullOnly (m : Mode) : (setMode d m).pwr.fullOnly = d.pwr.fullOnly := (setMode_only d m).fullOnly
@[simp] theorem setMode_baseFull (m : Mode) : (setMode d m).pwr.baseFull = d.pwr.baseFull := (setMode_only d m).baseFull
@[simp] theorem setMode_vcoreOn (m : Mode) : (setMode d m).pwr.vcoreOn = d.pwr.vcoreOn := (setMode_only d m).vcoreOn
@[simp] theorem setMode_faultCause (m : Mode) : (setMode d m).pwr.faultCause = d.pwr.faultCause := (setMode_only d m).faultCause
@[simp] theorem setMode_padHold (m : Mode) : (setMode d m).pwr.padHold = d.pwr.padHold := (setMode_only d m).padHold
@[simp] theorem setMode_sleepReq (m : Mode) : (setMode d m).pwr.sleepReq = d.pwr.sleepReq := (setMode_only d m).sleepReq
@[simp] theorem settle_mode (p : Perm) : (settle p d).pwr.mode = d.pwr.mode := (settle_only p d).mode
@[simp] theorem settle_entering (p : Perm) : (settle p d).pwr.entering = d.pwr.entering := (settle_only p d).entering
@[simp] theorem settle_fullOnly (p : Perm) : (settle p d).pwr.fullOnly = d.pwr.fullOnly := (settle_only p d).fullOnly
@[simp] theorem settle_baseFull (p : Perm) : (settle p d).pwr.baseFull = d.pwr.baseFull := (settle_only p d).baseFull
@[simp] theorem settle_vcoreOn (p : Perm) : (settle p d).pwr.vcoreOn = d.pwr.vcoreOn := (settle_only p d).vcoreOn
@[simp] theorem settle_faultCause (p : Perm) : (settle p d).pwr.faultCause = d.pwr.faultCause := (settle_only p d).faultCause
@[simp] theorem settle_padHold (p : Perm) : (settle p d).pwr.padHold = d.pwr.padHold := (settle_only p d).padHold
@[simp] theorem settle_sleepReq (p : Perm) : (settle p d).pwr.sleepReq = d.pwr.sleepReq := (settle_only p d).sleepReq
@[simp] theorem settle_meshOk (p : Perm) : (settle p d).pwr.meshOk = (meshCondition p d && !d.ifs.extest) := (settle_only p d).meshOk

@[simp] theorem gateCores_rw : (gateCores d).rw = d.rw := (gateCores_only d).rw
@[simp] theorem gateCores_clk : (gateCores d).clk = d.clk := (gateCores_only d).clk
@[simp] theorem gateCores_ptp : (gateCores d).ptp = d.ptp := (gateCores_only d).ptp
@[simp] theorem gateCores_pps : (gateCores d).pps = d.pps := (gateCores_only d).pps
@[simp] theorem gateCores_start : (gateCores d).start = d.start := (gateCores_only d).start
@[simp] theorem gateCores_nv : (gateCores d).nv = d.nv := (gateCores_only d).nv
@[simp] theorem gateCores_err : (gateCores d).err = d.err := (gateCores_only d).err
@[simp] theorem gateCores_tel : (gateCores d).tel = d.tel := (gateCores_only d).tel
@[simp] theorem gateCores_store : (gateCores d).store = d.store := (gateCores_only d).store
@[simp] theorem gateCores_timers : (gateCores d).timers = d.timers := (gateCores_only d).timers
@[simp] theorem gateCores_tmSrc : (gateCores d).tmSrc = d.tmSrc := (gateCores_only d).tmSrc
@[simp] theorem gateCores_halted : (gateCores d).halted = d.halted := (gateCores_only d).halted
@[simp] theorem gateCores_bandSf : (gateCores d).bandSf = d.bandSf := (gateCores_only d).bandSf
@[simp] theorem gateCores_bandG : (gateCores d).bandG = d.bandG := (gateCores_only d).bandG
@[simp] theorem gateCores_lanes : (gateCores d).lanes = d.lanes := (gateCores_only d).lanes
@[simp] theorem gateCores_gov : (gateCores d).gov = d.gov := (gateCores_only d).gov
@[simp] theorem gateCores_sched : (gateCores d).sched = d.sched := (gateCores_only d).sched
@[simp] theorem gateCores_nbr : (gateCores d).nbr = d.nbr := (gateCores_only d).nbr
@[simp] theorem gateCores_fwd : (gateCores d).fwd = d.fwd := (gateCores_only d).fwd
@[simp] theorem gateCores_shp : (gateCores d).shp = d.shp := (gateCores_only d).shp
@[simp] theorem gateCores_bunting : (gateCores d).bunting = d.bunting := (gateCores_only d).bunting
@[simp] theorem gateCores_fw : (gateCores d).fw = d.fw := (gateCores_only d).fw
@[simp] theorem gateCores_can : (gateCores d).can = d.can := (gateCores_only d).can
@[simp] theorem gateCores_hier : (gateCores d).hier = d.hier := (gateCores_only d).hier
@[simp] theorem gateCores_qdl : (gateCores d).qdl = d.qdl := (gateCores_only d).qdl
@[simp] theorem gateCores_gpio : (gateCores d).gpio = d.gpio := (gateCores_only d).gpio
@[simp] theorem gateCores_ifs : (gateCores d).ifs = d.ifs := (gateCores_only d).ifs
@[simp] theorem gateCores_free : (gateCores d).free = d.free := (gateCores_only d).free
@[simp] theorem gateCores_out : (gateCores d).out = d.out := (gateCores_only d).out
@[simp] theorem gateCores_mode : (gateCores d).pwr.mode = d.pwr.mode := (gateCores_only d).mode
@[simp] theorem gateCores_entering : (gateCores d).pwr.entering = d.pwr.entering := (gateCores_only d).entering
@[simp] theorem gateCores_fullOnly : (gateCores d).pwr.fullOnly = d.pwr.fullOnly := (gateCores_only d).fullOnly
@[simp] theorem gateCores_baseFull : (gateCores d).pwr.baseFull = d.pwr.baseFull := (gateCores_only d).baseFull
@[simp] theorem gateCores_vcoreOn : (gateCores d).pwr.vcoreOn = d.pwr.vcoreOn := (gateCores_only d).vcoreOn
@[simp] theorem gateCores_faultCause : (gateCores d).pwr.faultCause = d.pwr.faultCause := (gateCores_only d).faultCause

@[simp] theorem push'_rw (q : Nat) (x : Desc) : (push' d q x).rw = d.rw := (push'_only d q x).rw
@[simp] theorem push'_clk (q : Nat) (x : Desc) : (push' d q x).clk = d.clk := (push'_only d q x).clk
@[simp] theorem push'_ptp (q : Nat) (x : Desc) : (push' d q x).ptp = d.ptp := (push'_only d q x).ptp
@[simp] theorem push'_pps (q : Nat) (x : Desc) : (push' d q x).pps = d.pps := (push'_only d q x).pps
@[simp] theorem push'_start (q : Nat) (x : Desc) : (push' d q x).start = d.start := (push'_only d q x).start
@[simp] theorem push'_nv (q : Nat) (x : Desc) : (push' d q x).nv = d.nv := (push'_only d q x).nv
@[simp] theorem push'_err (q : Nat) (x : Desc) : (push' d q x).err = d.err := push'_keeps_err d q x
@[simp] theorem push'_tel (q : Nat) (x : Desc) : (push' d q x).tel = d.tel := (push'_only d q x).tel
@[simp] theorem push'_timers (q : Nat) (x : Desc) : (push' d q x).timers = d.timers := (push'_only d q x).timers
@[simp] theorem push'_tmSrc (q : Nat) (x : Desc) : (push' d q x).tmSrc = d.tmSrc := (push'_only d q x).tmSrc
@[simp] theorem push'_halted (q : Nat) (x : Desc) : (push' d q x).halted = d.halted := (push'_only d q x).halted
@[simp] theorem push'_bandSf (q : Nat) (x : Desc) : (push' d q x).bandSf = d.bandSf := (push'_only d q x).bandSf
@[simp] theorem push'_bandG (q : Nat) (x : Desc) : (push' d q x).bandG = d.bandG := (push'_only d q x).bandG
@[simp] theorem push'_lanes (q : Nat) (x : Desc) : (push' d q x).lanes = d.lanes := (push'_only d q x).lanes
@[simp] theorem push'_gov (q : Nat) (x : Desc) : (push' d q x).gov = d.gov := (push'_only d q x).gov
@[simp] theorem push'_sched (q : Nat) (x : Desc) : (push' d q x).sched = d.sched := (push'_only d q x).sched
@[simp] theorem push'_nbr (q : Nat) (x : Desc) : (push' d q x).nbr = d.nbr := (push'_only d q x).nbr
@[simp] theorem push'_fwd (q : Nat) (x : Desc) : (push' d q x).fwd = d.fwd := (push'_only d q x).fwd
@[simp] theorem push'_shp (q : Nat) (x : Desc) : (push' d q x).shp = d.shp := (push'_only d q x).shp
@[simp] theorem push'_bunting (q : Nat) (x : Desc) : (push' d q x).bunting = d.bunting := (push'_only d q x).bunting
@[simp] theorem push'_fw (q : Nat) (x : Desc) : (push' d q x).fw = d.fw := (push'_only d q x).fw
@[simp] theorem push'_can (q : Nat) (x : Desc) : (push' d q x).can = d.can := (push'_only d q x).can
@[simp] theorem push'_hier (q : Nat) (x : Desc) : (push' d q x).hier = d.hier := (push'_only d q x).hier
@[simp] theorem push'_qdl (q : Nat) (x : Desc) : (push' d q x).qdl = d.qdl := (push'_only d q x).qdl
@[simp] theorem push'_gpio (q : Nat) (x : Desc) : (push' d q x).gpio = d.gpio := (push'_only d q x).gpio
@[simp] theorem push'_ifs (q : Nat) (x : Desc) : (push' d q x).ifs = d.ifs := (push'_only d q x).ifs
@[simp] theorem push'_free (q : Nat) (x : Desc) : (push' d q x).free = d.free := (push'_only d q x).free
@[simp] theorem push'_out (q : Nat) (x : Desc) : (push' d q x).out = d.out := (push'_only d q x).out
@[simp] theorem push'_mode (q : Nat) (x : Desc) : (push' d q x).pwr.mode = d.pwr.mode := (push'_only d q x).mode
@[simp] theorem push'_entering (q : Nat) (x : Desc) : (push' d q x).pwr.entering = d.pwr.entering := (push'_only d q x).entering
@[simp] theorem push'_fullOnly (q : Nat) (x : Desc) : (push' d q x).pwr.fullOnly = d.pwr.fullOnly := (push'_only d q x).fullOnly
@[simp] theorem push'_baseFull (q : Nat) (x : Desc) : (push' d q x).pwr.baseFull = d.pwr.baseFull := (push'_only d q x).baseFull
@[simp] theorem push'_vcoreOn (q : Nat) (x : Desc) : (push' d q x).pwr.vcoreOn = d.pwr.vcoreOn := (push'_only d q x).vcoreOn
@[simp] theorem push'_faultCause (q : Nat) (x : Desc) : (push' d q x).pwr.faultCause = d.pwr.faultCause := (push'_only d q x).faultCause

@[simp] theorem take1_rw (q : Nat) : (take1 d q).rw = d.rw := (take1_only d q).rw
@[simp] theorem take1_clk (q : Nat) : (take1 d q).clk = d.clk := (take1_only d q).clk
@[simp] theorem take1_ptp (q : Nat) : (take1 d q).ptp = d.ptp := (take1_only d q).ptp
@[simp] theorem take1_pps (q : Nat) : (take1 d q).pps = d.pps := (take1_only d q).pps
@[simp] theorem take1_start (q : Nat) : (take1 d q).start = d.start := (take1_only d q).start
@[simp] theorem take1_nv (q : Nat) : (take1 d q).nv = d.nv := (take1_only d q).nv
@[simp] theorem take1_err (q : Nat) : (take1 d q).err = d.err := (take1_only d q).err
@[simp] theorem take1_tel (q : Nat) : (take1 d q).tel = d.tel := (take1_only d q).tel
@[simp] theorem take1_store (q : Nat) : (take1 d q).store = d.store := (take1_only d q).store
@[simp] theorem take1_timers (q : Nat) : (take1 d q).timers = d.timers := (take1_only d q).timers
@[simp] theorem take1_tmSrc (q : Nat) : (take1 d q).tmSrc = d.tmSrc := (take1_only d q).tmSrc
@[simp] theorem take1_halted (q : Nat) : (take1 d q).halted = d.halted := (take1_only d q).halted
@[simp] theorem take1_bandSf (q : Nat) : (take1 d q).bandSf = d.bandSf := (take1_only d q).bandSf
@[simp] theorem take1_bandG (q : Nat) : (take1 d q).bandG = d.bandG := (take1_only d q).bandG
@[simp] theorem take1_lanes (q : Nat) : (take1 d q).lanes = d.lanes := (take1_only d q).lanes
@[simp] theorem take1_gov (q : Nat) : (take1 d q).gov = d.gov := (take1_only d q).gov
@[simp] theorem take1_sched (q : Nat) : (take1 d q).sched = d.sched := (take1_only d q).sched
@[simp] theorem take1_nbr (q : Nat) : (take1 d q).nbr = d.nbr := (take1_only d q).nbr
@[simp] theorem take1_fwd (q : Nat) : (take1 d q).fwd = d.fwd := (take1_only d q).fwd
@[simp] theorem take1_shp (q : Nat) : (take1 d q).shp = d.shp := (take1_only d q).shp
@[simp] theorem take1_bunting (q : Nat) : (take1 d q).bunting = d.bunting := (take1_only d q).bunting
@[simp] theorem take1_fw (q : Nat) : (take1 d q).fw = d.fw := (take1_only d q).fw
@[simp] theorem take1_can (q : Nat) : (take1 d q).can = d.can := (take1_only d q).can
@[simp] theorem take1_hier (q : Nat) : (take1 d q).hier = d.hier := (take1_only d q).hier
@[simp] theorem take1_qdl (q : Nat) : (take1 d q).qdl = d.qdl := (take1_only d q).qdl
@[simp] theorem take1_gpio (q : Nat) : (take1 d q).gpio = d.gpio := (take1_only d q).gpio
@[simp] theorem take1_ifs (q : Nat) : (take1 d q).ifs = d.ifs := (take1_only d q).ifs
@[simp] theorem take1_free (q : Nat) : (take1 d q).free = d.free := (take1_only d q).free
@[simp] theorem take1_out (q : Nat) : (take1 d q).out = d.out := (take1_only d q).out
@[simp] theorem take1_mode (q : Nat) : (take1 d q).pwr.mode = d.pwr.mode := (take1_only d q).mode
@[simp] theorem take1_entering (q : Nat) : (take1 d q).pwr.entering = d.pwr.entering := (take1_only d q).entering
@[simp] theorem take1_fullOnly (q : Nat) : (take1 d q).pwr.fullOnly = d.pwr.fullOnly := (take1_only d q).fullOnly
@[simp] theorem take1_baseFull (q : Nat) : (take1 d q).pwr.baseFull = d.pwr.baseFull := (take1_only d q).baseFull
@[simp] theorem take1_vcoreOn (q : Nat) : (take1 d q).pwr.vcoreOn = d.pwr.vcoreOn := (take1_only d q).vcoreOn
@[simp] theorem take1_faultCause (q : Nat) : (take1 d q).pwr.faultCause = d.pwr.faultCause := (take1_only d q).faultCause

@[simp] theorem notifyP5_rw (e x g : Nat) (t : Int) : (notifyP5 d e x g t).rw = d.rw := (notifyP5_only d e x g t).rw
@[simp] theorem notifyP5_clk (e x g : Nat) (t : Int) : (notifyP5 d e x g t).clk = d.clk := (notifyP5_only d e x g t).clk
@[simp] theorem notifyP5_ptp (e x g : Nat) (t : Int) : (notifyP5 d e x g t).ptp = d.ptp := (notifyP5_only d e x g t).ptp
@[simp] theorem notifyP5_pps (e x g : Nat) (t : Int) : (notifyP5 d e x g t).pps = d.pps := (notifyP5_only d e x g t).pps
@[simp] theorem notifyP5_start (e x g : Nat) (t : Int) : (notifyP5 d e x g t).start = d.start := (notifyP5_only d e x g t).start
@[simp] theorem notifyP5_nv (e x g : Nat) (t : Int) : (notifyP5 d e x g t).nv = d.nv := (notifyP5_only d e x g t).nv
@[simp] theorem notifyP5_err (e x g : Nat) (t : Int) : (notifyP5 d e x g t).err = d.err := (notifyP5_only d e x g t).err
@[simp] theorem notifyP5_tel (e x g : Nat) (t : Int) : (notifyP5 d e x g t).tel = d.tel := (notifyP5_only d e x g t).tel
@[simp] theorem notifyP5_store (e x g : Nat) (t : Int) : (notifyP5 d e x g t).store = d.store := (notifyP5_only d e x g t).store
@[simp] theorem notifyP5_timers (e x g : Nat) (t : Int) : (notifyP5 d e x g t).timers = d.timers := (notifyP5_only d e x g t).timers
@[simp] theorem notifyP5_tmSrc (e x g : Nat) (t : Int) : (notifyP5 d e x g t).tmSrc = d.tmSrc := (notifyP5_only d e x g t).tmSrc
@[simp] theorem notifyP5_halted (e x g : Nat) (t : Int) : (notifyP5 d e x g t).halted = d.halted := (notifyP5_only d e x g t).halted
@[simp] theorem notifyP5_bandSf (e x g : Nat) (t : Int) : (notifyP5 d e x g t).bandSf = d.bandSf := (notifyP5_only d e x g t).bandSf
@[simp] theorem notifyP5_bandG (e x g : Nat) (t : Int) : (notifyP5 d e x g t).bandG = d.bandG := (notifyP5_only d e x g t).bandG
@[simp] theorem notifyP5_lanes (e x g : Nat) (t : Int) : (notifyP5 d e x g t).lanes = d.lanes := (notifyP5_only d e x g t).lanes
@[simp] theorem notifyP5_gov (e x g : Nat) (t : Int) : (notifyP5 d e x g t).gov = d.gov := (notifyP5_only d e x g t).gov
@[simp] theorem notifyP5_sched (e x g : Nat) (t : Int) : (notifyP5 d e x g t).sched = d.sched := (notifyP5_only d e x g t).sched
@[simp] theorem notifyP5_nbr (e x g : Nat) (t : Int) : (notifyP5 d e x g t).nbr = d.nbr := (notifyP5_only d e x g t).nbr
@[simp] theorem notifyP5_fwd (e x g : Nat) (t : Int) : (notifyP5 d e x g t).fwd = d.fwd := (notifyP5_only d e x g t).fwd
@[simp] theorem notifyP5_shp (e x g : Nat) (t : Int) : (notifyP5 d e x g t).shp = d.shp := (notifyP5_only d e x g t).shp
@[simp] theorem notifyP5_bunting (e x g : Nat) (t : Int) : (notifyP5 d e x g t).bunting = d.bunting := (notifyP5_only d e x g t).bunting
@[simp] theorem notifyP5_fw (e x g : Nat) (t : Int) : (notifyP5 d e x g t).fw = d.fw := (notifyP5_only d e x g t).fw
@[simp] theorem notifyP5_can (e x g : Nat) (t : Int) : (notifyP5 d e x g t).can = d.can := (notifyP5_only d e x g t).can
@[simp] theorem notifyP5_hier (e x g : Nat) (t : Int) : (notifyP5 d e x g t).hier = d.hier := (notifyP5_only d e x g t).hier
@[simp] theorem notifyP5_qdl (e x g : Nat) (t : Int) : (notifyP5 d e x g t).qdl = d.qdl := (notifyP5_only d e x g t).qdl
@[simp] theorem notifyP5_gpio (e x g : Nat) (t : Int) : (notifyP5 d e x g t).gpio = d.gpio := (notifyP5_only d e x g t).gpio
@[simp] theorem notifyP5_ifs (e x g : Nat) (t : Int) : (notifyP5 d e x g t).ifs = d.ifs := (notifyP5_only d e x g t).ifs
@[simp] theorem notifyP5_free (e x g : Nat) (t : Int) : (notifyP5 d e x g t).free = d.free := (notifyP5_only d e x g t).free
@[simp] theorem notifyP5_out (e x g : Nat) (t : Int) : (notifyP5 d e x g t).out = d.out := (notifyP5_only d e x g t).out
@[simp] theorem notifyP5_mode (e x g : Nat) (t : Int) : (notifyP5 d e x g t).pwr.mode = d.pwr.mode := (notifyP5_only d e x g t).mode
@[simp] theorem notifyP5_entering (e x g : Nat) (t : Int) : (notifyP5 d e x g t).pwr.entering = d.pwr.entering := (notifyP5_only d e x g t).entering
@[simp] theorem notifyP5_fullOnly (e x g : Nat) (t : Int) : (notifyP5 d e x g t).pwr.fullOnly = d.pwr.fullOnly := (notifyP5_only d e x g t).fullOnly
@[simp] theorem notifyP5_baseFull (e x g : Nat) (t : Int) : (notifyP5 d e x g t).pwr.baseFull = d.pwr.baseFull := (notifyP5_only d e x g t).baseFull
@[simp] theorem notifyP5_vcoreOn (e x g : Nat) (t : Int) : (notifyP5 d e x g t).pwr.vcoreOn = d.pwr.vcoreOn := (notifyP5_only d e x g t).vcoreOn
@[simp] theorem notifyP5_faultCause (e x g : Nat) (t : Int) : (notifyP5 d e x g t).pwr.faultCause = d.pwr.faultCause := (notifyP5_only d e x g t).faultCause

@[simp] theorem raiseAt_rw (e x : Nat) (t : Int) : (raiseAt d e x t).rw = d.rw := (raiseAt_only d e x t).rw
@[simp] theorem raiseAt_clk (e x : Nat) (t : Int) : (raiseAt d e x t).clk = d.clk := (raiseAt_only d e x t).clk
@[simp] theorem raiseAt_ptp (e x : Nat) (t : Int) : (raiseAt d e x t).ptp = d.ptp := (raiseAt_only d e x t).ptp
@[simp] theorem raiseAt_pps (e x : Nat) (t : Int) : (raiseAt d e x t).pps = d.pps := (raiseAt_only d e x t).pps
@[simp] theorem raiseAt_start (e x : Nat) (t : Int) : (raiseAt d e x t).start = d.start := (raiseAt_only d e x t).start
@[simp] theorem raiseAt_nv (e x : Nat) (t : Int) : (raiseAt d e x t).nv = d.nv := (raiseAt_only d e x t).nv
@[simp] theorem raiseAt_err (e x : Nat) (t : Int) : (raiseAt d e x t).err = d.err := (raiseAt_only d e x t).err
@[simp] theorem raiseAt_tel (e x : Nat) (t : Int) : (raiseAt d e x t).tel = d.tel := (raiseAt_only d e x t).tel
@[simp] theorem raiseAt_store (e x : Nat) (t : Int) : (raiseAt d e x t).store = d.store := (raiseAt_only d e x t).store
@[simp] theorem raiseAt_timers (e x : Nat) (t : Int) : (raiseAt d e x t).timers = d.timers := (raiseAt_only d e x t).timers
@[simp] theorem raiseAt_tmSrc (e x : Nat) (t : Int) : (raiseAt d e x t).tmSrc = d.tmSrc := (raiseAt_only d e x t).tmSrc
@[simp] theorem raiseAt_halted (e x : Nat) (t : Int) : (raiseAt d e x t).halted = d.halted := (raiseAt_only d e x t).halted
@[simp] theorem raiseAt_bandSf (e x : Nat) (t : Int) : (raiseAt d e x t).bandSf = d.bandSf := (raiseAt_only d e x t).bandSf
@[simp] theorem raiseAt_bandG (e x : Nat) (t : Int) : (raiseAt d e x t).bandG = d.bandG := (raiseAt_only d e x t).bandG
@[simp] theorem raiseAt_lanes (e x : Nat) (t : Int) : (raiseAt d e x t).lanes = d.lanes := (raiseAt_only d e x t).lanes
@[simp] theorem raiseAt_gov (e x : Nat) (t : Int) : (raiseAt d e x t).gov = d.gov := (raiseAt_only d e x t).gov
@[simp] theorem raiseAt_sched (e x : Nat) (t : Int) : (raiseAt d e x t).sched = d.sched := (raiseAt_only d e x t).sched
@[simp] theorem raiseAt_nbr (e x : Nat) (t : Int) : (raiseAt d e x t).nbr = d.nbr := (raiseAt_only d e x t).nbr
@[simp] theorem raiseAt_fwd (e x : Nat) (t : Int) : (raiseAt d e x t).fwd = d.fwd := (raiseAt_only d e x t).fwd
@[simp] theorem raiseAt_shp (e x : Nat) (t : Int) : (raiseAt d e x t).shp = d.shp := (raiseAt_only d e x t).shp
@[simp] theorem raiseAt_bunting (e x : Nat) (t : Int) : (raiseAt d e x t).bunting = d.bunting := (raiseAt_only d e x t).bunting
@[simp] theorem raiseAt_fw (e x : Nat) (t : Int) : (raiseAt d e x t).fw = d.fw := (raiseAt_only d e x t).fw
@[simp] theorem raiseAt_can (e x : Nat) (t : Int) : (raiseAt d e x t).can = d.can := (raiseAt_only d e x t).can
@[simp] theorem raiseAt_hier (e x : Nat) (t : Int) : (raiseAt d e x t).hier = d.hier := (raiseAt_only d e x t).hier
@[simp] theorem raiseAt_qdl (e x : Nat) (t : Int) : (raiseAt d e x t).qdl = d.qdl := (raiseAt_only d e x t).qdl
@[simp] theorem raiseAt_gpio (e x : Nat) (t : Int) : (raiseAt d e x t).gpio = d.gpio := (raiseAt_only d e x t).gpio
@[simp] theorem raiseAt_ifs (e x : Nat) (t : Int) : (raiseAt d e x t).ifs = d.ifs := (raiseAt_only d e x t).ifs
@[simp] theorem raiseAt_free (e x : Nat) (t : Int) : (raiseAt d e x t).free = d.free := (raiseAt_only d e x t).free
@[simp] theorem raiseAt_out (e x : Nat) (t : Int) : (raiseAt d e x t).out = d.out := (raiseAt_only d e x t).out
@[simp] theorem raiseAt_mode (e x : Nat) (t : Int) : (raiseAt d e x t).pwr.mode = d.pwr.mode := (raiseAt_only d e x t).mode
@[simp] theorem raiseAt_entering (e x : Nat) (t : Int) : (raiseAt d e x t).pwr.entering = d.pwr.entering := (raiseAt_only d e x t).entering
@[simp] theorem raiseAt_fullOnly (e x : Nat) (t : Int) : (raiseAt d e x t).pwr.fullOnly = d.pwr.fullOnly := (raiseAt_only d e x t).fullOnly
@[simp] theorem raiseAt_baseFull (e x : Nat) (t : Int) : (raiseAt d e x t).pwr.baseFull = d.pwr.baseFull := (raiseAt_only d e x t).baseFull
@[simp] theorem raiseAt_vcoreOn (e x : Nat) (t : Int) : (raiseAt d e x t).pwr.vcoreOn = d.pwr.vcoreOn := (raiseAt_only d e x t).vcoreOn
@[simp] theorem raiseAt_faultCause (e x : Nat) (t : Int) : (raiseAt d e x t).pwr.faultCause = d.pwr.faultCause := (raiseAt_only d e x t).faultCause

@[simp] theorem raise_rw (e x : Nat) : (raise d e x).rw = d.rw := (raise_only d e x).rw
@[simp] theorem raise_clk (e x : Nat) : (raise d e x).clk = d.clk := (raise_only d e x).clk
@[simp] theorem raise_ptp (e x : Nat) : (raise d e x).ptp = d.ptp := (raise_only d e x).ptp
@[simp] theorem raise_pps (e x : Nat) : (raise d e x).pps = d.pps := (raise_only d e x).pps
@[simp] theorem raise_start (e x : Nat) : (raise d e x).start = d.start := (raise_only d e x).start
@[simp] theorem raise_nv (e x : Nat) : (raise d e x).nv = d.nv := (raise_only d e x).nv
@[simp] theorem raise_err (e x : Nat) : (raise d e x).err = d.err := (raise_only d e x).err
@[simp] theorem raise_tel (e x : Nat) : (raise d e x).tel = d.tel := (raise_only d e x).tel
@[simp] theorem raise_store (e x : Nat) : (raise d e x).store = d.store := (raise_only d e x).store
@[simp] theorem raise_timers (e x : Nat) : (raise d e x).timers = d.timers := (raise_only d e x).timers
@[simp] theorem raise_tmSrc (e x : Nat) : (raise d e x).tmSrc = d.tmSrc := (raise_only d e x).tmSrc
@[simp] theorem raise_halted (e x : Nat) : (raise d e x).halted = d.halted := (raise_only d e x).halted
@[simp] theorem raise_bandSf (e x : Nat) : (raise d e x).bandSf = d.bandSf := (raise_only d e x).bandSf
@[simp] theorem raise_bandG (e x : Nat) : (raise d e x).bandG = d.bandG := (raise_only d e x).bandG
@[simp] theorem raise_lanes (e x : Nat) : (raise d e x).lanes = d.lanes := (raise_only d e x).lanes
@[simp] theorem raise_gov (e x : Nat) : (raise d e x).gov = d.gov := (raise_only d e x).gov
@[simp] theorem raise_sched (e x : Nat) : (raise d e x).sched = d.sched := (raise_only d e x).sched
@[simp] theorem raise_nbr (e x : Nat) : (raise d e x).nbr = d.nbr := (raise_only d e x).nbr
@[simp] theorem raise_fwd (e x : Nat) : (raise d e x).fwd = d.fwd := (raise_only d e x).fwd
@[simp] theorem raise_shp (e x : Nat) : (raise d e x).shp = d.shp := (raise_only d e x).shp
@[simp] theorem raise_bunting (e x : Nat) : (raise d e x).bunting = d.bunting := (raise_only d e x).bunting
@[simp] theorem raise_fw (e x : Nat) : (raise d e x).fw = d.fw := (raise_only d e x).fw
@[simp] theorem raise_can (e x : Nat) : (raise d e x).can = d.can := (raise_only d e x).can
@[simp] theorem raise_hier (e x : Nat) : (raise d e x).hier = d.hier := (raise_only d e x).hier
@[simp] theorem raise_qdl (e x : Nat) : (raise d e x).qdl = d.qdl := (raise_only d e x).qdl
@[simp] theorem raise_gpio (e x : Nat) : (raise d e x).gpio = d.gpio := (raise_only d e x).gpio
@[simp] theorem raise_ifs (e x : Nat) : (raise d e x).ifs = d.ifs := (raise_only d e x).ifs
@[simp] theorem raise_free (e x : Nat) : (raise d e x).free = d.free := (raise_only d e x).free
@[simp] theorem raise_out (e x : Nat) : (raise d e x).out = d.out := (raise_only d e x).out
@[simp] theorem raise_mode (e x : Nat) : (raise d e x).pwr.mode = d.pwr.mode := (raise_only d e x).mode
@[simp] theorem raise_entering (e x : Nat) : (raise d e x).pwr.entering = d.pwr.entering := (raise_only d e x).entering
@[simp] theorem raise_fullOnly (e x : Nat) : (raise d e x).pwr.fullOnly = d.pwr.fullOnly := (raise_only d e x).fullOnly
@[simp] theorem raise_baseFull (e x : Nat) : (raise d e x).pwr.baseFull = d.pwr.baseFull := (raise_only d e x).baseFull
@[simp] theorem raise_vcoreOn (e x : Nat) : (raise d e x).pwr.vcoreOn = d.pwr.vcoreOn := (raise_only d e x).vcoreOn
@[simp] theorem raise_faultCause (e x : Nat) : (raise d e x).pwr.faultCause = d.pwr.faultCause := (raise_only d e x).faultCause

@[simp] theorem raiseRate_rw (e i n p : Nat) (f : Nat → Nat) : (raiseRate d e i n p f).rw = d.rw := (raiseRate_only d e i n p f).rw
@[simp] theorem raiseRate_clk (e i n p : Nat) (f : Nat → Nat) : (raiseRate d e i n p f).clk = d.clk := (raiseRate_only d e i n p f).clk
@[simp] theorem raiseRate_ptp (e i n p : Nat) (f : Nat → Nat) : (raiseRate d e i n p f).ptp = d.ptp := (raiseRate_only d e i n p f).ptp
@[simp] theorem raiseRate_pps (e i n p : Nat) (f : Nat → Nat) : (raiseRate d e i n p f).pps = d.pps := (raiseRate_only d e i n p f).pps
@[simp] theorem raiseRate_start (e i n p : Nat) (f : Nat → Nat) : (raiseRate d e i n p f).start = d.start := (raiseRate_only d e i n p f).start
@[simp] theorem raiseRate_nv (e i n p : Nat) (f : Nat → Nat) : (raiseRate d e i n p f).nv = d.nv := (raiseRate_only d e i n p f).nv
@[simp] theorem raiseRate_err (e i n p : Nat) (f : Nat → Nat) : (raiseRate d e i n p f).err = d.err := (raiseRate_only d e i n p f).err
@[simp] theorem raiseRate_tel (e i n p : Nat) (f : Nat → Nat) : (raiseRate d e i n p f).tel = d.tel := (raiseRate_only d e i n p f).tel
@[simp] theorem raiseRate_store (e i n p : Nat) (f : Nat → Nat) : (raiseRate d e i n p f).store = d.store := (raiseRate_only d e i n p f).store
@[simp] theorem raiseRate_timers (e i n p : Nat) (f : Nat → Nat) : (raiseRate d e i n p f).timers = d.timers := (raiseRate_only d e i n p f).timers
@[simp] theorem raiseRate_tmSrc (e i n p : Nat) (f : Nat → Nat) : (raiseRate d e i n p f).tmSrc = d.tmSrc := (raiseRate_only d e i n p f).tmSrc
@[simp] theorem raiseRate_halted (e i n p : Nat) (f : Nat → Nat) : (raiseRate d e i n p f).halted = d.halted := (raiseRate_only d e i n p f).halted
@[simp] theorem raiseRate_bandSf (e i n p : Nat) (f : Nat → Nat) : (raiseRate d e i n p f).bandSf = d.bandSf := (raiseRate_only d e i n p f).bandSf
@[simp] theorem raiseRate_bandG (e i n p : Nat) (f : Nat → Nat) : (raiseRate d e i n p f).bandG = d.bandG := (raiseRate_only d e i n p f).bandG
@[simp] theorem raiseRate_lanes (e i n p : Nat) (f : Nat → Nat) : (raiseRate d e i n p f).lanes = d.lanes := (raiseRate_only d e i n p f).lanes
@[simp] theorem raiseRate_gov (e i n p : Nat) (f : Nat → Nat) : (raiseRate d e i n p f).gov = d.gov := (raiseRate_only d e i n p f).gov
@[simp] theorem raiseRate_sched (e i n p : Nat) (f : Nat → Nat) : (raiseRate d e i n p f).sched = d.sched := (raiseRate_only d e i n p f).sched
@[simp] theorem raiseRate_nbr (e i n p : Nat) (f : Nat → Nat) : (raiseRate d e i n p f).nbr = d.nbr := (raiseRate_only d e i n p f).nbr
@[simp] theorem raiseRate_fwd (e i n p : Nat) (f : Nat → Nat) : (raiseRate d e i n p f).fwd = d.fwd := (raiseRate_only d e i n p f).fwd
@[simp] theorem raiseRate_shp (e i n p : Nat) (f : Nat → Nat) : (raiseRate d e i n p f).shp = d.shp := (raiseRate_only d e i n p f).shp
@[simp] theorem raiseRate_bunting (e i n p : Nat) (f : Nat → Nat) : (raiseRate d e i n p f).bunting = d.bunting := (raiseRate_only d e i n p f).bunting
@[simp] theorem raiseRate_fw (e i n p : Nat) (f : Nat → Nat) : (raiseRate d e i n p f).fw = d.fw := (raiseRate_only d e i n p f).fw
@[simp] theorem raiseRate_can (e i n p : Nat) (f : Nat → Nat) : (raiseRate d e i n p f).can = d.can := (raiseRate_only d e i n p f).can
@[simp] theorem raiseRate_hier (e i n p : Nat) (f : Nat → Nat) : (raiseRate d e i n p f).hier = d.hier := (raiseRate_only d e i n p f).hier
@[simp] theorem raiseRate_qdl (e i n p : Nat) (f : Nat → Nat) : (raiseRate d e i n p f).qdl = d.qdl := (raiseRate_only d e i n p f).qdl
@[simp] theorem raiseRate_gpio (e i n p : Nat) (f : Nat → Nat) : (raiseRate d e i n p f).gpio = d.gpio := (raiseRate_only d e i n p f).gpio
@[simp] theorem raiseRate_ifs (e i n p : Nat) (f : Nat → Nat) : (raiseRate d e i n p f).ifs = d.ifs := (raiseRate_only d e i n p f).ifs
@[simp] theorem raiseRate_free (e i n p : Nat) (f : Nat → Nat) : (raiseRate d e i n p f).free = d.free := (raiseRate_only d e i n p f).free
@[simp] theorem raiseRate_out (e i n p : Nat) (f : Nat → Nat) : (raiseRate d e i n p f).out = d.out := (raiseRate_only d e i n p f).out
@[simp] theorem raiseRate_mode (e i n p : Nat) (f : Nat → Nat) : (raiseRate d e i n p f).pwr.mode = d.pwr.mode := (raiseRate_only d e i n p f).mode
@[simp] theorem raiseRate_entering (e i n p : Nat) (f : Nat → Nat) : (raiseRate d e i n p f).pwr.entering = d.pwr.entering := (raiseRate_only d e i n p f).entering
@[simp] theorem raiseRate_fullOnly (e i n p : Nat) (f : Nat → Nat) : (raiseRate d e i n p f).pwr.fullOnly = d.pwr.fullOnly := (raiseRate_only d e i n p f).fullOnly
@[simp] theorem raiseRate_baseFull (e i n p : Nat) (f : Nat → Nat) : (raiseRate d e i n p f).pwr.baseFull = d.pwr.baseFull := (raiseRate_only d e i n p f).baseFull
@[simp] theorem raiseRate_vcoreOn (e i n p : Nat) (f : Nat → Nat) : (raiseRate d e i n p f).pwr.vcoreOn = d.pwr.vcoreOn := (raiseRate_only d e i n p f).vcoreOn
@[simp] theorem raiseRate_faultCause (e i n p : Nat) (f : Nat → Nat) : (raiseRate d e i n p f).pwr.faultCause = d.pwr.faultCause := (raiseRate_only d e i n p f).faultCause

@[simp] theorem errRecord_rw (r : ErrRec) : (errRecord d r).rw = d.rw := (errRecord_only d r).rw
@[simp] theorem errRecord_clk (r : ErrRec) : (errRecord d r).clk = d.clk := (errRecord_only d r).clk
@[simp] theorem errRecord_ptp (r : ErrRec) : (errRecord d r).ptp = d.ptp := (errRecord_only d r).ptp
@[simp] theorem errRecord_pps (r : ErrRec) : (errRecord d r).pps = d.pps := (errRecord_only d r).pps
@[simp] theorem errRecord_start (r : ErrRec) : (errRecord d r).start = d.start := (errRecord_only d r).start
@[simp] theorem errRecord_nv (r : ErrRec) : (errRecord d r).nv = d.nv := (errRecord_only d r).nv
@[simp] theorem errRecord_tel (r : ErrRec) : (errRecord d r).tel = d.tel := (errRecord_only d r).tel
@[simp] theorem errRecord_timers (r : ErrRec) : (errRecord d r).timers = d.timers := (errRecord_only d r).timers
@[simp] theorem errRecord_tmSrc (r : ErrRec) : (errRecord d r).tmSrc = d.tmSrc := (errRecord_only d r).tmSrc
@[simp] theorem errRecord_halted (r : ErrRec) : (errRecord d r).halted = d.halted := (errRecord_only d r).halted
@[simp] theorem errRecord_bandSf (r : ErrRec) : (errRecord d r).bandSf = d.bandSf := (errRecord_only d r).bandSf
@[simp] theorem errRecord_bandG (r : ErrRec) : (errRecord d r).bandG = d.bandG := (errRecord_only d r).bandG
@[simp] theorem errRecord_lanes (r : ErrRec) : (errRecord d r).lanes = d.lanes := (errRecord_only d r).lanes
@[simp] theorem errRecord_gov (r : ErrRec) : (errRecord d r).gov = d.gov := (errRecord_only d r).gov
@[simp] theorem errRecord_sched (r : ErrRec) : (errRecord d r).sched = d.sched := (errRecord_only d r).sched
@[simp] theorem errRecord_nbr (r : ErrRec) : (errRecord d r).nbr = d.nbr := (errRecord_only d r).nbr
@[simp] theorem errRecord_fwd (r : ErrRec) : (errRecord d r).fwd = d.fwd := (errRecord_only d r).fwd
@[simp] theorem errRecord_shp (r : ErrRec) : (errRecord d r).shp = d.shp := (errRecord_only d r).shp
@[simp] theorem errRecord_bunting (r : ErrRec) : (errRecord d r).bunting = d.bunting := (errRecord_only d r).bunting
@[simp] theorem errRecord_fw (r : ErrRec) : (errRecord d r).fw = d.fw := (errRecord_only d r).fw
@[simp] theorem errRecord_can (r : ErrRec) : (errRecord d r).can = d.can := (errRecord_only d r).can
@[simp] theorem errRecord_hier (r : ErrRec) : (errRecord d r).hier = d.hier := (errRecord_only d r).hier
@[simp] theorem errRecord_qdl (r : ErrRec) : (errRecord d r).qdl = d.qdl := (errRecord_only d r).qdl
@[simp] theorem errRecord_gpio (r : ErrRec) : (errRecord d r).gpio = d.gpio := (errRecord_only d r).gpio
@[simp] theorem errRecord_ifs (r : ErrRec) : (errRecord d r).ifs = d.ifs := (errRecord_only d r).ifs
@[simp] theorem errRecord_free (r : ErrRec) : (errRecord d r).free = d.free := (errRecord_only d r).free
@[simp] theorem errRecord_out (r : ErrRec) : (errRecord d r).out = d.out := (errRecord_only d r).out
@[simp] theorem errRecord_mode (r : ErrRec) : (errRecord d r).pwr.mode = d.pwr.mode := (errRecord_only d r).mode
@[simp] theorem errRecord_entering (r : ErrRec) : (errRecord d r).pwr.entering = d.pwr.entering := (errRecord_only d r).entering
@[simp] theorem errRecord_fullOnly (r : ErrRec) : (errRecord d r).pwr.fullOnly = d.pwr.fullOnly := (errRecord_only d r).fullOnly
@[simp] theorem errRecord_baseFull (r : ErrRec) : (errRecord d r).pwr.baseFull = d.pwr.baseFull := (errRecord_only d r).baseFull
@[simp] theorem errRecord_vcoreOn (r : ErrRec) : (errRecord d r).pwr.vcoreOn = d.pwr.vcoreOn := (errRecord_only d r).vcoreOn
@[simp] theorem errRecord_faultCause (r : ErrRec) : (errRecord d r).pwr.faultCause = d.pwr.faultCause := (errRecord_only d r).faultCause

@[simp] theorem errBy_rw (a b c g : Nat) (h i : Option Nat) (j k l : Nat) : (errBy d a b c g h i j k l).rw = d.rw := (errBy_only d a b c g h i j k l).rw
@[simp] theorem errBy_clk (a b c g : Nat) (h i : Option Nat) (j k l : Nat) : (errBy d a b c g h i j k l).clk = d.clk := (errBy_only d a b c g h i j k l).clk
@[simp] theorem errBy_ptp (a b c g : Nat) (h i : Option Nat) (j k l : Nat) : (errBy d a b c g h i j k l).ptp = d.ptp := (errBy_only d a b c g h i j k l).ptp
@[simp] theorem errBy_pps (a b c g : Nat) (h i : Option Nat) (j k l : Nat) : (errBy d a b c g h i j k l).pps = d.pps := (errBy_only d a b c g h i j k l).pps
@[simp] theorem errBy_start (a b c g : Nat) (h i : Option Nat) (j k l : Nat) : (errBy d a b c g h i j k l).start = d.start := (errBy_only d a b c g h i j k l).start
@[simp] theorem errBy_nv (a b c g : Nat) (h i : Option Nat) (j k l : Nat) : (errBy d a b c g h i j k l).nv = d.nv := (errBy_only d a b c g h i j k l).nv
@[simp] theorem errBy_tel (a b c g : Nat) (h i : Option Nat) (j k l : Nat) : (errBy d a b c g h i j k l).tel = d.tel := (errBy_only d a b c g h i j k l).tel
@[simp] theorem errBy_timers (a b c g : Nat) (h i : Option Nat) (j k l : Nat) : (errBy d a b c g h i j k l).timers = d.timers := (errBy_only d a b c g h i j k l).timers
@[simp] theorem errBy_tmSrc (a b c g : Nat) (h i : Option Nat) (j k l : Nat) : (errBy d a b c g h i j k l).tmSrc = d.tmSrc := (errBy_only d a b c g h i j k l).tmSrc
@[simp] theorem errBy_halted (a b c g : Nat) (h i : Option Nat) (j k l : Nat) : (errBy d a b c g h i j k l).halted = d.halted := (errBy_only d a b c g h i j k l).halted
@[simp] theorem errBy_bandSf (a b c g : Nat) (h i : Option Nat) (j k l : Nat) : (errBy d a b c g h i j k l).bandSf = d.bandSf := (errBy_only d a b c g h i j k l).bandSf
@[simp] theorem errBy_bandG (a b c g : Nat) (h i : Option Nat) (j k l : Nat) : (errBy d a b c g h i j k l).bandG = d.bandG := (errBy_only d a b c g h i j k l).bandG
@[simp] theorem errBy_lanes (a b c g : Nat) (h i : Option Nat) (j k l : Nat) : (errBy d a b c g h i j k l).lanes = d.lanes := (errBy_only d a b c g h i j k l).lanes
@[simp] theorem errBy_gov (a b c g : Nat) (h i : Option Nat) (j k l : Nat) : (errBy d a b c g h i j k l).gov = d.gov := (errBy_only d a b c g h i j k l).gov
@[simp] theorem errBy_sched (a b c g : Nat) (h i : Option Nat) (j k l : Nat) : (errBy d a b c g h i j k l).sched = d.sched := (errBy_only d a b c g h i j k l).sched
@[simp] theorem errBy_nbr (a b c g : Nat) (h i : Option Nat) (j k l : Nat) : (errBy d a b c g h i j k l).nbr = d.nbr := (errBy_only d a b c g h i j k l).nbr
@[simp] theorem errBy_fwd (a b c g : Nat) (h i : Option Nat) (j k l : Nat) : (errBy d a b c g h i j k l).fwd = d.fwd := (errBy_only d a b c g h i j k l).fwd
@[simp] theorem errBy_shp (a b c g : Nat) (h i : Option Nat) (j k l : Nat) : (errBy d a b c g h i j k l).shp = d.shp := (errBy_only d a b c g h i j k l).shp
@[simp] theorem errBy_bunting (a b c g : Nat) (h i : Option Nat) (j k l : Nat) : (errBy d a b c g h i j k l).bunting = d.bunting := (errBy_only d a b c g h i j k l).bunting
@[simp] theorem errBy_fw (a b c g : Nat) (h i : Option Nat) (j k l : Nat) : (errBy d a b c g h i j k l).fw = d.fw := (errBy_only d a b c g h i j k l).fw
@[simp] theorem errBy_can (a b c g : Nat) (h i : Option Nat) (j k l : Nat) : (errBy d a b c g h i j k l).can = d.can := (errBy_only d a b c g h i j k l).can
@[simp] theorem errBy_hier (a b c g : Nat) (h i : Option Nat) (j k l : Nat) : (errBy d a b c g h i j k l).hier = d.hier := (errBy_only d a b c g h i j k l).hier
@[simp] theorem errBy_qdl (a b c g : Nat) (h i : Option Nat) (j k l : Nat) : (errBy d a b c g h i j k l).qdl = d.qdl := (errBy_only d a b c g h i j k l).qdl
@[simp] theorem errBy_gpio (a b c g : Nat) (h i : Option Nat) (j k l : Nat) : (errBy d a b c g h i j k l).gpio = d.gpio := (errBy_only d a b c g h i j k l).gpio
@[simp] theorem errBy_ifs (a b c g : Nat) (h i : Option Nat) (j k l : Nat) : (errBy d a b c g h i j k l).ifs = d.ifs := (errBy_only d a b c g h i j k l).ifs
@[simp] theorem errBy_free (a b c g : Nat) (h i : Option Nat) (j k l : Nat) : (errBy d a b c g h i j k l).free = d.free := (errBy_only d a b c g h i j k l).free
@[simp] theorem errBy_out (a b c g : Nat) (h i : Option Nat) (j k l : Nat) : (errBy d a b c g h i j k l).out = d.out := (errBy_only d a b c g h i j k l).out
@[simp] theorem errBy_mode (a b c g : Nat) (h i : Option Nat) (j k l : Nat) : (errBy d a b c g h i j k l).pwr.mode = d.pwr.mode := (errBy_only d a b c g h i j k l).mode
@[simp] theorem errBy_entering (a b c g : Nat) (h i : Option Nat) (j k l : Nat) : (errBy d a b c g h i j k l).pwr.entering = d.pwr.entering := (errBy_only d a b c g h i j k l).entering
@[simp] theorem errBy_fullOnly (a b c g : Nat) (h i : Option Nat) (j k l : Nat) : (errBy d a b c g h i j k l).pwr.fullOnly = d.pwr.fullOnly := (errBy_only d a b c g h i j k l).fullOnly
@[simp] theorem errBy_baseFull (a b c g : Nat) (h i : Option Nat) (j k l : Nat) : (errBy d a b c g h i j k l).pwr.baseFull = d.pwr.baseFull := (errBy_only d a b c g h i j k l).baseFull
@[simp] theorem errBy_vcoreOn (a b c g : Nat) (h i : Option Nat) (j k l : Nat) : (errBy d a b c g h i j k l).pwr.vcoreOn = d.pwr.vcoreOn := (errBy_only d a b c g h i j k l).vcoreOn
@[simp] theorem errBy_faultCause (a b c g : Nat) (h i : Option Nat) (j k l : Nat) : (errBy d a b c g h i j k l).pwr.faultCause = d.pwr.faultCause := (errBy_only d a b c g h i j k l).faultCause

@[simp] theorem respond_cnt (i q : Nat) (v : Transport) (st : Status) (b : Body) : (respond d i q v st b).cnt = d.cnt := (respond_only d i q v st b).cnt
@[simp] theorem respond_rw (i q : Nat) (v : Transport) (st : Status) (b : Body) : (respond d i q v st b).rw = d.rw := (respond_only d i q v st b).rw
@[simp] theorem respond_clk (i q : Nat) (v : Transport) (st : Status) (b : Body) : (respond d i q v st b).clk = d.clk := (respond_only d i q v st b).clk
@[simp] theorem respond_ptp (i q : Nat) (v : Transport) (st : Status) (b : Body) : (respond d i q v st b).ptp = d.ptp := (respond_only d i q v st b).ptp
@[simp] theorem respond_pps (i q : Nat) (v : Transport) (st : Status) (b : Body) : (respond d i q v st b).pps = d.pps := (respond_only d i q v st b).pps
@[simp] theorem respond_pwr (i q : Nat) (v : Transport) (st : Status) (b : Body) : (respond d i q v st b).pwr = d.pwr := (respond_only d i q v st b).pwr
@[simp] theorem respond_start (i q : Nat) (v : Transport) (st : Status) (b : Body) : (respond d i q v st b).start = d.start := (respond_only d i q v st b).start
@[simp] theorem respond_nv (i q : Nat) (v : Transport) (st : Status) (b : Body) : (respond d i q v st b).nv = d.nv := (respond_only d i q v st b).nv
@[simp] theorem respond_ev (i q : Nat) (v : Transport) (st : Status) (b : Body) : (respond d i q v st b).ev = d.ev := (respond_only d i q v st b).ev
@[simp] theorem respond_err (i q : Nat) (v : Transport) (st : Status) (b : Body) : (respond d i q v st b).err = d.err := (respond_only d i q v st b).err
@[simp] theorem respond_tel (i q : Nat) (v : Transport) (st : Status) (b : Body) : (respond d i q v st b).tel = d.tel := (respond_only d i q v st b).tel
@[simp] theorem respond_store (i q : Nat) (v : Transport) (st : Status) (b : Body) : (respond d i q v st b).store = d.store := (respond_only d i q v st b).store
@[simp] theorem respond_queues (i q : Nat) (v : Transport) (st : Status) (b : Body) : (respond d i q v st b).queues = d.queues := (respond_only d i q v st b).queues
@[simp] theorem respond_timers (i q : Nat) (v : Transport) (st : Status) (b : Body) : (respond d i q v st b).timers = d.timers := (respond_only d i q v st b).timers
@[simp] theorem respond_tmSrc (i q : Nat) (v : Transport) (st : Status) (b : Body) : (respond d i q v st b).tmSrc = d.tmSrc := (respond_only d i q v st b).tmSrc
@[simp] theorem respond_halted (i q : Nat) (v : Transport) (st : Status) (b : Body) : (respond d i q v st b).halted = d.halted := (respond_only d i q v st b).halted
@[simp] theorem respond_bandSf (i q : Nat) (v : Transport) (st : Status) (b : Body) : (respond d i q v st b).bandSf = d.bandSf := (respond_only d i q v st b).bandSf
@[simp] theorem respond_bandG (i q : Nat) (v : Transport) (st : Status) (b : Body) : (respond d i q v st b).bandG = d.bandG := (respond_only d i q v st b).bandG
@[simp] theorem respond_lanes (i q : Nat) (v : Transport) (st : Status) (b : Body) : (respond d i q v st b).lanes = d.lanes := (respond_only d i q v st b).lanes
@[simp] theorem respond_gov (i q : Nat) (v : Transport) (st : Status) (b : Body) : (respond d i q v st b).gov = d.gov := (respond_only d i q v st b).gov
@[simp] theorem respond_sched (i q : Nat) (v : Transport) (st : Status) (b : Body) : (respond d i q v st b).sched = d.sched := (respond_only d i q v st b).sched
@[simp] theorem respond_nbr (i q : Nat) (v : Transport) (st : Status) (b : Body) : (respond d i q v st b).nbr = d.nbr := (respond_only d i q v st b).nbr
@[simp] theorem respond_fwd (i q : Nat) (v : Transport) (st : Status) (b : Body) : (respond d i q v st b).fwd = d.fwd := (respond_only d i q v st b).fwd
@[simp] theorem respond_shp (i q : Nat) (v : Transport) (st : Status) (b : Body) : (respond d i q v st b).shp = d.shp := (respond_only d i q v st b).shp
@[simp] theorem respond_bunting (i q : Nat) (v : Transport) (st : Status) (b : Body) : (respond d i q v st b).bunting = d.bunting := (respond_only d i q v st b).bunting
@[simp] theorem respond_fw (i q : Nat) (v : Transport) (st : Status) (b : Body) : (respond d i q v st b).fw = d.fw := (respond_only d i q v st b).fw
@[simp] theorem respond_can (i q : Nat) (v : Transport) (st : Status) (b : Body) : (respond d i q v st b).can = d.can := (respond_only d i q v st b).can
@[simp] theorem respond_hier (i q : Nat) (v : Transport) (st : Status) (b : Body) : (respond d i q v st b).hier = d.hier := (respond_only d i q v st b).hier
@[simp] theorem respond_gpio (i q : Nat) (v : Transport) (st : Status) (b : Body) : (respond d i q v st b).gpio = d.gpio := (respond_only d i q v st b).gpio
@[simp] theorem respond_free (i q : Nat) (v : Transport) (st : Status) (b : Body) : (respond d i q v st b).free = d.free := (respond_only d i q v st b).free

@[simp] theorem sendTo_cnt (i : Nat) (v : Transport) (o : Out) : (sendTo d i v o).cnt = d.cnt := (sendTo_only d i v o).cnt
@[simp] theorem sendTo_rw (i : Nat) (v : Transport) (o : Out) : (sendTo d i v o).rw = d.rw := (sendTo_only d i v o).rw
@[simp] theorem sendTo_clk (i : Nat) (v : Transport) (o : Out) : (sendTo d i v o).clk = d.clk := (sendTo_only d i v o).clk
@[simp] theorem sendTo_ptp (i : Nat) (v : Transport) (o : Out) : (sendTo d i v o).ptp = d.ptp := (sendTo_only d i v o).ptp
@[simp] theorem sendTo_pps (i : Nat) (v : Transport) (o : Out) : (sendTo d i v o).pps = d.pps := (sendTo_only d i v o).pps
@[simp] theorem sendTo_pwr (i : Nat) (v : Transport) (o : Out) : (sendTo d i v o).pwr = d.pwr := (sendTo_only d i v o).pwr
@[simp] theorem sendTo_start (i : Nat) (v : Transport) (o : Out) : (sendTo d i v o).start = d.start := (sendTo_only d i v o).start
@[simp] theorem sendTo_nv (i : Nat) (v : Transport) (o : Out) : (sendTo d i v o).nv = d.nv := (sendTo_only d i v o).nv
@[simp] theorem sendTo_ev (i : Nat) (v : Transport) (o : Out) : (sendTo d i v o).ev = d.ev := (sendTo_only d i v o).ev
@[simp] theorem sendTo_err (i : Nat) (v : Transport) (o : Out) : (sendTo d i v o).err = d.err := (sendTo_only d i v o).err
@[simp] theorem sendTo_tel (i : Nat) (v : Transport) (o : Out) : (sendTo d i v o).tel = d.tel := (sendTo_only d i v o).tel
@[simp] theorem sendTo_store (i : Nat) (v : Transport) (o : Out) : (sendTo d i v o).store = d.store := (sendTo_only d i v o).store
@[simp] theorem sendTo_queues (i : Nat) (v : Transport) (o : Out) : (sendTo d i v o).queues = d.queues := (sendTo_only d i v o).queues
@[simp] theorem sendTo_timers (i : Nat) (v : Transport) (o : Out) : (sendTo d i v o).timers = d.timers := (sendTo_only d i v o).timers
@[simp] theorem sendTo_tmSrc (i : Nat) (v : Transport) (o : Out) : (sendTo d i v o).tmSrc = d.tmSrc := (sendTo_only d i v o).tmSrc
@[simp] theorem sendTo_halted (i : Nat) (v : Transport) (o : Out) : (sendTo d i v o).halted = d.halted := (sendTo_only d i v o).halted
@[simp] theorem sendTo_bandSf (i : Nat) (v : Transport) (o : Out) : (sendTo d i v o).bandSf = d.bandSf := (sendTo_only d i v o).bandSf
@[simp] theorem sendTo_bandG (i : Nat) (v : Transport) (o : Out) : (sendTo d i v o).bandG = d.bandG := (sendTo_only d i v o).bandG
@[simp] theorem sendTo_lanes (i : Nat) (v : Transport) (o : Out) : (sendTo d i v o).lanes = d.lanes := (sendTo_only d i v o).lanes
@[simp] theorem sendTo_gov (i : Nat) (v : Transport) (o : Out) : (sendTo d i v o).gov = d.gov := (sendTo_only d i v o).gov
@[simp] theorem sendTo_sched (i : Nat) (v : Transport) (o : Out) : (sendTo d i v o).sched = d.sched := (sendTo_only d i v o).sched
@[simp] theorem sendTo_nbr (i : Nat) (v : Transport) (o : Out) : (sendTo d i v o).nbr = d.nbr := (sendTo_only d i v o).nbr
@[simp] theorem sendTo_fwd (i : Nat) (v : Transport) (o : Out) : (sendTo d i v o).fwd = d.fwd := (sendTo_only d i v o).fwd
@[simp] theorem sendTo_shp (i : Nat) (v : Transport) (o : Out) : (sendTo d i v o).shp = d.shp := (sendTo_only d i v o).shp
@[simp] theorem sendTo_bunting (i : Nat) (v : Transport) (o : Out) : (sendTo d i v o).bunting = d.bunting := (sendTo_only d i v o).bunting
@[simp] theorem sendTo_fw (i : Nat) (v : Transport) (o : Out) : (sendTo d i v o).fw = d.fw := (sendTo_only d i v o).fw
@[simp] theorem sendTo_can (i : Nat) (v : Transport) (o : Out) : (sendTo d i v o).can = d.can := (sendTo_only d i v o).can
@[simp] theorem sendTo_hier (i : Nat) (v : Transport) (o : Out) : (sendTo d i v o).hier = d.hier := (sendTo_only d i v o).hier
@[simp] theorem sendTo_gpio (i : Nat) (v : Transport) (o : Out) : (sendTo d i v o).gpio = d.gpio := (sendTo_only d i v o).gpio
@[simp] theorem sendTo_free (i : Nat) (v : Transport) (o : Out) : (sendTo d i v o).free = d.free := (sendTo_only d i v o).free

@[simp] theorem reach_cnt (t : Nat) : (reach d t).cnt = d.cnt := (reach_only d t).cnt
@[simp] theorem reach_rw (t : Nat) : (reach d t).rw = d.rw := (reach_only d t).rw
@[simp] theorem reach_ptp (t : Nat) : (reach d t).ptp = d.ptp := (reach_only d t).ptp
@[simp] theorem reach_pps (t : Nat) : (reach d t).pps = d.pps := (reach_only d t).pps
@[simp] theorem reach_pwr (t : Nat) : (reach d t).pwr = d.pwr := (reach_only d t).pwr
@[simp] theorem reach_start (t : Nat) : (reach d t).start = d.start := (reach_only d t).start
@[simp] theorem reach_nv (t : Nat) : (reach d t).nv = d.nv := (reach_only d t).nv
@[simp] theorem reach_ev (t : Nat) : (reach d t).ev = d.ev := (reach_only d t).ev
@[simp] theorem reach_err (t : Nat) : (reach d t).err = d.err := (reach_only d t).err
@[simp] theorem reach_tel (t : Nat) : (reach d t).tel = d.tel := (reach_only d t).tel
@[simp] theorem reach_store (t : Nat) : (reach d t).store = d.store := (reach_only d t).store
@[simp] theorem reach_queues (t : Nat) : (reach d t).queues = d.queues := (reach_only d t).queues
@[simp] theorem reach_halted (t : Nat) : (reach d t).halted = d.halted := (reach_only d t).halted
@[simp] theorem reach_bandSf (t : Nat) : (reach d t).bandSf = d.bandSf := (reach_only d t).bandSf
@[simp] theorem reach_bandG (t : Nat) : (reach d t).bandG = d.bandG := (reach_only d t).bandG
@[simp] theorem reach_lanes (t : Nat) : (reach d t).lanes = d.lanes := (reach_only d t).lanes
@[simp] theorem reach_gov (t : Nat) : (reach d t).gov = d.gov := (reach_only d t).gov
@[simp] theorem reach_sched (t : Nat) : (reach d t).sched = d.sched := (reach_only d t).sched
@[simp] theorem reach_fwd (t : Nat) : (reach d t).fwd = d.fwd := (reach_only d t).fwd
@[simp] theorem reach_bunting (t : Nat) : (reach d t).bunting = d.bunting := (reach_only d t).bunting
@[simp] theorem reach_fw (t : Nat) : (reach d t).fw = d.fw := (reach_only d t).fw
@[simp] theorem reach_can (t : Nat) : (reach d t).can = d.can := (reach_only d t).can
@[simp] theorem reach_hier (t : Nat) : (reach d t).hier = d.hier := (reach_only d t).hier
@[simp] theorem reach_qdl (t : Nat) : (reach d t).qdl = d.qdl := (reach_only d t).qdl
@[simp] theorem reach_gpio (t : Nat) : (reach d t).gpio = d.gpio := (reach_only d t).gpio
@[simp] theorem reach_ifs (t : Nat) : (reach d t).ifs = d.ifs := (reach_only d t).ifs
@[simp] theorem reach_free (t : Nat) : (reach d t).free = d.free := (reach_only d t).free
@[simp] theorem reach_out (t : Nat) : (reach d t).out = d.out := (reach_only d t).out

@[simp] theorem reachTb_cnt (v : Int) : (reachTb d v).cnt = d.cnt := (reachTb_only d v).cnt
@[simp] theorem reachTb_rw (v : Int) : (reachTb d v).rw = d.rw := (reachTb_only d v).rw
@[simp] theorem reachTb_ptp (v : Int) : (reachTb d v).ptp = d.ptp := (reachTb_only d v).ptp
@[simp] theorem reachTb_pps (v : Int) : (reachTb d v).pps = d.pps := (reachTb_only d v).pps
@[simp] theorem reachTb_pwr (v : Int) : (reachTb d v).pwr = d.pwr := (reachTb_only d v).pwr
@[simp] theorem reachTb_start (v : Int) : (reachTb d v).start = d.start := (reachTb_only d v).start
@[simp] theorem reachTb_nv (v : Int) : (reachTb d v).nv = d.nv := (reachTb_only d v).nv
@[simp] theorem reachTb_ev (v : Int) : (reachTb d v).ev = d.ev := (reachTb_only d v).ev
@[simp] theorem reachTb_err (v : Int) : (reachTb d v).err = d.err := (reachTb_only d v).err
@[simp] theorem reachTb_tel (v : Int) : (reachTb d v).tel = d.tel := (reachTb_only d v).tel
@[simp] theorem reachTb_store (v : Int) : (reachTb d v).store = d.store := (reachTb_only d v).store
@[simp] theorem reachTb_queues (v : Int) : (reachTb d v).queues = d.queues := (reachTb_only d v).queues
@[simp] theorem reachTb_halted (v : Int) : (reachTb d v).halted = d.halted := (reachTb_only d v).halted
@[simp] theorem reachTb_bandSf (v : Int) : (reachTb d v).bandSf = d.bandSf := (reachTb_only d v).bandSf
@[simp] theorem reachTb_bandG (v : Int) : (reachTb d v).bandG = d.bandG := (reachTb_only d v).bandG
@[simp] theorem reachTb_lanes (v : Int) : (reachTb d v).lanes = d.lanes := (reachTb_only d v).lanes
@[simp] theorem reachTb_gov (v : Int) : (reachTb d v).gov = d.gov := (reachTb_only d v).gov
@[simp] theorem reachTb_sched (v : Int) : (reachTb d v).sched = d.sched := (reachTb_only d v).sched
@[simp] theorem reachTb_fwd (v : Int) : (reachTb d v).fwd = d.fwd := (reachTb_only d v).fwd
@[simp] theorem reachTb_bunting (v : Int) : (reachTb d v).bunting = d.bunting := (reachTb_only d v).bunting
@[simp] theorem reachTb_fw (v : Int) : (reachTb d v).fw = d.fw := (reachTb_only d v).fw
@[simp] theorem reachTb_can (v : Int) : (reachTb d v).can = d.can := (reachTb_only d v).can
@[simp] theorem reachTb_hier (v : Int) : (reachTb d v).hier = d.hier := (reachTb_only d v).hier
@[simp] theorem reachTb_qdl (v : Int) : (reachTb d v).qdl = d.qdl := (reachTb_only d v).qdl
@[simp] theorem reachTb_gpio (v : Int) : (reachTb d v).gpio = d.gpio := (reachTb_only d v).gpio
@[simp] theorem reachTb_ifs (v : Int) : (reachTb d v).ifs = d.ifs := (reachTb_only d v).ifs
@[simp] theorem reachTb_free (v : Int) : (reachTb d v).free = d.free := (reachTb_only d v).free
@[simp] theorem reachTb_out (v : Int) : (reachTb d v).out = d.out := (reachTb_only d v).out

@[simp] theorem timePasses_cnt (n : Nat) : (timePasses d n).cnt = d.cnt := (timePasses_only d n).cnt
@[simp] theorem timePasses_rw (n : Nat) : (timePasses d n).rw = d.rw := (timePasses_only d n).rw
@[simp] theorem timePasses_ptp (n : Nat) : (timePasses d n).ptp = d.ptp := (timePasses_only d n).ptp
@[simp] theorem timePasses_pps (n : Nat) : (timePasses d n).pps = d.pps := (timePasses_only d n).pps
@[simp] theorem timePasses_pwr (n : Nat) : (timePasses d n).pwr = d.pwr := (timePasses_only d n).pwr
@[simp] theorem timePasses_start (n : Nat) : (timePasses d n).start = d.start := (timePasses_only d n).start
@[simp] theorem timePasses_nv (n : Nat) : (timePasses d n).nv = d.nv := (timePasses_only d n).nv
@[simp] theorem timePasses_ev (n : Nat) : (timePasses d n).ev = d.ev := (timePasses_only d n).ev
@[simp] theorem timePasses_err (n : Nat) : (timePasses d n).err = d.err := (timePasses_only d n).err
@[simp] theorem timePasses_tel (n : Nat) : (timePasses d n).tel = d.tel := (timePasses_only d n).tel
@[simp] theorem timePasses_store (n : Nat) : (timePasses d n).store = d.store := (timePasses_only d n).store
@[simp] theorem timePasses_queues (n : Nat) : (timePasses d n).queues = d.queues := (timePasses_only d n).queues
@[simp] theorem timePasses_halted (n : Nat) : (timePasses d n).halted = d.halted := (timePasses_only d n).halted
@[simp] theorem timePasses_bandSf (n : Nat) : (timePasses d n).bandSf = d.bandSf := (timePasses_only d n).bandSf
@[simp] theorem timePasses_bandG (n : Nat) : (timePasses d n).bandG = d.bandG := (timePasses_only d n).bandG
@[simp] theorem timePasses_lanes (n : Nat) : (timePasses d n).lanes = d.lanes := (timePasses_only d n).lanes
@[simp] theorem timePasses_gov (n : Nat) : (timePasses d n).gov = d.gov := (timePasses_only d n).gov
@[simp] theorem timePasses_sched (n : Nat) : (timePasses d n).sched = d.sched := (timePasses_only d n).sched
@[simp] theorem timePasses_fwd (n : Nat) : (timePasses d n).fwd = d.fwd := (timePasses_only d n).fwd
@[simp] theorem timePasses_bunting (n : Nat) : (timePasses d n).bunting = d.bunting := (timePasses_only d n).bunting
@[simp] theorem timePasses_fw (n : Nat) : (timePasses d n).fw = d.fw := (timePasses_only d n).fw
@[simp] theorem timePasses_can (n : Nat) : (timePasses d n).can = d.can := (timePasses_only d n).can
@[simp] theorem timePasses_hier (n : Nat) : (timePasses d n).hier = d.hier := (timePasses_only d n).hier
@[simp] theorem timePasses_qdl (n : Nat) : (timePasses d n).qdl = d.qdl := (timePasses_only d n).qdl
@[simp] theorem timePasses_gpio (n : Nat) : (timePasses d n).gpio = d.gpio := (timePasses_only d n).gpio
@[simp] theorem timePasses_ifs (n : Nat) : (timePasses d n).ifs = d.ifs := (timePasses_only d n).ifs
@[simp] theorem timePasses_free (n : Nat) : (timePasses d n).free = d.free := (timePasses_only d n).free
@[simp] theorem timePasses_out (n : Nat) : (timePasses d n).out = d.out := (timePasses_only d n).out

@[simp] theorem commitNv_rw (n b : Nat) (l : List Nat) : (commitNv d n b l).1.rw = d.rw := (commitNv_only d n b l).rw
@[simp] theorem commitNv_clk (n b : Nat) (l : List Nat) : (commitNv d n b l).1.clk = d.clk := (commitNv_only d n b l).clk
@[simp] theorem commitNv_ptp (n b : Nat) (l : List Nat) : (commitNv d n b l).1.ptp = d.ptp := (commitNv_only d n b l).ptp
@[simp] theorem commitNv_pps (n b : Nat) (l : List Nat) : (commitNv d n b l).1.pps = d.pps := (commitNv_only d n b l).pps
@[simp] theorem commitNv_pwr (n b : Nat) (l : List Nat) : (commitNv d n b l).1.pwr = d.pwr := (commitNv_only d n b l).pwr
@[simp] theorem commitNv_start (n b : Nat) (l : List Nat) : (commitNv d n b l).1.start = d.start := (commitNv_only d n b l).start
@[simp] theorem commitNv_ev (n b : Nat) (l : List Nat) : (commitNv d n b l).1.ev = d.ev := (commitNv_only d n b l).ev
@[simp] theorem commitNv_err (n b : Nat) (l : List Nat) : (commitNv d n b l).1.err = d.err := (commitNv_only d n b l).err
@[simp] theorem commitNv_tel (n b : Nat) (l : List Nat) : (commitNv d n b l).1.tel = d.tel := (commitNv_only d n b l).tel
@[simp] theorem commitNv_store (n b : Nat) (l : List Nat) : (commitNv d n b l).1.store = d.store := (commitNv_only d n b l).store
@[simp] theorem commitNv_queues (n b : Nat) (l : List Nat) : (commitNv d n b l).1.queues = d.queues := (commitNv_only d n b l).queues
@[simp] theorem commitNv_timers (n b : Nat) (l : List Nat) : (commitNv d n b l).1.timers = d.timers := (commitNv_only d n b l).timers
@[simp] theorem commitNv_tmSrc (n b : Nat) (l : List Nat) : (commitNv d n b l).1.tmSrc = d.tmSrc := (commitNv_only d n b l).tmSrc
@[simp] theorem commitNv_halted (n b : Nat) (l : List Nat) : (commitNv d n b l).1.halted = d.halted := (commitNv_only d n b l).halted
@[simp] theorem commitNv_bandSf (n b : Nat) (l : List Nat) : (commitNv d n b l).1.bandSf = d.bandSf := (commitNv_only d n b l).bandSf
@[simp] theorem commitNv_bandG (n b : Nat) (l : List Nat) : (commitNv d n b l).1.bandG = d.bandG := (commitNv_only d n b l).bandG
@[simp] theorem commitNv_lanes (n b : Nat) (l : List Nat) : (commitNv d n b l).1.lanes = d.lanes := (commitNv_only d n b l).lanes
@[simp] theorem commitNv_gov (n b : Nat) (l : List Nat) : (commitNv d n b l).1.gov = d.gov := (commitNv_only d n b l).gov
@[simp] theorem commitNv_sched (n b : Nat) (l : List Nat) : (commitNv d n b l).1.sched = d.sched := (commitNv_only d n b l).sched
@[simp] theorem commitNv_nbr (n b : Nat) (l : List Nat) : (commitNv d n b l).1.nbr = d.nbr := (commitNv_only d n b l).nbr
@[simp] theorem commitNv_fwd (n b : Nat) (l : List Nat) : (commitNv d n b l).1.fwd = d.fwd := (commitNv_only d n b l).fwd
@[simp] theorem commitNv_shp (n b : Nat) (l : List Nat) : (commitNv d n b l).1.shp = d.shp := (commitNv_only d n b l).shp
@[simp] theorem commitNv_bunting (n b : Nat) (l : List Nat) : (commitNv d n b l).1.bunting = d.bunting := (commitNv_only d n b l).bunting
@[simp] theorem commitNv_fw (n b : Nat) (l : List Nat) : (commitNv d n b l).1.fw = d.fw := (commitNv_only d n b l).fw
@[simp] theorem commitNv_can (n b : Nat) (l : List Nat) : (commitNv d n b l).1.can = d.can := (commitNv_only d n b l).can
@[simp] theorem commitNv_hier (n b : Nat) (l : List Nat) : (commitNv d n b l).1.hier = d.hier := (commitNv_only d n b l).hier
@[simp] theorem commitNv_qdl (n b : Nat) (l : List Nat) : (commitNv d n b l).1.qdl = d.qdl := (commitNv_only d n b l).qdl
@[simp] theorem commitNv_gpio (n b : Nat) (l : List Nat) : (commitNv d n b l).1.gpio = d.gpio := (commitNv_only d n b l).gpio
@[simp] theorem commitNv_ifs (n b : Nat) (l : List Nat) : (commitNv d n b l).1.ifs = d.ifs := (commitNv_only d n b l).ifs
@[simp] theorem commitNv_out (n b : Nat) (l : List Nat) : (commitNv d n b l).1.out = d.out := (commitNv_only d n b l).out
@[simp] theorem commitNv_nv_rp (n b : Nat) (l : List Nat) : (commitNv d n b l).1.nv.rp = d.nv.rp := (commitNv_only d n b l).rp
end Sys2Proof.Machine
end

