-- ==== Sys2Proof/Laws/Keeps.lean ====
section
/-!
SUPPORT. The frames of `touches`: they compose, and each shared operation (events, error records, responses, commits, the passing of time,
modes) keeps every part but its own.
-/
namespace Sys2Proof

open Machine

theorem Part.same_refl (p : Part) (a : Dev) : p.same a a := by cases p <;> simp [Part.same]

theorem Part.same_trans {p : Part} {a b c : Dev} (h : p.same a b) (k : p.same b c) : p.same a c := by
  cases p <;> simp only [Part.same] at * <;> first | exact h.trans k | exact ⟨h.1.trans k.1, h.2.trans k.2⟩

theorem keepsBut_refl (l : List Part) (a : Dev) : keepsBut l a a := fun p _ => p.same_refl a

/-- A frame holds of every larger list. -/
theorem keepsBut_mono {l m : List Part} {a b : Dev} (h : keepsBut l a b) (s : ∀ p ∈ l, p ∈ m) : keepsBut m a b :=
  fun p hp => h p (fun k => hp (s p k))

/-- Frames compose. -/
theorem keepsBut_trans {l : List Part} {a b c : Dev} (h : keepsBut l a b) (k : keepsBut l b c) : keepsBut l a c :=
  fun p hp => Part.same_trans (h p hp) (k p hp)

theorem keepsBut_ite {l : List Part} {a b c : Dev} {q : Prop} [Decidable q] (h : keepsBut l a b) (k : keepsBut l a c) :
    keepsBut l a (if q then b else c) := by split <;> assumption

/-- A frame that holds of every element's step holds of the fold. -/
theorem keepsBut_foldl {α : Type} {l : List Part} {f : Dev → α → Dev} (h : ∀ d x, keepsBut l d (f d x)) (xs : List α) :
    ∀ d, keepsBut l d (xs.foldl f d) := by
  induction xs with
  | nil => exact keepsBut_refl l
  | cons x t ih => exact fun d => keepsBut_trans (h d x) (ih _)

theorem keepsBut_any (a b : Dev) : keepsBut anyPart a b := by
  intro p hp
  exact absurd (by cases p <;> decide) hp

/-! ## The shared operations -/

theorem keeps_of_evOnly {d e : Dev} (h : EvOnly d e) : keepsBut [.domains, .cnt, .ev, .queues] d e := by
  intro p hp
  have w : { d.pwr with domains := 0, meshOk := false } = ({ e.pwr with domains := 0, meshOk := false } : PwrState) := by rw [h.pwr]
  have m : d.pwr.meshOk = e.pwr.meshOk := by rw [h.pwr]
  cases p <;> simp at hp <;> first
    | exact w
    | exact m
    | simp [Part.same, h.rw, h.clk, h.ptp, h.pps, h.start, h.nv, h.err, h.tel, h.store, h.timers, h.tmSrc, h.halted, h.bandSf,
    h.bandG, h.lanes, h.gov, h.sched, h.nbr, h.fwd, h.shp, h.bunting, h.fw, h.can, h.hier, h.qdl, h.gpio, h.ifs, h.free, h.out]

theorem keeps_of_errOnly {d e : Dev} (h : ErrOnly d e) : keepsBut [.domains, .cnt, .ev, .err, .store, .queues] d e := by
  intro p hp
  have w : { d.pwr with domains := 0, meshOk := false } = ({ e.pwr with domains := 0, meshOk := false } : PwrState) := by rw [h.pwr]
  have m : d.pwr.meshOk = e.pwr.meshOk := by rw [h.pwr]
  cases p <;> simp at hp <;> first
    | exact w
    | exact m
    | simp [Part.same, h.rw, h.clk, h.ptp, h.pps, h.start, h.nv, h.tel, h.timers, h.tmSrc, h.halted, h.bandSf,
    h.bandG, h.lanes, h.gov, h.sched, h.nbr, h.fwd, h.shp, h.bunting, h.fw, h.can, h.hier, h.qdl, h.gpio, h.ifs, h.free, h.out]

theorem keeps_of_sentOnly {d e : Dev} (h : SentOnly d e) : keepsBut [.qdl, .ifs, .out] d e := by
  intro p hp
  cases p <;> simp at hp <;> simp [Part.same, h.cnt, h.rw, h.clk, h.ptp, h.pps, h.pwr, h.start, h.nv, h.ev, h.err, h.tel, h.store, h.queues, h.timers, h.tmSrc,
    h.halted, h.bandSf, h.bandG, h.lanes, h.gov, h.sched, h.nbr, h.fwd, h.shp, h.bunting, h.fw, h.can, h.hier, h.gpio, h.free]

theorem keeps_of_nvOnly {d e : Dev} (h : NvOnly d e) : keepsBut [.cnt, .nv, .free] d e := by
  intro p hp
  cases p <;> simp at hp <;> simp [Part.same, h.rw, h.clk, h.ptp, h.pps, h.pwr, h.start, h.ev, h.err, h.tel, h.store, h.queues, h.timers, h.tmSrc,
    h.halted, h.bandSf, h.bandG, h.lanes, h.gov, h.sched, h.nbr, h.fwd, h.shp, h.bunting, h.fw, h.can, h.hier, h.qdl, h.gpio, h.ifs, h.out]

theorem raise_keeps (d : Dev) (e x : Nat) : keepsBut [.domains, .cnt, .ev, .queues] d (raise d e x) := keeps_of_evOnly (raise_only d e x)

theorem raiseRate_keeps (d : Dev) (e i n p : Nat) (f : Nat → Nat) : keepsBut [.domains, .cnt, .ev, .queues] d (raiseRate d e i n p f) :=
  keeps_of_evOnly (raiseRate_only d e i n p f)

theorem count_keeps (d : Dev) (k : Nat) : keepsBut [.cnt] d (count d k) := by
  intro p hp
  cases p <;> simp at hp <;> first | exact rfl | exact And.intro rfl rfl

theorem push_keeps (d : Dev) (q : Nat) (x : Desc) : keepsBut [.domains, .cnt, .ev, .err, .store, .queues] d (push d q x).1 :=
  keeps_of_errOnly (push_only d q x)

theorem respond_keeps (d : Dev) (i q : Nat) (v : Transport) (st : Status) (b : Body) : keepsBut [.qdl, .ifs, .out] d (respond d i q v st b) :=
  keeps_of_sentOnly (respond_only d i q v st b)

theorem commitNv_keeps (d : Dev) (n b : Nat) (l : List Nat) : keepsBut [.cnt, .nv, .free] d (commitNv d n b l).1 :=
  keeps_of_nvOnly (commitNv_only d n b l)

theorem settle_keeps (p : Perm) (d : Dev) : keepsBut [.domains, .meshOk, .cnt, .ev, .queues] d (settle p d) := by
  have h : keepsBut [.meshOk] d { d with pwr := { d.pwr with meshOk := meshCondition p d && !d.ifs.extest } } := by
    intro q hq
    cases q <;> simp at hq <;> first | exact rfl | exact And.intro rfl rfl
  exact keepsBut_trans (keepsBut_mono h (by decide)) (keepsBut_mono (keeps_of_evOnly (settle_only p d)) (by decide))

/-! ## The passing of time -/

theorem upd_map {α β : Type} (g : α → β) (f : α → α) (h : ∀ a, g (f a) = g a) (z : α) :
    ∀ (l : List α) (i : Nat), i < l.length → (upd l i f z).map g = l.map g := by
  intro l
  induction l with
  | nil => intro i hi; exact absurd hi (Nat.not_lt_zero i)
  | cons a t ih =>
    intro i hi
    cases i with
    | zero => simp [upd, h]
    | succ n => simp [upd, ih n (by simpa using hi)]

theorem nth_beyond {α : Type} (z : α) (l : List α) (i : Nat) (h : ¬ i < l.length) : nth l i z = z := by
  simp [nth, List.getElem?_eq_none (Nat.le_of_not_lt h)]

/-- A timer with what its ticks bring taken away (R527, R528). -/
def Machine.Timer.still (t : Timer) : Timer := { t with count := 0, run := false, expired := false, expiries := 0, deferred := [] }

/-- A change of one timer of the list in what its ticks bring. -/
def ticksOne (d e : Dev) (a : Nat) : Prop := a < d.timers.length → keepsBut [.counts] d e ∧ e.timers.length = d.timers.length

theorem ticksOne_refl (d : Dev) (a : Nat) : ticksOne d d a := fun _ => ⟨keepsBut_refl _ d, rfl⟩

theorem ticksOne_trans {d e f : Dev} {a : Nat} (h : ticksOne d e a) (k : ticksOne e f a) : ticksOne d f a := by
  intro hl
  obtain ⟨h1, h2⟩ := h hl
  obtain ⟨k1, k2⟩ := k (by omega)
  exact ⟨keepsBut_trans h1 k1, by omega⟩

theorem ticksOne_ite {d e f : Dev} {a : Nat} {c : Prop} [Decidable c] (h : ticksOne d e a) (k : ticksOne d f a) :
    ticksOne d (if c then e else f) a := by split <;> assumption

theorem updTimer_ticksOne (d : Dev) (a : Nat) (f : Timer → Timer) (hf : ∀ t, (f t).still = t.still) : ticksOne d (updTimer d a f) a := by
  intro hl
  have hm := upd_map Timer.still f hf {} d.timers a hl
  constructor
  · intro p hp
    have ht : d.timers.map (fun t => (t.capture, t.capNew, t.overrun, t.wrap)) =
        (updTimer d a f).timers.map (fun t => (t.capture, t.capNew, t.overrun, t.wrap)) := by
      have := congrArg (List.map (fun t : Timer => (t.capture, t.capNew, t.overrun, t.wrap))) hm
      simpa [List.map_map, Function.comp_def, Timer.still, updTimer] using this.symm
    cases p <;> simp at hp <;> first | exact ht | exact rfl | exact And.intro rfl rfl
  · simpa [updTimer] using congrArg List.length hm

theorem countTo_ticksOne (k : Nat) (d : Dev) (a : Nat) : ticksOne d (countTo k d a) a := by
  unfold countTo; exact ticksOne_ite (ticksOne_refl _ _) (updTimer_ticksOne _ _ _ (fun _ => rfl))

theorem applyDeferred_ticksOne (d : Dev) (a : Nat) : ticksOne d (applyDeferred d a) a := by
  have h (l : List Bool) : ∀ x : Dev, ticksOne x (l.foldl (fun x arm => if arm then armNow x a else stopNow x a) x) a := by
    induction l with
    | nil => exact fun x => ticksOne_refl x a
    | cons b t ih =>
      intro x
      refine ticksOne_trans ?_ (ih _)
      exact ticksOne_ite (updTimer_ticksOne _ _ _ (fun _ => rfl)) (updTimer_ticksOne _ _ _ (fun _ => rfl))
  unfold applyDeferred
  refine ticksOne_ite (ticksOne_refl _ _) (ticksOne_trans ?_ (h _ _))
  exact updTimer_ticksOne _ _ _ (fun _ => rfl)

theorem timerWait_keeps (n : Nat) (d : Dev) (a : Nat) : keepsBut [.counts] d (timerWait n d a) := by
  by_cases hl : a < d.timers.length
  · have h : ticksOne d (timerWait n d a) a := by
      unfold timerWait
      exact ticksOne_ite (ticksOne_refl _ _) (ticksOne_ite (countTo_ticksOne _ _ _)
        (ticksOne_trans (ticksOne_trans (countTo_ticksOne _ _ _) (applyDeferred_ticksOne _ _)) (countTo_ticksOne _ _ _)))
    exact (h hl).1
  · have ht : timer d a = {} := by unfold timer; exact nth_beyond _ _ _ hl
    have h : timerWait n d a = d := by unfold timerWait countTo; simp [ht]
    rw [h]; exact keepsBut_refl _ d

theorem srcPass_keeps (d : Dev) (n : Nat) : keepsBut [.counts] d (srcPass d n) := by
  unfold srcPass; split
  · intro p hp
    cases p <;> simp at hp <;> first | exact rfl | exact And.intro rfl rfl
  · exact keepsBut_refl _ d

theorem timePasses_keeps (d : Dev) (n : Nat) : keepsBut [.slew, .credits, .counts] d (timePasses d n) := by
  have h : keepsBut [.slew, .credits, .counts] d (creditPass (slewPass d n) n) := by
    intro p hp
    cases p <;> simp at hp <;> exact rfl
  exact keepsBut_trans (keepsBut_trans h (keepsBut_foldl (fun x a => keepsBut_mono (timerWait_keeps n x a) (by decide)) _ _))
    (keepsBut_mono (srcPass_keeps _ n) (by decide))

/-- What carrying the clock to an instant can do (log 11). -/
theorem reach_keeps (d : Dev) (t : Nat) : keepsBut [.slew, .credits, .counts, .clk] d (reach d t) := by
  have h (x : Dev) (y : ClkState) : keepsBut [.slew, .credits, .counts, .clk] x { x with clk := y } := by
    intro p hp
    cases p <;> simp at hp <;> exact rfl
  unfold reach; split
  · exact keepsBut_refl _ d
  · exact keepsBut_trans (keepsBut_mono (timePasses_keeps d _) (by decide)) (h _ _)

theorem reachTb_keeps (d : Dev) (v : Int) : keepsBut [.slew, .credits, .counts, .clk] d (reachTb d v) := reach_keeps d _

end Sys2Proof
end

