-- ==== Sys2Proof/Laws/Requests.lean ====
section
/-!
SUPPORT. What serving a request does, said once: a request that is taken up runs its command on the device that has heard it, and its
response is sent and kept (R43, R44, R50, R610).
-/
namespace Sys2Proof

open Machine

theorem findKey_modKey {α : Type} (key : α → Nat) (k : Nat) (f : α → α) (hf : ∀ a, key (f a) = key a) (l : List α) :
    findKey key k (modKey key k f l) = (findKey key k l).map f := by
  induction l with
  | nil => rfl
  | cons a t ih =>
    simp only [modKey, List.map_cons, findKey] at ih ⊢
    by_cases h : key a = k
    · simp [h, hf]
    · simp only [h, if_false]
      exact ih

theorem session_updSession (d : Dev) (i : Nat) (f : Session → Session) (hf : ∀ x, (f x).id = x.id) :
    session (updSession d i f) i = (session d i).map f := findKey_modKey _ i f hf _

theorem session_of_sessionOn {d : Dev} {t : Transport} {i : Nat} {x : Session} (h : sessionOn d t i = some x) : session d i = some x := by
  unfold sessionOn at h
  split at h
  · rename_i y hy
    split at h
    · rw [hy, h]
    · exact nomatch h
  · exact nomatch h

/-- While a session's requests wait for nothing, no earlier request of it is in Q5, behind a relay or with one. -/
theorem nothing_waits {d : Dev} {i : Nat} (h : requestsWait d i = false) :
    q5Waits d = false ∧ waiting d i = [] ∧ ∀ q, d.qdl.relays.any (fun y => decide (y.session = some i) && decide (y.seq = q)) = false := by
  unfold requestsWait relaying at h
  simp only [Bool.or_eq_false_iff] at h
  obtain ⟨⟨h5, hr⟩, hh⟩ := h
  refine ⟨h5, ?_, fun q => ?_⟩
  · unfold q5Waits at h5
    rw [Bool.or_eq_false_iff] at h5
    unfold waiting inQ5
    rw [List.append_eq_nil_iff, List.filterMap_eq_nil_iff, List.map_eq_nil_iff, List.filter_eq_nil_iff]
    refine ⟨fun y hy => ?_, List.any_eq_false.mp hh⟩
    have := List.any_eq_false.mp h5.2 y hy
    unfold isRequest at this
    split
    · rename_i hb
      rw [hb] at this
      exact absurd rfl this
    · rfl
  · rw [List.any_eq_false] at hr ⊢
    intro y hy hc
    exact hr y hy (by simp only [Bool.and_eq_true] at hc; exact hc.1)

/-- A request that is taken up is executed in its session, on the device that has heard it. -/
theorem serve_takesUp {d : Dev} {r : Req} (i : Inner) (run : Session → Dev → Served) (h : takesUp d r = true) :
    ∃ x, session d r.session = some x ∧ x.level = levelOf d r ∧ keptOf x r.seq = none ∧
      serve i r run d = execute x r run d (heard d r) := by
  unfold takesUp at h
  unfold levelOf
  cases hs : sessionOn d r.head.via r.session with
  | none => simp [hs] at h
  | some x =>
    simp only [hs, Bool.and_eq_true, Bool.not_eq_true', Option.isNone_iff_eq_none] at h
    obtain ⟨⟨⟨ha, hg⟩, hw⟩, ⟨⟨hf, ht⟩, hk⟩, hst⟩ := h
    have hx := session_of_sessionOn hs
    refine ⟨x, hx, by rw [hx], hk, ?_⟩
    have hw' : requestsWait (heard d r) r.session = false := hw
    obtain ⟨_, hn, hr⟩ := nothing_waits hw
    have ht' : (x.auth && !tagOk x r) = false := by cases hy : x.auth <;> simp_all
    unfold serve serveSound
    simp only [ha, hg, hs, hf, ht', hk, hr r.seq, hn, hst, Bool.not_true, List.any_nil, Bool.or_self, Bool.false_eq_true, if_false]
    change (if requestsWait (heard d r) r.session = true then _ else _) = _
    simp only [hw', Bool.false_eq_true, if_false]
    rfl

/-- An EXEC request that passes the checks before the command's own, and that the command does not find malformed, is answered with the
command's STATUS and RESULT. -/
theorem serveExec_accepts {d : Dev} {r : Req} {key : Nat} (arg : List Byte) (core : Machine.Core) (h : accepts d r key = true)
    (hm : (core arg (heard d r)).2.1 ≠ .malformed) :
    serveExec r key arg core d =
      respond (core arg (heard d r)).1 r.session r.seq r.head.via (core arg (heard d r)).2.1
        (.exec key (respMode (core arg (heard d r)).1 key (core arg (heard d r)).2.1) (core arg (heard d r)).2.2) := by
  unfold accepts at h
  simp only [Bool.and_eq_true, decide_eq_true_eq] at h
  obtain ⟨x, _, hl, _, he⟩ := serve_takesUp (.exec (key / 256) (key % 256) arg) (fun x d1 => runExec x.level key arg core d1) h.1
  unfold serveExec
  rw [he]
  have hc : execCheck (heard d r) x.level key = .ok := by rw [hl]; exact h.2
  unfold execute runExec
  simp only [hc, hm, if_false, if_true]
  rfl

theorem keptOf_appended (k : List (Nat × Status × Body)) (n : Nat) (q : Nat) (st : Status) (b : Body) (hn : 1 ≤ n)
    (h : k.find? (fun e => decide (e.1 = q)) = none) :
    (lastN n (k ++ [(q, st, b)])).find? (fun e => decide (e.1 = q)) = some (q, st, b) := by
  unfold lastN
  rw [List.drop_append]
  have h2 : (k ++ [(q, st, b)]).length - n - k.length = 0 := by simp; omega
  rw [h2, List.drop_zero, List.find?_append]
  have h3 : (List.drop ((k ++ [(q, st, b)]).length - n) k).find? (fun e => decide (e.1 = q)) = none := by
    rw [List.find?_eq_none] at h ⊢
    intro e he
    exact h e (List.mem_of_mem_drop he)
  rw [h3]
  simp

theorem sendOn_session (d : Dev) (t : Transport) (k : Option SessKey) (n : Bool) (o : Out) (i : Nat) :
    session (sendOn d t k n o) i = session d i := by
  have h : (sendOn d t k n o).qdl = d.qdl := by
    cases t <;> simp only [sendOn, emit] <;> (repeat' split) <;> rfl
  unfold session
  rw [h]

/-- A response sent is the one that its session keeps for the request. -/
theorem replyOf_respond (d : Dev) (r : Req) (v : Transport) (st : Status) (b : Body) (x : Session) (hs : session d r.session = some x)
    (hk : keptOf x r.seq = none) : replyOf (respond d r.session r.seq v st b) r = some (st, b) := by
  have h (e : Dev) (o : Out) : session (sendTo e r.session v o) r.session = session e r.session := sendOn_session _ _ _ _ _ _
  unfold replyOf respond
  rw [h, session_updSession _ _ (fun (x : Session) => { x with kept := lastN 16 (x.kept ++ [(r.seq, st, b)]), topSeq := some r.seq }) (fun _ => rfl), hs]
  simp only [Option.map_some, Option.bind_some]
  unfold keptOf at hk ⊢
  rw [keptOf_appended _ _ _ _ _ (by omega) hk]
  rfl

/-- The response to an accepted EXEC request whose command leaves the sessions alone. -/
theorem replyOf_serveExec {d : Dev} {r : Req} {key : Nat} (arg : List Byte) (core : Machine.Core) (h : accepts d r key = true)
    (hm : (core arg (heard d r)).2.1 ≠ .malformed) (hq : (core arg (heard d r)).1.qdl.sessions = (heard d r).qdl.sessions) :
    replyOf (serveExec r key arg core d) r =
      some ((core arg (heard d r)).2.1,
        .exec key (respMode (core arg (heard d r)).1 key (core arg (heard d r)).2.1) (core arg (heard d r)).2.2) := by
  have h1 := h
  unfold accepts at h1
  simp only [Bool.and_eq_true] at h1
  obtain ⟨x, hs, _, hk, _⟩ := serve_takesUp (.exec (key / 256) (key % 256) arg) (fun x d1 => runExec x.level key arg core d1) h1.1
  rw [serveExec_accepts arg core h hm]
  have hs2 : session (core arg (heard d r)).1 r.session = some { x with lastReq := d.clk.up } := by
    unfold session
    rw [hq]
    have := session_updSession d r.session (fun y => { y with lastReq := d.clk.up }) (fun _ => rfl)
    rw [hs] at this
    exact this
  exact replyOf_respond _ r _ _ _ _ hs2 hk

end Sys2Proof
end

