-- ==== Sys2Proof/Laws/Raised.lean ====
section
/-!
SUPPORT. What raising an event does (R539), said once: its COUNT, LAST_TIME and LAST_DATA, its pending bit, and that no later push, count or
response takes them back.
-/
namespace Sys2Proof

open Machine

theorem setBit_testBit (v e k : Nat) : (setBit v e).testBit k = (v.testBit k || decide (e = k)) := by
  unfold setBit
  rw [Nat.testBit_or, Nat.shiftLeft_eq, Nat.one_mul, Nat.testBit_two_pow]

@[simp] theorem setBit_testBit_self (v e : Nat) : (setBit v e).testBit e = true := by simp [setBit_testBit]

/-- A changed element reads as changed, whether the list reaches it or not. -/
@[simp] theorem nth_upd_self {α : Type} (l : List α) (i : Nat) (f : α → α) (z : α) : nth (upd l i f z) i z = f (nth l i z) := by
  induction l, i, f, z using upd.induct <;> simp_all [upd, nth]

/-- No other element changes. -/
theorem nth_upd_ne {α : Type} (l : List α) (i j : Nat) (f : α → α) (z : α) (h : i ≠ j) : nth (upd l i f z) j z = nth l j z := by
  induction l, i, f, z using upd.induct generalizing j with
  | case1 f z => cases j <;> simp_all [upd, nth]
  | case2 i f z ih => cases j with
    | zero => simp [upd, nth]
    | succ j => have := ih j (by omega); simp_all [upd, nth]
  | case3 a t f z => cases j <;> simp_all [upd, nth]
  | case4 a t i f z ih => cases j with
    | zero => simp [upd, nth]
    | succ j => have := ih j (by omega); simp_all [upd, nth]

theorem gateCores_ev (d : Dev) : (gateCores d).ev = d.ev := by unfold gateCores; split <;> rfl

@[simp] theorem push'_ev (d : Dev) (q : Nat) (x : Desc) : (push' d q x).ev = d.ev := by
  unfold push' push; split
  · rw [gateCores_ev]; cases x.buf <;> rfl
  · rfl

theorem push_ev (d : Dev) (q : Nat) (x : Desc) : (push d q x).1.ev = d.ev := push'_ev d q x

/-- Step 4 of R539 numbers the notification and, where P5 refuses it, keeps the event for the sessions' counters (R54); nothing else. -/
theorem notifyP5_ev (d : Dev) (e x g : Nat) (t : Int) :
    (notifyP5 d e x g t).ev = { d.ev with seq := (d.ev.seq + 1) % 4294967296, missed := (notifyP5 d e x g t).ev.missed } := by
  unfold notifyP5; dsimp only; split
  · rw [push_ev]
  · rw [count_ev, push_ev]

/-- The records and the pending set after a raise (R539). -/
theorem raiseAt_recs (d : Dev) (e x : Nat) (t : Int) :
    (raiseAt d e x t).ev.recs = upd d.ev.recs e (fun y => { count := satAdd y.count 1, lastTime := t, lastData := x }) {}
    ∧ (raiseAt d e x t).ev.pending = setBit d.ev.pending e := by
  unfold raiseAt; dsimp only; split
  · rw [notifyP5_ev]; exact ⟨rfl, rfl⟩
  · split <;> exact ⟨rfl, rfl⟩

@[simp] theorem raise_pending (d : Dev) (e x : Nat) : (raise d e x).ev.pending = setBit d.ev.pending e := (raiseAt_recs d e x _).2

theorem raise_recs (d : Dev) (e x : Nat) :
    (raise d e x).ev.recs = upd d.ev.recs e (fun y => { count := satAdd y.count 1, lastTime := stampNs d, lastData := x }) {} :=
  (raiseAt_recs d e x _).1

/-- A raised event is pending, with its DATA. -/
theorem raised_raise (d : Dev) (e x : Nat) : raised (raise d e x) e x := by
  refine ⟨by simp, ?_⟩
  unfold evRec
  rw [raise_recs, nth_upd_self]

/-- What keeps the events keeps a raise. -/
theorem raised_of_ev {d e : Dev} {k x : Nat} (h : e.ev = d.ev) (hr : raised d k x) : raised e k x := by
  unfold raised evRec at *
  rw [h]
  exact hr

/-- Raising another event keeps a raise. -/
theorem raised_raise_ne {d : Dev} {e x k y : Nat} (h : k ≠ e) (hr : raised d e x) : raised (raise d k y) e x := by
  refine ⟨by simp [setBit_testBit, hr.1], ?_⟩
  have := hr.2
  unfold evRec at *
  rw [raise_recs, nth_upd_ne _ _ _ _ _ h]
  exact this

/-- MESH_OK_N following its condition keeps the raise of another event (R456). -/
theorem raised_settle {p : Perm} {d : Dev} {e x : Nat} (h : e ≠ 7) (hr : raised d e x) : raised (settle p d) e x := by
  unfold settle; dsimp only; split
  · exact hr
  · exact raised_raise_ne (Ne.symm h) (raised_of_ev (d := d) rfl hr)

/-- A change of mode raises event 0 (R451). -/
theorem raised_setMode {d : Dev} {m : Mode} (h : d.pwr.mode ≠ m) : raised (setMode d m) 0 (d.pwr.mode.num * 256 + m.num) := by
  unfold setMode; rw [if_neg h]; exact raised_raise _ _ _

@[simp] theorem respond_ev (d : Dev) (i q : Nat) (v : Transport) (st : Status) (b : Body) : (respond d i q v st b).ev = d.ev := (respond_only d i q v st b).ev

@[simp] theorem reach_ev (d : Dev) (t : Nat) : (reach d t).ev = d.ev := (reach_only d t).ev

theorem raised_respond {d : Dev} {i q : Nat} {v : Transport} {st : Status} {b : Body} {e x : Nat} (h : raised d e x) :
    raised (respond d i q v st b) e x := raised_of_ev (respond_ev d i q v st b) h

end Sys2Proof
end

