-- ==== Sys2Proof/Laws/Lookup.lean ====
section
/-!
SUPPORT. Reading back what was written: counters, dictionary values, timers, and the clock that a command has carried to an instant.
-/
namespace Sys2Proof

open Machine

theorem cntGet_cntPut (k v : Nat) (l : Counters) : cntGet k (cntPut k v l) = v := by
  induction l with
  | nil => simp [cntPut, cntGet]
  | cons a t ih =>
    obtain ⟨b, w⟩ := a
    unfold cntPut
    by_cases h : b = k
    · simp [h, cntGet]
    · by_cases h2 : k < b
      · simp [h, h2, cntGet]
      · simp [h, h2, cntGet, ih]

theorem cntGet_cntPut_ne (k j v : Nat) (l : Counters) (h : j ≠ k) : cntGet j (cntPut k v l) = cntGet j l := by
  induction l with
  | nil => simp [cntPut, cntGet, Ne.symm h]
  | cons a t ih =>
    obtain ⟨b, w⟩ := a
    unfold cntPut
    by_cases hb : b = k
    · subst hb; simp [cntGet, Ne.symm h]
    · by_cases h2 : k < b
      · simp [hb, h2, cntGet, Ne.symm h]
      · simp [hb, h2, cntGet, ih]

@[simp] theorem counter_count (d : Dev) (k : Nat) : counter (count d k) k = satAdd (counter d k) 1 := cntGet_cntPut _ _ _

theorem counter_count_ne (d : Dev) (k j : Nat) (h : j ≠ k) : counter (count d k) j = counter d j := cntGet_cntPut_ne _ _ _ _ h

/-- Raising an event counts nothing but what the event machinery loses (R544, R540). -/
theorem counter_raise (d : Dev) (e x k : Nat) (h : k ≠ 0x800007) (g : k ≠ 0x800008) : counter (raise d e x) k = counter d k := by
  have hp : ∀ (c : Dev) (q : Nat) (y : Desc), (push c q y).1.cnt = c.cnt := by
    intro c q y
    unfold push
    split
    · unfold gateCores; split <;> (cases y.buf <;> rfl)
    · rfl
  unfold raise raiseAt; dsimp only; split
  · unfold notifyP5; dsimp only; split
    · unfold counter; rw [hp]; rfl
    · rw [counter_count_ne _ _ _ h]; unfold counter; rw [hp]; rfl
  · split
    · rfl
    · rw [counter_count_ne _ _ _ g]; rfl

theorem dictGet_dictPut (k : Nat) (v : Val) (l : Dict) : dictGet k (dictPut k v l) = some v := by
  induction l with
  | nil => simp [dictPut, dictGet]
  | cons a t ih =>
    obtain ⟨b, w⟩ := a
    unfold dictPut
    by_cases h : b = k
    · simp [h, dictGet]
    · by_cases h2 : k < b
      · simp [h, h2, dictGet]
      · simp [h, h2, dictGet, ih]

theorem dictGet_dictPut_ne (k j : Nat) (v : Val) (l : Dict) (h : j ≠ k) : dictGet j (dictPut k v l) = dictGet j l := by
  induction l with
  | nil => simp [dictPut, dictGet, Ne.symm h]
  | cons a t ih =>
    obtain ⟨b, w⟩ := a
    unfold dictPut
    by_cases hb : b = k
    · subst hb; simp [dictGet, Ne.symm h]
    · by_cases h2 : k < b
      · simp [hb, h2, dictGet, Ne.symm h]
      · simp [hb, h2, dictGet, ih]

/-- What the values in force depend on. -/
theorem setting_congr {d e : Dev} (h : e.rw = d.rw) (g : e.nv.rp = d.nv.rp) (k : Nat) : setting e k = setting d k := by
  unfold setting; rw [h, g]

theorem num_congr {d e : Dev} (h : e.rw = d.rw) (g : e.nv.rp = d.nv.rp) (k : Nat) : num e k = num d k := by
  unfold num; rw [setting_congr h g]

theorem numN_congr {d e : Dev} (h : e.rw = d.rw) (g : e.nv.rp = d.nv.rp) (k : Nat) : numN e k = numN d k := by
  unfold numN; rw [setting_congr h g]

theorem flag_congr {d e : Dev} (h : e.rw = d.rw) (g : e.nv.rp = d.nv.rp) (k : Nat) : flag e k = flag d k := by
  unfold flag; rw [setting_congr h g]

theorem setting_putRw (d : Dev) (k : Nat) (v : Val) : setting (putRw d k v) k = v := by
  unfold setting putRw
  simp [dictGet_dictPut]

theorem ceilDiv_mul_ge (a b : Nat) (h : 0 < b) : a ≤ ceilDiv a b * b := by
  unfold ceilDiv
  rw [if_neg (by omega)]
  have h1 := Nat.div_add_mod (a + b - 1) b
  have h2 := Nat.mod_lt (a + b - 1) h
  rw [Nat.mul_comm] at h1
  omega

theorem tickLen_pos (d : Dev) : 0 < tickLen d := by unfold tickLen; split <;> omega

/-- A command that is the coming of an instant leaves the clock there or later, and nowhere earlier than it was (log 11). -/
theorem reach_up (d : Dev) (t : Nat) : t ≤ (reach d t).clk.up ∧ d.clk.up ≤ (reach d t).clk.up := by
  unfold reach
  split
  · constructor <;> omega
  · rename_i h
    have h1 := ceilDiv_mul_ge (t - d.clk.up) (tickLen d) (tickLen_pos d)
    dsimp only
    constructor <;> omega

theorem timerWait_clk (n : Nat) (d : Dev) (a : Nat) : (timerWait n d a).clk = d.clk := by
  have hc (k : Nat) (e : Dev) : (countTo k e a).clk = e.clk := by unfold countTo; dsimp only; split <;> rfl
  have hf (l : List Bool) : ∀ e : Dev, (l.foldl (fun x arm => if arm then armNow x a else stopNow x a) e).clk = e.clk := by
    induction l with
    | nil => exact fun _ => rfl
    | cons b t ih => intro e; rw [List.foldl_cons, ih]; cases b <;> rfl
  have ha (e : Dev) : (applyDeferred e a).clk = e.clk := by
    unfold applyDeferred; split
    · rfl
    · rw [hf]; rfl
  unfold timerWait; dsimp only
  split
  · rfl
  · split
    · rw [hc]
    · rw [hc, ha, hc]

theorem timePasses_clk (d : Dev) (n : Nat) : (timePasses d n).clk = d.clk := by
  have h (l : List Nat) : ∀ e : Dev, (l.foldl (timerWait n) e).clk = e.clk := by
    induction l with
    | nil => exact fun _ => rfl
    | cons a t ih => intro e; rw [List.foldl_cons, ih, timerWait_clk]
  unfold timePasses srcPass
  split <;> (try dsimp only) <;> rw [h] <;> rfl

/-- What of the clock's state the carrying leaves alone. -/
theorem reach_clk (d : Dev) (t : Nat) : (reach d t).clk = { d.clk with tb := (reach d t).clk.tb, up := (reach d t).clk.up } := by
  unfold reach
  split
  · rfl
  · dsimp only
    rw [timePasses_clk]

end Sys2Proof
end

