-- ==== Sys2Proof/Laws/Memory.lean ====
section
/-!
SUPPORT. The store's bytes: the byte just written is read back, no other byte changes, and every write keeps the canonical form.
-/
namespace Sys2Proof

open Machine

/-- The byte just written is read back. -/
@[simp] theorem memGet_memPut_self (a : Nat) (b : Byte) (m : Memory) (lo : Nat) (h : memWfFrom lo m = true) : memGet a (memPut a b m) = b := by
  induction m generalizing lo with
  | nil => unfold memPut; split <;> simp_all [memGet]
  | cons x t ih =>
    obtain ⟨k, c⟩ := x
    simp only [memWfFrom, Bool.and_eq_true, decide_eq_true_eq] at h
    have low : ∀ (u : Memory) (l : Nat), memWfFrom l u = true → a < l → memGet a u = 0 := by
      intro u
      induction u with
      | nil => intros; rfl
      | cons y v ihv =>
        intro l hl ha
        simp only [memWfFrom, Bool.and_eq_true, decide_eq_true_eq] at hl
        simp only [memGet]
        rw [if_neg (by omega)]
        exact ihv _ hl.2 (by omega)
    unfold memPut
    split
    · rename_i hk
      split
      · rename_i hb; rw [hb]; exact low t (k + 1) h.2 (by omega)
      · simp [memGet]
    · split
      · split
        · rename_i hb; rw [hb]; simp only [memGet]; rw [if_neg (by omega)]; exact low t (k + 1) h.2 (by omega)
        · simp [memGet]
      · simp only [memGet]; rw [if_neg (by assumption)]; exact ih (k + 1) h.2

/-- A write leaves every other address alone. -/
theorem memGet_memPut_ne {a c : Nat} (h : c ≠ a) (b : Byte) (m : Memory) : memGet c (memPut a b m) = memGet c m := by
  induction m with
  | nil => unfold memPut; split <;> simp [memGet, Ne.symm h]
  | cons x t ih =>
    obtain ⟨k, d⟩ := x
    unfold memPut
    split
    · rename_i hk
      split <;> simp [memGet, hk, Ne.symm h]
    · split
      · split <;> simp [memGet, Ne.symm h]
      · simp only [memGet, ih]

/-- One byte written keeps the canonical form above `lo`. -/
theorem memPut_wf {a lo : Nat} {b : Byte} {m : Memory} (h : memWfFrom lo m = true) (ha : lo ≤ a) : memWfFrom lo (memPut a b m) = true := by
  induction m generalizing lo with
  | nil => unfold memPut; split <;> simp_all [memWfFrom]
  | cons x t ih =>
    obtain ⟨k, c⟩ := x
    simp only [memWfFrom, Bool.and_eq_true, decide_eq_true_eq] at h
    have weaken : ∀ (u : Memory) (l l' : Nat), l' ≤ l → memWfFrom l u = true → memWfFrom l' u = true := by
      intro u l l' hle hu
      cases u with
      | nil => rfl
      | cons y v =>
        simp only [memWfFrom, Bool.and_eq_true, decide_eq_true_eq] at hu ⊢
        exact ⟨⟨by omega, hu.1.2⟩, hu.2⟩
    unfold memPut
    split
    · rename_i hk
      split
      · exact weaken t (k + 1) lo (by omega) h.2
      · simp only [memWfFrom, Bool.and_eq_true, decide_eq_true_eq]
        exact ⟨⟨ha, by simpa using (by assumption : ¬ b = 0)⟩, by rw [← hk]; exact h.2⟩
    · split
      · split
        · simp only [memWfFrom, Bool.and_eq_true, decide_eq_true_eq]; exact h
        · simp only [memWfFrom, Bool.and_eq_true, decide_eq_true_eq]
          exact ⟨⟨ha, by simpa using (by assumption : ¬ b = 0)⟩, ⟨by omega, h.1.2⟩, h.2⟩
      · simp only [memWfFrom, Bool.and_eq_true, decide_eq_true_eq]
        exact ⟨h.1, ih h.2 (by omega)⟩

/-- Every write of octets keeps the canonical form. -/
theorem memWrite_wf {a : Nat} {l : List Byte} {m : Memory} (h : Memory.wf m = true) : Memory.wf (memWrite a l m) = true := by
  induction l generalizing a m with
  | nil => exact h
  | cons b t ih => exact ih (memPut_wf h (Nat.zero_le a))

/-- A write of octets leaves every address outside them alone. -/
theorem memGet_memWrite_out {a c : Nat} {l : List Byte} {m : Memory} (h : c < a ∨ a + l.length ≤ c) : memGet c (memWrite a l m) = memGet c m := by
  induction l generalizing a m with
  | nil => rfl
  | cons b t ih =>
    simp only [List.length_cons] at h
    unfold memWrite
    rw [ih (by omega), memGet_memPut_ne (by omega)]

/-- An octet written is read back at its place. -/
theorem memGet_memWrite_in {a i : Nat} {l : List Byte} {m : Memory} (h : Memory.wf m = true) (hi : i < l.length) :
    memGet (a + i) (memWrite a l m) = l[i] := by
  induction l generalizing a i m with
  | nil => simp at hi
  | cons b t ih =>
    unfold memWrite
    cases i with
    | zero =>
      rw [memGet_memWrite_out (by omega)]
      exact memGet_memPut_self a b m 0 h
    | succ i =>
      simp only [List.length_cons] at hi
      rw [show a + (i + 1) = (a + 1) + i by omega, ih (memPut_wf h (Nat.zero_le a)) (by omega)]
      rfl

end Sys2Proof
end

