-- ==== Sys2Proof/Laws/RadioFrames.lean ====
section
/-!
SUPPORT. What the front ends and lanes can touch as they are blanked, cut off or calibrated (R98, R99, R149, R459): themselves, the frame
buffers and queues of what they abort, the events and counters that follow, and the pins and domains of the radio.
-/
namespace Sys2Proof.Machine

/-- The device after differs from the device before in the radio and in what its aborted frames leave only. -/
structure RadioOnly (d e : Dev) : Prop where
  rw : e.rw = d.rw
  clk : e.clk = d.clk
  ptp : e.ptp = d.ptp
  pps : e.pps = d.pps
  start : e.start = d.start
  nv : e.nv = d.nv
  err : e.err = d.err
  tel : e.tel = d.tel
  timers : e.timers = d.timers
  tmSrc : e.tmSrc = d.tmSrc
  halted : e.halted = d.halted
  gov : e.gov = d.gov
  sched : e.sched = { d.sched with windows := e.sched.windows }
  nbr : e.nbr = d.nbr
  fwd : e.fwd = d.fwd
  shp : e.shp = d.shp
  bunting : e.bunting = d.bunting
  fw : e.fw = d.fw
  can : e.can = { d.can with owed := e.can.owed }
  hier : e.hier = d.hier
  qdl : e.qdl = d.qdl
  gpio : e.gpio = d.gpio
  ifs : e.ifs = d.ifs
  out : e.out = d.out
  pwr : e.pwr = { d.pwr with domains := e.pwr.domains, padHold := e.pwr.padHold, paSf := e.pwr.paSf, paG := e.pwr.paG, lnaSf := e.pwr.lnaSf, lnaG := e.pwr.lnaG }

theorem RadioOnly.rfl' (d : Dev) : RadioOnly d d := by constructor <;> rfl

theorem RadioOnly.trans {a b c : Dev} (h : RadioOnly a b) (k : RadioOnly b c) : RadioOnly a c where
  rw := k.rw.trans h.rw
  clk := k.clk.trans h.clk
  ptp := k.ptp.trans h.ptp
  pps := k.pps.trans h.pps
  start := k.start.trans h.start
  nv := k.nv.trans h.nv
  err := k.err.trans h.err
  tel := k.tel.trans h.tel
  timers := k.timers.trans h.timers
  tmSrc := k.tmSrc.trans h.tmSrc
  halted := k.halted.trans h.halted
  gov := k.gov.trans h.gov
  sched := by rw [k.sched, h.sched]
  nbr := k.nbr.trans h.nbr
  fwd := k.fwd.trans h.fwd
  shp := k.shp.trans h.shp
  bunting := k.bunting.trans h.bunting
  fw := k.fw.trans h.fw
  can := by rw [k.can, h.can]
  hier := k.hier.trans h.hier
  qdl := k.qdl.trans h.qdl
  gpio := k.gpio.trans h.gpio
  ifs := k.ifs.trans h.ifs
  out := k.out.trans h.out
  pwr := by rw [k.pwr, h.pwr]

theorem RadioOnly.ite {d a b : Dev} {c : Prop} [Decidable c] (h : RadioOnly d a) (k : RadioOnly d b) : RadioOnly d (if c then a else b) := by
  split <;> assumption

theorem RadioOnly.mode {d e : Dev} (h : RadioOnly d e) : e.pwr.mode = d.pwr.mode := by rw [h.pwr]
theorem RadioOnly.entering {d e : Dev} (h : RadioOnly d e) : e.pwr.entering = d.pwr.entering := by rw [h.pwr]
theorem RadioOnly.meshOk {d e : Dev} (h : RadioOnly d e) : e.pwr.meshOk = d.pwr.meshOk := by rw [h.pwr]
theorem RadioOnly.fullOnly {d e : Dev} (h : RadioOnly d e) : e.pwr.fullOnly = d.pwr.fullOnly := by rw [h.pwr]
theorem RadioOnly.baseFull {d e : Dev} (h : RadioOnly d e) : e.pwr.baseFull = d.pwr.baseFull := by rw [h.pwr]
theorem RadioOnly.faultCause {d e : Dev} (h : RadioOnly d e) : e.pwr.faultCause = d.pwr.faultCause := by rw [h.pwr]
theorem RadioOnly.sleepReq {d e : Dev} (h : RadioOnly d e) : e.pwr.sleepReq = d.pwr.sleepReq := by rw [h.pwr]
theorem RadioOnly.vcoreOn {d e : Dev} (h : RadioOnly d e) : e.pwr.vcoreOn = d.pwr.vcoreOn := by rw [h.pwr]

theorem EvOnly.radio {d e : Dev} (h : EvOnly d e) : RadioOnly d e where
  rw := h.rw
  clk := h.clk
  ptp := h.ptp
  pps := h.pps
  start := h.start
  nv := h.nv
  err := h.err
  tel := h.tel
  timers := h.timers
  tmSrc := h.tmSrc
  halted := h.halted
  gov := h.gov
  sched := by rw [h.sched]
  nbr := h.nbr
  fwd := h.fwd
  shp := h.shp
  bunting := h.bunting
  fw := h.fw
  can := by rw [h.can]
  hier := h.hier
  qdl := h.qdl
  gpio := h.gpio
  ifs := h.ifs
  out := h.out
  pwr := by
    have k := h.pwr
    rw [k]

theorem push_radio (d : Dev) (q : Nat) (x : Desc) : RadioOnly d (push d q x).1 where
  rw := (push_only d q x).rw
  clk := (push_only d q x).clk
  ptp := (push_only d q x).ptp
  pps := (push_only d q x).pps
  start := (push_only d q x).start
  nv := (push_only d q x).nv
  err := push'_keeps_err d q x
  tel := (push_only d q x).tel
  timers := (push_only d q x).timers
  tmSrc := (push_only d q x).tmSrc
  halted := (push_only d q x).halted
  gov := (push_only d q x).gov
  sched := by rw [(push_only d q x).sched]
  nbr := (push_only d q x).nbr
  fwd := (push_only d q x).fwd
  shp := (push_only d q x).shp
  bunting := (push_only d q x).bunting
  fw := (push_only d q x).fw
  can := by rw [(push_only d q x).can]
  hier := (push_only d q x).hier
  qdl := (push_only d q x).qdl
  gpio := (push_only d q x).gpio
  ifs := (push_only d q x).ifs
  out := (push_only d q x).out
  pwr := by
    have k := (push_only d q x).pwr
    rw [k]

theorem RadioOnly.foldl {α : Type} {f : Dev → α → Dev} (h : ∀ d a, RadioOnly d (f d a)) (l : List α) : ∀ d : Dev, RadioOnly d (l.foldl f d) := by
  induction l with
  | nil => exact RadioOnly.rfl'
  | cons a t ih => exact fun d => (h d a).trans (ih _)

theorem store_radio (d : Dev) (x : StoreState) : RadioOnly d { d with store := x } := by constructor <;> rfl

theorem updLane_radio (d : Dev) (n : Nat) (f : Lane → Lane) : RadioOnly d (updLane d n f) := by constructor <;> rfl

theorem updBand_radio (d : Dev) (b : Band) (f : BandState → BandState) : RadioOnly d (updBand d b f) := by cases b <;> (constructor <;> rfl)

theorem dropRef_radio (d : Dev) (g : Nat) : RadioOnly d (dropRef d g) := by
  unfold dropRef; split
  · exact .rfl' d
  · split
    · exact store_radio d _
    · split
      · exact (store_radio d _).trans (raise_only _ _ _).radio
      · exact store_radio d _

theorem dropBuf_radio (d : Dev) (b : Option Nat) : RadioOnly d (dropBuf d b) := by
  cases b
  · exact .rfl' d
  · exact dropRef_radio d _

theorem owePush_radio (d : Dev) (q : Nat) (p : Desc) : RadioOnly d (owePush d q p) := by constructor <;> rfl

theorem produce_radio (d : Dev) (q : Nat) (p : Desc) : RadioOnly d (produce d q p).1 := by
  unfold produce; split
  · exact ((dropBuf_radio d _).trans (count_only _ _).radio).trans (raise_only _ _ _).radio
  · dsimp only; split
    · exact push_radio _ _ _
    · split
      · exact (push_radio _ _ _).trans (owePush_radio _ _ _)
      · split
        · exact (push_radio _ _ _).trans (dropBuf_radio _ _)
        · exact push_radio _ _ _

theorem commitRx_radio (d : Dev) (n st : Nat) (f : LaneFrame) (a b k c : Bool) (q : Nat) (x : Int) :
    RadioOnly d (commitRx d n st f a b k c q x) := by
  have h1 (y : Dev) (g : Lane → Lane) : RadioOnly y (if k = true then updLane y n g else dropBuf (updLane y n g) f.buf) :=
    .ite (updLane_radio _ _ _) ((updLane_radio _ _ _).trans (dropBuf_radio _ _))
  unfold commitRx; dsimp only
  refine .ite ?_ (RadioOnly.trans ?_ (raiseRate_only _ _ _ _ _ _).radio) <;>
    exact RadioOnly.trans (.ite (h1 _ _) ((h1 _ _).trans (count_only _ _).radio)) (produce_radio _ _ _)

theorem clipRx_radio (d : Dev) (b : Band) (c : Nat) : RadioOnly d (clipRx d b c) :=
  (count_only _ _).radio.trans (raiseRate_only _ _ _ _ _ _).radio

theorem abortRx_radio (d : Dev) (n st : Nat) (f : LaneFrame) : RadioOnly d (abortRx d n st f) := by
  have h : RadioOnly d (drawn d) := by constructor <;> rfl
  have g := h.trans (commitRx_radio (drawn d) n st f (Config.abortMatch d.free) false false (Config.abortClipped d.free) (Config.abortLqi d.free % 256)
    (Config.abortCfo d.free))
  exact .ite (g.trans (clipRx_radio _ _ _)) g

theorem laneRest_radio (d : Dev) (n : Nat) : RadioOnly d (laneRest d n) := updLane_radio d n _

theorem blankLane_radio (st : Nat) (d : Dev) (n : Nat) : RadioOnly d (blankLane st d n) := by
  have h : RadioOnly d (match (lane d n).frame with | some f => abortRx d n st f | none => d) := by
    split
    · exact abortRx_radio _ _ _ _
    · exact .rfl' d
  unfold blankLane; dsimp only; split <;> first | exact .rfl' d | exact h.trans (updLane_radio _ _ _)

theorem blank_radio (d : Dev) (b : Band) : RadioOnly d (blank d b) :=
  (RadioOnly.foldl (fun d a => blankLane_radio 4 d a) _ d).trans (updBand_radio _ _ _)

theorem unblank_radio (d : Dev) (b : Band) : RadioOnly d (unblank d b) :=
  (RadioOnly.foldl (fun d a => RadioOnly.ite (laneRest_radio d a) (.rfl' d)) _ d).trans (updBand_radio _ _ _)

theorem laneDomainOff_radio (d : Dev) (n : Nat) : RadioOnly d (laneDomainOff d n) := by
  have h : RadioOnly d (match (lane d n).frame with | some f => abortRx d n 5 f | none => d) := by
    split
    · exact abortRx_radio _ _ _ _
    · exact .rfl' d
  exact h.trans (updLane_radio _ _ _)

theorem lanesOff_radio (d : Dev) (b : Band) : RadioOnly d (lanesOff d b) := RadioOnly.foldl (fun d a => laneDomainOff_radio d a) _ d

theorem setPa_radio (d : Dev) (b : Band) (v : Bool) : RadioOnly d (setPa d b v) := by cases b <;> (constructor <;> rfl)

theorem setLna_radio (d : Dev) (b : Band) (v : Bool) : RadioOnly d (setLna d b v) := by cases b <;> (constructor <;> rfl)

theorem cutTx_radio (d : Dev) (b : Band) : RadioOnly d (cutTx d b) := (updBand_radio d b _).trans (setPa_radio _ _ _)

theorem setRadio_radio (d : Dev) (b : Band) (st : RadioState) : RadioOnly d (setRadio d b st) := (updBand_radio d b _).trans (setLna_radio _ _ _)

theorem powerBand_radio (d : Dev) (b : Band) (x y : Bool) : RadioOnly d (powerBand d b x y) := by
  have h (z : Dev) (m n : Nat) : RadioOnly z { z with pwr := { z.pwr with domains := m, padHold := n } } := by constructor <;> rfl
  unfold powerBand
  refine RadioOnly.ite ?_ (h d _ _)
  refine RadioOnly.trans ?_ (raise_only _ _ _).radio
  constructor <;> rfl

theorem shutWindows_radio (d : Dev) (b : Band) (p : Window → Bool) : RadioOnly d (shutWindows d b p) := by constructor <;> rfl

theorem bandOff_radio (d : Dev) (b : Band) : RadioOnly d (bandOff d b) := by
  unfold bandOff; dsimp only
  exact (((((shutWindows_radio d b _).trans (cutTx_radio _ _)).trans (lanesOff_radio _ _)).trans (setRadio_radio _ _ _)).trans
    (updBand_radio _ _ _)).trans (powerBand_radio _ _ _ _)

theorem stopTransmission_radio (d : Dev) : RadioOnly d (stopTransmission d) :=
  (((cutTx_radio d _).trans (cutTx_radio _ _)).trans (blank_radio _ _)).trans (blank_radio _ _)

theorem startCal_radio (d : Dev) (b : Band) (k : CalKind) : RadioOnly d (startCal d b k) :=
  (((blank_radio d b).trans (setRadio_radio _ _ _)).trans (updBand_radio _ _ _)).trans (powerBand_radio _ _ _ _)

theorem requestCal_radio (d : Dev) (b : Band) (k : CalKind) : RadioOnly d (requestCal d b k) :=
  .ite (updBand_radio d b _) (startCal_radio d b k)

end Sys2Proof.Machine
end

