-- ==== Sys2Proof/Machine/Balls.lean ====
section
/-!
DEFINITION. The balls (R583-R589): where each stands, its supply, and the state it is in.
-/
namespace Sys2Proof.Machine

/-- The supplies (R587). -/
inductive Supply where
  | vcore | vdd2 | vddq | v1p8a | vserdes | vioA | vioB | vaon | vss
  deriving DecidableEq, Repr

/-- States of a ball (R584): high impedance, held low by its passive pull-down, latched (R473), released, driven low, monitored, input
off, crystal running, transmitter idle, energy detect, Halyard detector, driven by D0 for its sequences (R575), passive, as its function
and configuration have it, or handed to the scan chain (R579). -/
inductive BallState where
  | z | pulledDown | latched | released | low | monitored | off | oscillating | idle | energyDetect | halyard | d0 | passive | function | scan
  deriving DecidableEq, Repr

/-- A row of R585: signals, their positions as row index and column (R583), supply, domain, and the states unpowered, in reset and M4, and in
M1, M2 and M3; the level at which a latched ball is held where the row names one; and whether a start step within M4 begins the state
of its M4 column. -/
structure BallRow where
  signals : List String
  at_ : List (Nat × Nat)
  supply : Supply
  domain : Option Nat
  unpowered : BallState
  m4 : BallState
  m1 : BallState
  m2 : BallState
  m3 : BallState
  held : Option Bool
  late : Bool
  deriving DecidableEq, Repr

/-- Signal balls of R585, in the order of its table. -/
def ballsA : List BallRow := [
    ⟨["RF_SF"], [(10, 1)], .v1p8a, some 7, .z, .z, .z, .z, .halyard, none, false⟩,
    ⟨["RF_G"], [(1, 16)], .v1p8a, some 8, .z, .z, .z, .z, .halyard, none, false⟩,
    ⟨["PA_EN_SF", "LNA_EN_SF"], [(13, 1), (14, 1)], .v1p8a, some 7, .pulledDown, .pulledDown, .latched, .latched, .latched, some false, false⟩,
    ⟨["PA_EN_G", "LNA_EN_G"], [(1, 13), (1, 12)], .v1p8a, some 8, .pulledDown, .pulledDown, .latched, .latched, .latched, some false, false⟩,
    ⟨["REF_XI", "REF_XO"], [(3, 1), (4, 1)], .v1p8a, some 0, .z, .oscillating, .off, .off, .off, none, true⟩,
    ⟨["SLOW_XI", "SLOW_XO"], [(22, 2), (22, 3)], .vaon, some 0, .z, .oscillating, .oscillating, .oscillating, .oscillating, none, false⟩,
    ⟨["ISENSE_P", "ISENSE_N", "ISENSE_V"], [(19, 1), (19, 2), (19, 4)], .v1p8a, some 0, .z, .monitored, .off, .off, .off, none, true⟩,
    ⟨["HOLDUP_SENSE"], [(20, 5)], .vaon, some 1, .z, .monitored, .off, .off, .off, none, true⟩,
    ⟨["VCORE_SNSP", "VCORE_SNSN"], [(16, 1), (17, 1)], .vcore, none, .passive, .passive, .passive, .passive, .passive, none, false⟩,
    ⟨["E0_TXP", "E0_TXN"], [(4, 22), (5, 22)], .vserdes, some 11, .z, .idle, .idle, .idle, .idle, none, false⟩,
    ⟨["E0_RXP", "E0_RXN"], [(7, 22), (8, 22)], .vserdes, some 11, .z, .off, .off, .energyDetect, .energyDetect, none, false⟩,
    ⟨["E1_TXP", "E1_TXN"], [(11, 22), (12, 22)], .vserdes, some 11, .z, .idle, .idle, .idle, .idle, none, false⟩,
    ⟨["E1_RXP", "E1_RXN"], [(14, 22), (15, 22)], .vserdes, some 11, .z, .off, .off, .off, .off, none, false⟩]

/-- Signal balls of R585, in the order of its table. -/
def ballsB : List BallRow := [
    ⟨["MUART_TXD", "MUART_RTS_N"], [(22, 21), (21, 22)], .vioA, some 11, .z, .latched, .latched, .latched, .latched, none, false⟩,
    ⟨["MUART_RXD", "MUART_CTS_N"], [(21, 21), (20, 21)], .vioA, some 11, .z, .off, .off, .off, .off, none, false⟩,
    ⟨["MSPI_SCLK", "MSPI_MOSI", "MSPI_CS_N"], [(18, 21), (17, 22), (18, 22)], .vioA, some 11, .z, .off, .off, .off, .off, none, false⟩,
    ⟨["MSPI_MISO"], [(17, 21)], .vioA, some 11, .z, .z, .z, .z, .z, none, false⟩,
    ⟨["MSPI_IRQ_N"], [(19, 22)], .vioA, some 11, .z, .latched, .latched, .latched, .latched, none, false⟩,
    ⟨["XSPI_IO0", "XSPI_IO1", "XSPI_IO2", "XSPI_IO3", "XSPI_IO4", "XSPI_IO5", "XSPI_IO6", "XSPI_IO7"], [(22, 7), (22, 8), (22, 9), (22, 10), (21, 7), (21, 8), (21, 9), (21, 10)], .vioB, some 11, .z, .z, .z, .z, .z, none, false⟩,
    ⟨["XSPI_CLK"], [(22, 11)], .vioB, some 11, .z, .latched, .latched, .latched, .latched, some false, false⟩,
    ⟨["XSPI_CS_N"], [(21, 12)], .vioB, some 11, .z, .latched, .latched, .latched, .latched, some true, false⟩,
    ⟨["XSPI_DQS"], [(22, 12)], .vioB, some 11, .z, .off, .off, .off, .off, none, false⟩,
    ⟨["XSPI_RESET_N"], [(20, 8)], .vioB, some 11, .z, .latched, .latched, .latched, .latched, some true, false⟩,
    ⟨["PMIC_SCL", "PMIC_SDA"], [(21, 4), (21, 5)], .vaon, some 0, .z, .d0, .d0, .d0, .d0, none, false⟩,
    ⟨["PMIC_EN"], [(20, 1)], .vaon, some 0, .pulledDown, .low, .low, .low, .low, none, false⟩,
    ⟨["VCORE_PG"], [(20, 2)], .vaon, some 0, .z, .monitored, .monitored, .monitored, .monitored, none, false⟩]

/-- Signal balls of R585, in the order of its table. -/
def ballsC : List BallRow := [
    ⟨["TAMPER0_N", "TAMPER1_N"], [(22, 4), (22, 5)], .vaon, some 0, .z, .monitored, .monitored, .monitored, .monitored, none, false⟩,
    ⟨["WAKE_IN"], [(22, 6)], .vaon, some 0, .z, .monitored, .monitored, .monitored, .monitored, none, false⟩,
    ⟨["MESH_OK_N"], [(21, 1)], .vaon, some 0, .z, .released, .released, .released, .released, none, false⟩,
    ⟨["EVT_N"], [(20, 22)], .vioA, some 11, .z, .z, .released, .released, .released, none, false⟩,
    ⟨["PPS_IN"], [(19, 20)], .vioA, some 11, .z, .off, .off, .off, .off, none, false⟩,
    ⟨["PPS_OUT"], [(19, 21)], .vioA, some 11, .z, .latched, .latched, .latched, .latched, some false, false⟩,
    ⟨["GPIO0", "GPIO1", "GPIO2", "GPIO3", "GPIO4", "GPIO5", "GPIO6", "GPIO7", "GPIO8", "GPIO9", "GPIO10", "GPIO11"], [(22, 17), (22, 18), (22, 19), (22, 20), (21, 17), (21, 18), (21, 19), (21, 20), (20, 17), (20, 18), (20, 19), (20, 20)], .vioA, some 11, .z, .latched, .latched, .latched, .latched, none, false⟩,
    ⟨["GPIO12", "GPIO13", "GPIO14", "GPIO15", "GPIO16", "GPIO17", "GPIO18", "GPIO19", "GPIO20", "GPIO21", "GPIO22", "GPIO23"], [(22, 13), (22, 14), (22, 15), (22, 16), (21, 13), (21, 14), (21, 15), (21, 16), (20, 12), (20, 13), (20, 14), (20, 15)], .vioB, some 11, .z, .latched, .latched, .latched, .latched, none, false⟩,
    ⟨["TRST_N", "TCK"], [(15, 20), (16, 20)], .vioA, some 11, .z, .monitored, .off, .off, .off, none, true⟩,
    ⟨["TMS", "TDI"], [(17, 20), (18, 20)], .vioA, some 11, .z, .monitored, .off, .off, .off, none, true⟩,
    ⟨["TDO"], [(18, 19)], .vioA, some 11, .z, .z, .z, .z, .z, none, false⟩,
    ⟨["TEST_EN"], [(19, 13)], .vaon, some 0, .z, .monitored, .monitored, .monitored, .monitored, none, false⟩]

/-- The signal balls (R585). -/
def ballRows : List BallRow := ballsA ++ ballsB ++ ballsC

/-- The row of a signal. -/
def ballRow (signal : String) : Option BallRow := ballRows.find? (fun r => r.signals.contains signal)

/-- The balls that must be left unconnected (R586): B4 to B7 and C4 to C7. -/
def reservedBall (row col : Nat) : Bool := (row = 2 || row = 3) && 4 ≤ col && col ≤ 7

/-- The supply balls outside the core region (R587). -/
def supplyBalls : List (Supply × List (Nat × Nat)) := [
    (.vdd2, [(5, 7), (5, 9), (5, 11), (5, 13), (5, 15), (5, 17), (18, 7), (18, 9), (18, 11), (18, 13), (18, 15), (18, 17)]),
    (.vddq, [(4, 8), (4, 10), (4, 12), (4, 14), (4, 16), (8, 4), (10, 4), (12, 4), (14, 4), (16, 4)]),
    (.v1p8a, [(2, 9), (2, 10), (2, 11), (2, 13), (2, 14), (2, 19), (2, 20), (3, 2), (4, 2), (6, 2), (7, 2), (12, 2), (13, 2), (14, 2)]),
    (.vserdes, [(3, 21), (6, 20), (6, 21), (9, 21), (10, 21), (13, 20), (13, 21), (16, 21)]),
    (.vioA, [(15, 19), (16, 19), (17, 18), (18, 16), (19, 16), (19, 18)]),
    (.vioB, [(20, 7), (20, 9), (20, 11), (20, 16), (19, 7), (19, 9)]),
    (.vaon, [(20, 3), (21, 3), (18, 3), (19, 3)])]

/-- The core region of R587, rows F to V and columns 6 to 17. -/
def coreRegion (row col : Nat) : Bool := 6 ≤ row && row ≤ 17 && 6 ≤ col && col ≤ 17

/-- The supply of a supply ball (R587): none for a signal ball and a reserved one; every ball not named is VSS. -/
def supplyAt (row col : Nat) : Option Supply :=
  if reservedBall row col || ballRows.any (fun r => r.at_.contains (row, col)) then none
  else if coreRegion row col then some (if (row + col) % 2 = 0 then .vcore else .vss)
  else match supplyBalls.find? (fun x => x.2.contains (row, col)) with | some x => some x.1 | none => some .vss

/-- A front-end row: its RF ball and its enable balls (R26, R585). -/
def frontRow (r : BallRow) : Bool := r.domain = some 7 || r.domain = some 8

/-- The front-end row is that of HBAND, the band whose Halyard detector the SLEEP names (R461, R584). -/
def halyardRow (d : Dev) (r : BallRow) : Bool := match d.pwr.sleepReq with | some (_, hband, _, _) => r.domain = some (7 + hband) | none => false

/-- A latched ball of a row holds its level; on a cold start there is none (R585), and none drives while its supply is absent in sleep
(R589). -/
def heldState (d : Dev) (r : BallRow) (absent : List Supply) : BallState :=
  let held := match r.domain with | some n => d.pwr.padHold.testBit n | none => false
  if !held then (if frontRow r then .pulledDown else .z)
  else if frontRow r && absent.contains r.supply then .pulledDown
  else if absent.contains r.supply then .z else .latched

/-- The state that a column of R585 gives a ball. -/
def columnState (d : Dev) (r : BallRow) (absent : List Supply) (c : BallState) : BallState :=
  match c with
  | .latched => heldState d r absent
  | .halyard => if halyardRow d r then .halyard else .z
  | x => x

/-- The state of the balls of a row (R585, R589), with the supplies that the board has removed in sleep. -/
def ballState (p : Perm) (d : Dev) (absent : List Supply) (r : BallRow) : BallState :=
  if d.pwr.mode = .m0 then r.unpowered
  else if p.manager && frontRow r then columnState d r absent r.m1
  else match d.pwr.mode with
  | .m1 => columnState d r absent r.m1
  | .m2 => columnState d r absent r.m2
  | .m3 => columnState d r absent r.m3
  | .m4 => if r.late && (d.start.stage = .waitPg || d.start.stage = .waitRetry) then (if r.m4 = .oscillating then .z else .off) else columnState d r absent r.m4
  | _ =>
    if d.ifs.extest && r.supply ≠ .vaon then .scan
    else match r.domain with
      | some n => if d.pwr.padHold.testBit n then heldState d r absent else .function
      | none => r.m4

end Sys2Proof.Machine
end

