-- ==== Sys2Proof/Tests/Slice0.lean ====
section
/-!
SUPPORT. The model's own tests, and for every statement with hypotheses a state and operands that meet them.
-/
namespace Sys2Proof.Tests

open Sys2Proof Sys2Proof.Machine

-- One test is evaluated at a time: together they would ask for more threads than a bounded memory has stacks for.
section Evaluated

set_option Elab.async false

/-! ## Small states -/

/-- A worker's record as provisioning leaves it. -/
def worker : Perm := { root := true, role := 2, workerId := 7, provisioned := true, debugLocked := true }

/-- The manager's. -/
def manager : Perm := { root := true, role := 1, workerId := 0, provisioned := true, debugLocked := true }

/-- An open session of level 3 on MUART, without AUTH. -/
def hostSession : Session := ⟨5, 3, false, 0, .muart, ⟨0, 0, 0, 0⟩, 0, [], none, [], [], 0⟩

/-- A device that serves in M7, with one open session of level 3. -/
def served : Dev :=
  { pwr := { mode := .m7, domains := 0xFFF }, start := { stage := .done, served := true, bootRuntime := false, clearDone := true, ready := true, applied := true }
    qdl := { sessions := [hostSession] } }

/-- A state of given parts. -/
def at_ (p : Perm) (d : Dev) : State := ⟨[], p, [], d⟩

/-- A request of the session. -/
def req : Req := ⟨5, 1, {}⟩

/-- The answer is a next state, of which `f` holds. -/
def leads (o : Host.Outcome State Fault Refusal) (f : State → Bool) : Bool := match o with | .next t => f t | _ => false

/-- The response kept for the request. -/
def said (t : State) : Option Status := (replyOf t.d req).map Prod.fst

/-- An unsecured data frame without addresses. -/
def plainFrame : MacFrame :=
  { ftype := .data, version := 2, src := .none, dst := .none, srcEnd := 5, seq := none, ackReq := false, secured := false, headerBad := false
    level := 0, keyMode := 0, keyIndex := 0, fc := 0, key := .raw 0, intact := true, tc := none, district := none, payload := .empty }

/-- A link to a device, opened by this one, under LINK 1, its next SEQ received 6; the head of that message, and of one on a link that the
peer opened. -/
def linkKey : LinkKey := ⟨1, 2, 3⟩
def linkOf (peer : Nat) : Link := ⟨peer, 1, linkKey, true, 5, 0, 0, true⟩
def headOf : HlHead := ⟨1, 6, ⟨linkKey, 1, 6, 1⟩, 5842⟩

/-! ## Time base (witnesses of TimeBaseAndPpsCommandsComplete, StepMovesTheTimeBase, PtpCommandsComplete) -/

theorem witness_refLost : refRuns served = true ∧ served.clk.refOk = true
    ∧ leads (exec .refLost (at_ worker served)) (fun t => !t.d.clk.refOk && !t.d.clk.fast && t.d.ev.pending.testBit 22) = true := by decide +kernel

/-- REFCLK lost a while ago. -/
def noRef : Dev := { served with clk := { served.clk with refOk := false, fast := false, refLostAt := some 0, up := 1000 } }

theorem witness_refRestored : noRef.clk.refLostAt = some 0 ∧ since noRef 0 ≤ ms 100
    ∧ leads (exec .refRestored (at_ worker noRef)) (fun t => t.d.clk.refOk && t.d.clk.sync = .holdover) = true
    ∧ leads (exec .refRelockTimeout (at_ worker noRef)) (fun t => t.d.pwr.mode = .m11 && t.d.pwr.faultCause = 2) = true := by decide +kernel

theorem witness_slowCalibration :
    leads (exec (.slowCalibration 32769 400000000) (at_ worker served)) (fun t => t.d.clk.calStart = sec 1) = true := by decide +kernel

/-- A slew is held. -/
def slewing : Dev := { served with clk := { served.clk with sync := .locked, phaseSlew := 500, slewUntil := some 6400 }, rw := dictPut 0x180003 (.num 1) served.rw }

theorem witness_slew : slewing.clk.slewUntil = some 6400 ∧ slewing.clk.sync = .locked ∧ numN slewing 0x180003 ≠ 0
    ∧ leads (exec .phaseSlewEnd (at_ worker slewing)) (fun t => t.d.clk.phaseSlew = 0 && 6400 ≤ t.d.clk.up) = true
    ∧ leads (exec .sourceTimeout (at_ worker slewing)) (fun t => t.d.clk.sync = .holdover && t.d.ev.pending.testBit 16) = true := by decide +kernel

/-- HOLDOVER with an estimate of 900 ns. -/
def holding : Dev := { served with clk := { served.clk with sync := .holdover, align := 900, lockedAlign := 900, holdover := some (900, 0) } }

theorem witness_alignExceeded : holding.clk.holdover = some (900, 0) ∧ 0 < numN holding 0x18000F
    ∧ leads (exec .alignExceeded (at_ worker holding)) (fun t => 1000 < t.d.clk.align && t.d.ev.pending.testBit 17) = true := by decide +kernel

/-- STEP by -5 ns, and to 7 ns. -/
def stepArg : List Byte := [0, 0, 0, 0, 0, 0, 0, 0, 251, 255, 255, 255, 255, 255, 255, 255]
def setArg : List Byte := [1, 0, 0, 0, 0, 0, 0, 0, 7, 0, 0, 0, 0, 0, 0, 0]

theorem witness_step : accepts slewing req 0x180008 = true ∧ stepAllowed worker slewing = true ∧ stepArg.length = 16 ∧ leAt stepArg 0 1 = 0 ∧ leAt stepArg 1 7 = 0
    ∧ signedOf 8 (leAt stepArg 8 8) = -5
    ∧ leads (exec (.step req stepArg) (at_ worker slewing)) (fun t => tbNs t.d = -5 && t.d.clk.sync = .acquiring && said t = some .ok) = true
    ∧ leads (exec (.step req setArg) (at_ worker slewing)) (fun t => tbNs t.d = 7 && t.d.ev.pending.testBit 18) = true := by decide +kernel

/-- A slave with a parent, on both ports, whose links are up. -/
def slave : Dev :=
  { served with
    rw := dictPut 0x180003 (.num 0) (dictPut 0x182001 (.num 1) (dictPut 0x182003 (.num 3) served.rw))
    shp := { served.shp with ports := [{ up := true, speed := 3 }, { up := true, speed := 3 }] }
    ptp := { served.ptp with parent := some ⟨0, 77, 1, 128, 6, 0, 0, 128, 77, 0, 37, 0, 1000⟩
                             pendingSync := some (4, 100, 0), pendingDelay := some (9, 500), lastSync := some (100, 160) } }

/-- The head of its messages, a Sync in two steps, one in one step, and an Announce. -/
def ptpHead (seq : Nat) : PtpHead := ⟨0, numN served 0x182004, numN served 0x182002, seq, 77, 1⟩
def syncMsg : PtpSync := ⟨ptpHead 4, true, 90, 0⟩
def oneStep : PtpSync := ⟨ptpHead 4, false, 90, 2⟩
def annMsg : PtpAnnounce := ⟨ptpHead 1, 100, 6, 0, 0, 128, 77, 0, 37, 1000⟩

theorem witness_ptp_slave : ptpAccepts slave 1 (ptpHead 4) = true ∧ fromParent slave (ptpHead 4) = true ∧ ptpRuns slave = true ∧ ptpPort slave 0 = true
    ∧ ptpN slave 0x182001 = 1
    ∧ leads (exec (.sync syncMsg) (at_ worker slave)) (fun t => (t.d.ptp.pendingSync.map Prod.fst) = some 4) = true
    ∧ leads (exec (.sync oneStep) (at_ worker slave)) (fun t => (t.d.ptp.lastSync.map Prod.fst) = some 92) = true
    ∧ leads (exec (.followUp (ptpHead 4) 90 1) (at_ worker slave)) (fun t => t.d.ptp.lastSync = some (91, 100)) = true
    ∧ leads (exec (.delayResp (ptpHead 9) true 560 0) (at_ worker slave)) (fun t => t.d.ptp.meanPath = 60) = true
    ∧ leads (exec (.announce annMsg) (at_ worker slave)) (fun t => t.d.ptp.foreign.length = 1) = true
    ∧ leads (exec (.ptpDiscard 0 (numN served 0x182004)) (at_ worker slave)) (fun t => counter t.d 0x18200B = 1) = true
    ∧ leads (exec (.ptpInterval .delayReq) (at_ worker slave)) (fun t => t.d.out.length = 1 && t.d.ptp.pendingDelay.map Prod.fst = some 0) = true := by decide +kernel

/-- The manager as master. -/
def master : Dev :=
  { served with rw := dictPut 0x182001 (.num 2) (dictPut 0x182003 (.num 3) served.rw), shp := { served.shp with ports := [{ up := true, speed := 3 }, {}] } }

theorem witness_ptp_master : manager.manager = true ∧ ptpAccepts master 2 (ptpHead 3) = true ∧ numN master 0x182001 = 2 ∧ ptpRuns master = true
    ∧ leads (exec (.delayReq (ptpHead 3) 55) (at_ manager master)) (fun t => t.d.out.length = 1) = true
    ∧ leads (exec (.ptpInterval .sync) (at_ manager master)) (fun t => t.d.out.length = 2) = true
    ∧ leads (exec (.ptpInterval .announce) (at_ manager master)) (fun t => t.d.out.length = 1 && sec 2 ≤ t.d.clk.up) = true := by decide +kernel

/-- PPS_IN and PPS_OUT are enabled. -/
def pulses : Dev := { served with rw := dictPut 0x183001 (.num 1) (dictPut 0x183005 (.num 1) (dictPut 0x183008 (.num 0) served.rw)), pps := { served.pps with ticksLeft := 3, before := some (0, ⟨true, 0, 5, true, 1000, 7, 0⟩) } }

theorem witness_pps : refRuns pulses = true ∧ (ppsSet pulses).inEn = true ∧ (ppsSet pulses).inEdge = boolNum false ∧ (ppsDue pulses).outEn = true
    ∧ (ppsDue pulses).gate ≠ 1 ∧ nextPpsSecond pulses (ppsDue pulses) = 0
    ∧ leads (exec (.ppsInEdge false) (at_ worker pulses)) (fun t => t.d.gpio.ppsIn && t.d.pps.inLast = -5) = true
    ∧ leads (exec .ppsInMissing (at_ worker pulses)) (fun t => t.d.pps.missing = 3 && t.d.ev.pending.testBit 19) = true
    ∧ leads (exec .ppsOutStart (at_ worker pulses)) (fun t => t.d.pps.out && 7 ≤ tbNs t.d && t.d.pps.ticksLeft = 400) = true
    ∧ leads (exec .ppsOutEnd (at_ worker { pulses with pps := { pulses.pps with out := true } })) (fun t => !t.d.pps.out) = true := by decide +kernel


/-- TB_SOURCE 0 may be written in LOCKED. -/
theorem witness_tbSource : slewing.clk.sync ≠ .free ∧ writes worker slewing req 0 (writeItem 0x180003 [0]) = true := by decide +kernel

/-! ## Sessions and requests (witnesses of SessionCommandsComplete, RequestCommandsComplete, RelayCommandsComplete, LatchHoldsTheUpperHalf,
RepeatedRequestIsNotExecutedAgain, FailedTagIsDiscardedInSilence, AtomicWriteIsAllOrNothing) -/

/-- Credential 3 is set, enabled and of level 2; a handshake of it is under way, credential 4 is refused. -/
def creds : Dev :=
  { served with
    nv := { served.nv with rp := dictPut 0x020004 (.num 1) (dictPut 0x021301 (.bytes (List.replicate 64 1)) (dictPut 0x021302 (.num 2) (dictPut 0x021303 (.num 1) []))) }
    qdl := { served.qdl with handshakes := [shaken], credFails := [⟨4, [], some 0⟩] } }
where shaken : Handshake := ⟨9, 3, .muart, 0, 11, 12, 13, 14⟩

/-- The PROOF of the handshake's host. -/
def hsig : HandSig := ⟨some (List.replicate 64 1), 3, 11, 12, 9, 13, 14⟩

theorem witness_hello : arrives creds {} = true ∧ headGood {} = true ∧ refused creds 3 = false ∧ credUsable creds 3 = true
    ∧ sessionsFull creds = false ∧ openLevel creds .muart = some 0 ∧ credUsable creds 5 = false
    ∧ sessionsFull { creds with qdl := { creds.qdl with sessions := List.replicate 8 hostSession } } = true
    ∧ leads (exec (.hello {} 0 3 21 22) (at_ worker creds)) (fun t => t.d.qdl.handshakes.length = 2 && t.d.out.length = 1) = true
    ∧ leads (exec (.hello {} 0 255 21 22) (at_ worker creds)) (fun t => t.d.qdl.sessions.length = 2) = true
    ∧ leads (exec (.hello {} 0 5 21 22) (at_ worker creds)) (fun t => counter t.d 0x020006 = 1) = true := by decide +kernel

theorem witness_sessions : handshakeOn creds .muart 9 = some creds.shaken ∧ hsigOk creds creds.shaken (some hsig) = true ∧ hsigOk creds creds.shaken none = false
    ∧ findKey Handshake.id 9 creds.qdl.handshakes = some creds.shaken ∧ (credFail creds 4).refusedAt = some 0
    ∧ sessionOn creds .muart 5 = some hostSession ∧ authFits hostSession req = true ∧ accepts creds req 0x020008 = true
    ∧ leads (exec (.proof {} 9 1 (some hsig)) (at_ worker creds)) (fun t => (session t.d 9).map Session.level = some 2) = true
    ∧ leads (exec (.proof {} 9 1 none) (at_ worker creds)) (fun t => (session t.d 9).isNone && counter t.d 0x020006 = 1) = true
    ∧ leads (exec (.proofTimeout 9) (at_ worker creds)) (fun t => t.d.qdl.handshakes.isEmpty && sec 5 ≤ t.d.clk.up) = true
    ∧ leads (exec (.credentialRefusalEnd 4) (at_ worker creds)) (fun t => !refused t.d 4) = true
    ∧ leads (exec (.close req) (at_ worker creds)) (fun t => t.d.qdl.sessions.isEmpty) = true
    ∧ leads (exec (.sessionIdleTimeout 5) (at_ worker creds)) (fun t => t.d.qdl.sessions.isEmpty) = true
    ∧ leads (exec (.closeAll req []) (at_ worker creds)) (fun t => said t = some .ok) = true := by decide +kernel

/-- A WRITE of a campaign's C_MCAST_MIN, and one of an entry that does not exist. -/
def goodItem : WItem := ⟨0x6113, 6, 2, [9, 0]⟩
def badItem : WItem := ⟨0x1000, 0xEE, 9, [1]⟩

/-- The session is subscribed to MODE, and was last told M6; a latch of timer 2 is held. -/
def told : Dev :=
  { served with
    qdl := { sessions := [{ hostSession with subs := [⟨8, false, 0x100001, 20, some 0, some (.num 6)⟩], latches := [(tmKey 2 0x11, 6)] }] }
    timers := upd served.timers 2 (fun t => { t with count := 0x700000003 }) {} }

theorem witness_writes : writes worker served req 0 goodItem = true
    ∧ writes worker creds req 0 (writeItem ((0x0210 + 3) * 256 + 3) [BitVec.ofNat 8 (boolNum true)]) = true
    ∧ bulkCheck served (levelOf served req) 0x6100 3 4 2 = .ok ∧ takesUp served req = true
    ∧ subCheck served 3 1 33 0 = .ok ∧ subCheck served 3 0 0x1000 1 = .ok
    ∧ leads (exec (.entryWrite req false [goodItem]) (at_ worker served)) (fun t => said t = some .ok && num t.d 0x611306 = 9) = true
    ∧ leads (exec (.bulkWrite req 0x6100 3 4 [7, 8]) (at_ worker served)) (fun t => stagedOctets t.d 0x610003 = [(4, 7), (5, 8)]) = true
    ∧ leads (exec (.subscribe req 1 1 33 0 5) (at_ worker served)) (fun t => (session t.d 5).map (fun x => x.subs.length) = some 1) = true
    ∧ (session told 5).map (fun x => x.subs.any (fun y => y.id = 8)) = some true
    ∧ leads (exec (.subscribe req 2 0 0 8 0) (at_ worker told)) (fun t => (session t.d 5).map Session.subs = some []) = true
    ∧ leads (exec (.subscribe req 3 0 0 0 0) (at_ worker served)) (fun t => said t = some .ok) = true := by decide +kernel

theorem witness_notify : (session (foldMissed told) 5).map (fun x => x.subs.find? (fun z => z.id = 8 && !z.event)) = some (some ⟨8, false, 0x100001, 20, some 0, some (.num 6)⟩)
    ∧ valueNow worker told 0x100001 ≠ some (.num 6) ∧ valueNow worker (foldMissed (reach told (0 + ms (Nat.max 20 10)))) 0x100001 = some (.num 7)
    ∧ leads (exec (.notify 5 8) (at_ worker told)) (fun t => t.d.out.length = 1) = true := by decide +kernel

/-- What a READ response carries. -/
def readBack (t : State) : Option (List Val) :=
  match (replyOf t.d req).map Prod.snd with | some (.read l) => some (l.map (fun x => x.2.2.2)) | _ => none

theorem witness_latch : takesUp told req = true ∧ told.start.bootRuntime = false ∧ findKey Prod.fst (tmKey 2 0x11) (latches told (some 5)) = some (tmKey 2 0x11, 6)
    ∧ findKey Prod.fst (tmKey 3 0x11) (latches told (some 5)) = none
    ∧ leads (exec (.hiRead req false [⟨0x1912, 0x11, false⟩]) (at_ worker told)) (fun t => readBack t = some [.num 6]) = true
    ∧ leads (exec (.hiRead req false [⟨0x1913, 0x13, false⟩]) (at_ worker told)) (fun t => readBack t = some [.num 0]) = true
    ∧ leads (exec (.loRead req false [⟨0x1912, 0x10, false⟩, ⟨0x1912, 0x11, false⟩]) (at_ worker told)) (fun t => readBack t = some [.num 3, .num 7]) = true
    ∧ leads (exec (.loRead req false [⟨0x1912, 0x10, false⟩]) (at_ worker told)) (fun t =>
        readBack t = some [.num 3] && latches t.d (some 5) = [(tmKey 2 0x11, 7)]) = true := by decide +kernel

/-- The manager with worker 7 provisioned and linked, awaiting one answer of it. -/
def relays : Dev :=
  { served with
    nv := { served.nv with rp := dictPut ((0x7020 + 7) * 256 + 2) (.bytes (List.replicate 64 1)) [] }
    hier := { served.hier with links := [linkOf 7], ws := [{ id := 7, hstate := 2, qseq := 3 }] }
    qdl := { served.qdl with relays := [⟨some 6, 4, 7, 3, 0, .muart⟩] } }

/-- The same, the answer awaited by the session of the tests; and a worker linked to the manager. -/
def asking5 : Dev := { relays with qdl := { relays.qdl with relays := [⟨some 5, 1, 7, 3, 0, .muart⟩] } }
def linked : Dev := { served with hier := { served.hier with links := [linkOf 0] } }

theorem witness_relay : takesUp relays req = true ∧ manager.manager = true ∧ innerBad (.exec 0x1000 9 []) = false ∧ reachable relays 7 = true ∧ reachable relays 8 = false
    ∧ relayOf relays 7 3 = some ⟨some 6, 4, 7, 3, 0, .muart⟩
    ∧ leads (exec (.relay req 7 (.exec 0x1000 9 [])) (at_ manager relays)) (fun t => t.d.qdl.relays.length = 2) = true
    ∧ leads (exec (.relay req 8 (.exec 0x1000 9 [])) (at_ manager relays)) (fun t => said t = some .unreachable) = true
    ∧ leads (exec (.relayTimeout 7 3) (at_ manager relays)) (fun t => t.d.qdl.relays.isEmpty) = true
    ∧ hlTakes asking5 headOf 7 (.relayRsp 3 .busy .empty) = true ∧ relayOf asking5 7 3 = some ⟨some 5, 1, 7, 3, 0, .muart⟩
    ∧ leads (exec (.relayRsp headOf 3 .busy .empty) (at_ manager asking5)) (fun t => replyOf t.d req = some (.ok, .relay 7 .busy .empty)) = true
    ∧ worker.role = 2 ∧ q5Waits linked = false ∧ hlTakes linked headOf 0 (.relayReq 4 2 (.write false [goodItem])) = true ∧ (writeOne worker (Nat.min 2 3) 0 linked goodItem).2 = .ok
    ∧ leads (exec (.relayReq headOf 4 0 (.write false [goodItem])) (at_ worker linked)) (fun t => t.d.hier.relayed.length = 1) = true := by decide +kernel

/-- The session has executed SEQ 1 and SEQ 3. -/
def executed : Dev := { served with qdl := { sessions := [{ hostSession with kept := [(1, .wrongMode, .empty), (3, .ok, .empty)], topSeq := some 3 }] } }

theorem witness_repeat : (sessionOn executed .muart 5).map (fun x => ((keptOf x 1).isSome, (keptOf x 2).isSome, seqStale x 2)) = some (true, false, true)
    ∧ (sessionOn executed .muart 5).map (fun x => ((keptOf x 4).isSome, seqStale x 4)) = some (false, false)
    ∧ requestsWait executed 5 = false ∧ (waiting executed 5).isEmpty = true ∧ (session executed 5).map (fun x => authFits x req) = some true
    ∧ leads (exec (.step req stepArg) (at_ worker executed)) (fun t => said t = some .wrongMode && tbNs t.d = 0) = true := by decide +kernel

/-- An authenticated session. -/
def authed : Dev := { served with qdl := { sessions := [{ hostSession with auth := true, key := ⟨1, 2, 3, 4⟩ }] } }

/-- A request PDU of it whose tag fails, and one whose tag verifies. -/
def forged : Req := ⟨5, 1, { tag := some ⟨⟨1, 2, 3, 4⟩, 5, 2, 0⟩ }⟩
def tagged : Req := ⟨5, 1, { tag := some ⟨⟨1, 2, 3, 4⟩, 5, 1, 0⟩ }⟩

theorem witness_tag : arrives authed forged.head = true ∧ headGood forged.head = true ∧ (sessionOn authed .muart 5).map (fun x => (x.auth, authFits x forged, tagOk x forged, tagOk x tagged)) = some (true, true, false, true)
    ∧ leads (exec (.arm forged 0 []) (at_ worker authed)) (fun t => counter t.d 0x020006 = 1 && t.d.out.isEmpty) = true
    ∧ leads (exec (.step tagged []) (at_ worker authed)) (fun t => counter t.d 0x020006 = 0 && t.d.out.length = 1) = true := by decide +kernel

theorem witness_atomic : firstFail (atomicChecks worker 3 (heard served req) [goodItem, badItem]) = .noEntry
    ∧ firstFail (atomicChecks worker 3 (heard served req) [goodItem]) = .ok ∧ (commitItems (heard served req) [goodItem]).2 = .ok
    ∧ leads (exec (.entryWrite req true [goodItem, badItem]) (at_ worker served)) (fun t => said t = some .noEntry && t.d.rw.isEmpty) = true
    ∧ leads (exec (.entryWrite req true [goodItem]) (at_ worker served)) (fun t => said t = some .ok && t.d.rw.length = 1) = true := by decide +kernel

/-! ## Radio and lanes (witnesses of FrontEndCommandsComplete, LaneCommandsComplete) -/

/-- Band G calibrates after a mask violation; Band SF waits for one, and transmits. -/
def calibrating : Dev :=
  { served with bandG := { served.bandG with state := .cal, cal := some .mask, inhibit := true, calKeys := [feKey .g 0x11] }
                bandSf := { served.bandSf with calPending := some (0, false), tx := some { channel := 3, dest := none, isAck := false, fin := 1000, after := .nothing } }
                pwr := { served.pwr with baseFull := true } }

theorem witness_frontEnd : accepts served req (feKey .sf 0x11) = true ∧ accepts served req (maskKey .g 7) = true ∧ worker.manager = false
    ∧ calibrating.bandG.cal = some .mask ∧ calibrating.bandSf.calPending = some (0, false) ∧ calibrating.bandSf.tx.isSome = true
    ∧ leads (exec (.calibrate req .sf []) (at_ worker served)) (fun t => t.d.bandSf.state = .cal && said t = some .ok) = true
    ∧ leads (exec (.clearInhibit req .g []) (at_ worker served)) (fun t => t.d.bandG.cal = some .clear) = true
    ∧ leads (exec (.calDone .g 500) (at_ worker calibrating)) (fun t => t.d.bandG.imageRej = 500 && !t.d.bandG.inhibit) = true
    ∧ leads (exec (.calAbandoned .sf) (at_ worker calibrating)) (fun t => t.d.ev.pending.testBit 25) = true
    ∧ leads (exec (.maskViolation .sf) (at_ worker calibrating)) (fun t => t.d.bandSf.inhibit && t.d.bandSf.tx.isNone && t.d.ev.pending.testBit 27) = true := by decide +kernel

/-- A binding, a frame, and a lane 20 (channel 15 of Band G) in a given state. -/
def bound : Binding := ⟨15, 0, 0, false, 1, 1, 0, none, none, false, false, false⟩
def held_ : LaneFrame := ⟨0, -700, 0, some 3, 20, false, 0, false, false, false, bound⟩
def laneIn (st : LaneState) (l : Option (Int × Bool × Nat)) (f : Option LaneFrame) (nest : Nat) : Dev :=
  { served with lanes := upd served.lanes 20 (fun x => { x with state := st, bind := some bound, lock := l, frame := f, nest := nest }) {}
                store := { served.store with granules := [⟨3, 1, 1, 32, 20, 0, .bytes [], false, 0⟩] } }
def loud : Signal := ⟨-500, 0⟩

/-- The same where the store has no granule to give: which one it gives otherwise is open. -/
def bare (d : Dev) : Dev := { d with store := { served.store with fbUnits := 0 } }

theorem witness_lanes : acquirable (laneIn .search none none 0) 20 8 bound false loud = true ∧ acquirable (laneIn .search none none 0) 20 8 bound true loud = true
    ∧ -700 + rehomeBy served 20 ≤ loud.level ∧ withinSymbol 20 bound (stampNs served) held_.sfdTime = true
    ∧ phrValid served .g 20 0 = true ∧ phrValid served .g 3 0 = false
    ∧ leads (exec (.preambleAcquired 20 8 loud) (at_ worker (laneIn .search none none 0))) (fun t => (lane t.d 20).state = .preamble) = true
    ∧ leads (exec (.correlatorHandover 20 8 loud) (at_ worker (laneIn .search none none 0))) (fun t => counter t.d (corrKey 20 2) = 1) = true
    ∧ leads (exec (.rehome 20 loud false) (at_ worker (laneIn .preamble (some (-700, false, 0)) none 0))) (fun t => (lane t.d 20).lock = some (-500, true, 0)) = true
    ∧ leads (exec (.rehome 20 loud true) (at_ worker (laneIn .preamble (some (-700, false, 0)) none 0))) (fun t => (lane t.d 20).other.isSome) = true
    ∧ leads (exec (.rehome 20 loud true) (at_ worker (bare (laneIn .header none (some held_) 0)))) (fun t => (lane t.d 20).frame.map LaneFrame.rssi = some (-500)) = true
    ∧ leads (exec (.sfdFound 20 loud) (at_ worker (bare (laneIn .preamble (some (-700, false, 0)) none 0)))) (fun t => (lane t.d 20).frame.map LaneFrame.handed = some false) = true
    ∧ leads (exec (.preambleTimeout 20) (at_ worker (laneIn .preamble (some (-700, false, 0)) none 0))) (fun t => (lane t.d 20).lock = none && counter t.d (laneKey 20 11) = 1) = true
    ∧ leads (exec (.phrReceived 20 20 0) (at_ worker (laneIn .header none (some held_) 0))) (fun t => (lane t.d 20).state = .payload) = true
    ∧ leads (exec (.phrReceived 20 3 0) (at_ worker (laneIn .header none (some held_) 0))) (fun t => (lane t.d 20).frame = none) = true := by decide +kernel

/-- The lane's frame is older than a symbol. -/
def later : Dev := reach (laneIn .payload none (some held_) 0) (us 200)

/-- A frame of the neighbour expected first, whose source address 0x1234 has come in. -/
def heard_ : LaneFrame := { held_ with bind := { bound with neighbour := some 0x1234, expectedFirst := true } }
def expected : List Byte := [0x01, 0xA0, 0, 0x34, 0x12, 0x34, 0x12]

theorem witness_lanes2 : withinSymbol 20 bound (stampNs later) held_.sfdTime = false ∧ held_.rssi + slotNum later (bandLaneKey (laneBand 20) 1) ≤ loud.level
    ∧ keepsFrame later 20 held_ [] = false ∧ keepsFrame later 20 heard_ expected = true
    ∧ leads (exec (.lastPsduChip 20 plainFrame true 100 0 false) (at_ worker (laneIn .payload none (some held_) 0)))
        (fun t => (lane t.d 20).frame = none && counter t.d (laneKey 20 5) = 1 && (queue t.d 1).count = 1) = true := by decide +kernel

theorem witness_laneFaults : (lane (laneIn .header none none 1) 20).powered = true ∧ accepts (laneIn .quarantined none none 0) req (bandLaneKey .g 0x0A) = true
    ∧ (bandLanes .g).contains 20 = true
    ∧ leads (exec (.laneFault 20 true) (at_ worker (laneIn .header none none 1))) (fun t => (lane t.d 20).nest = 2 && t.d.ev.pending.testBit 32) = true
    ∧ leads (exec (.laneRecovered 20) (at_ worker (laneIn .recover none none 3))) (fun t => (lane t.d 20).state = .quarantined) = true
    ∧ leads (exec (.laneRecovered 20) (at_ worker (laneIn .recover none none 1))) (fun t => (lane t.d 20).state = .idle) = true
    ∧ leads (exec (.laneRestore req .g [20]) (at_ worker (laneIn .quarantined none none 0))) (fun t => (lane t.d 20).state = .off && said t = some .ok) = true := by decide +kernel

/-! ## Slots and schedule deltas (witnesses of SlotCommandsComplete, DeltasSwitchOrChangeNothing) -/

/-- A frame, secured, at the head of neighbour 9's list, and the plan that sends it in Band SF. -/
def headItem : TxItem := { id := 1, desc := ⟨4, 0, 20, none, .plain⟩, at_ := 0, ackReq := false, secure := true, seq := some 3, secured := some (7, 5) }
def sends : TxPlan := ⟨.frame 9, 0, 1, 1, 3, 0, 100, 0, some 9, 4100000, 9000000, 20, false, 1, 1, 0, {}⟩
def slotPlan : SlotPlan := ⟨5, 1000, { tx := some sends }, {}, []⟩

/-- The window of the cell that lane 20 is bound for, 1 to 3 ms on the time base. -/
def rxPlan : RxPlan := { handle := 1, loc := 1, cls := 0, options := 0, neighbour := none, channels := [15], spread := 0, power := 0, span := 1, guard := 0
                         opens := 1000000, closes := 3000000, limit := 9000000, t0 := 0, tmpl := {} }

/-- A device that runs a schedule, with a slot prepared, one in progress, an acknowledgement owed and one awaited. -/
def slotted : Dev :=
  { laneIn .idle none none 0 with
      sched := { served.sched with st := .running, prep := some { slotPlan with asn := 6, t0 := 5000 }, now := some slotPlan, past := [(0, .g, rxPlan)] }
      nbr := { served.nbr with
        lists := [⟨9, [headItem]⟩]
        acks := [⟨.g, 15, 0, 100, 9, .short 9, some 4, false, 0, 0, 0, 4000, 900000, 0, 0, false, none, none⟩]
        awaits := [⟨.sf, .frame 9, 9, 3, true, 0, 8000, 0, 1, 0, none, 0, false, false⟩] } }

theorem witness_slots : preparesSlots { slotted with sched := { slotted.sched with prep := none } } = true ∧ slotsHeld slotted = false
    ∧ leads (exec .slotPreparation (at_ worker { slotted with sched := { slotted.sched with prep := none } })) (fun t => t.d.sched.prep.isSome) = true
    ∧ leads (exec .slotStart (at_ worker slotted)) (fun t => t.d.sched.asn = 6 && t.d.sched.prep.isNone && 5000 ≤ tbNs t.d) = true
    ∧ sequencerOn slotted = true ∧ plannedWindow slotted .g 1 1 = some (0, rxPlan) ∧ windowSeen (comeTo slotted rxPlan.opens) .g 0 rxPlan = false
    ∧ tbNs (comeTo slotted rxPlan.opens) < rxPlan.closes
    ∧ leads (exec (.windowOpen .g 1 1) (at_ worker slotted)) (fun t => (lane t.d 20).state = .search && t.d.bandG.state = .rx && 1000000 ≤ tbNs t.d
        && leads (exec (.windowClose .g 1 1) t) (fun u => (lane u.d 20).state ≠ .search && (openWindows u.d .g).isEmpty && 3000000 ≤ tbNs u.d)) = true := by decide +kernel

theorem witness_transmit : sequencerOn slotted = true ∧ (txList slotted 9).head? = some headItem ∧ refuses (comeTo slotted (4100000 - 40000)) .sf = false
    ∧ (request (dropPlan slotted .sf) .sf sends.nominal (-30000)).2 = .go 4100000
    ∧ leads (exec (.cellTransmit .sf (-30000) 0) (at_ worker slotted)) (fun t => t.d.out.length = 1 && t.d.bandSf.tx.isSome) = true
    ∧ leads (exec (.cellTransmit .sf 40000 0) (at_ worker slotted)) (fun t => t.d.out.length = 0 && t.d.ev.pending.testBit 26) = true
    ∧ leads (exec (.ackTransmit .g 0 0) (at_ worker slotted)) (fun t => t.d.out.length = 1 && t.d.nbr.acks = []) = true
    ∧ leads (exec (.ackWindowClose .sf) (at_ worker slotted)) (fun t => t.d.nbr.awaits = [] && counter t.d 0x310018 = 1) = true := by decide +kernel

/-- A delta that adds slotframe 0 of Band SF with 7 slots: SEQ 1, SWITCH_ASN 100, and the octets of its signature. -/
def deltaWords : List Byte :=
  toLe 1 1 ++ toLe 1 0 ++ toLe 2 0 ++ toLe 4 0 ++ toLe 4 1 ++ toLe 1 255 ++ toLe 3 0 ++ toLe 8 100 ++ toLe 2 1 ++ toLe 2 0 ++ toLe 4 8
    ++ (toLe 1 2 ++ toLe 1 0 ++ toLe 2 4 ++ toLe 1 0 ++ toLe 1 0 ++ toLe 2 7) ++ toLe 64 0

/-- A device whose schedule runs, with that delta at P3. -/
def offered : Dev :=
  (push { served with sched := { served.sched with st := .running, working := [(0x38000000, deltaWords)] } } 51
    ⟨0x0E, 0, 0, none, .delta 1 0 0x38000000 deltaWords.length 0⟩).1

theorem witness_delta : qdlServed offered = true ∧ offered.pwr.mode ≠ .m9 ∧ (takeFrom offered 51).2.isSome = true
    ∧ leads (exec (.deltaCheck true) (at_ worker offered)) (fun t => t.d.sched.accepted = 1 && t.d.sched.pending.length = 1 && t.d.sched.working = []) = true
    ∧ leads (exec (.deltaCheck false) (at_ worker offered)) (fun t => t.d.sched.accepted = 0 && t.d.sched.lastReason = 2 && t.d.ev.pending.testBit 42) = true
    := by decide +kernel

theorem witness_deltaRows : accepts served req 0x301002 = true ∧ (queue served 51).space 51 = true ∧ (queue served 51).drain = []
    ∧ (queue served 51).fill = [] ∧ (queue served 51).taken = none
    ∧ accepts served req 0x301003 = true ∧ accepts served req 0x308001 = true
    ∧ writes worker served req 0 (writeItem (0x3040 * 256 + 4) [1]) = true
    ∧ leads (exec (.deltaDiscard req []) (at_ worker served)) (fun t => said t = some .ok) = true
    ∧ leads (exec (.cellQuery req [0, 0, 0, 0]) (at_ worker served)) (fun t => said t = some .noEntry) = true
    ∧ leads (exec (.sfSuspendWrite req 0 1) (at_ worker served)) (fun t => said t = some .ok && flag t.d 0x304004) = true := by decide +kernel

/-! ## Neighbours (witnesses of the statements of chapter 7) -/

/-- Neighbour 9, ACTIVE, with RX_FC 0x1F3F and RX_DSN 0x3B (the worked example of R223), its record and its table entry. -/
def pen : Pennant := { short := 9, eui := 77, state := .active, rxFc := 0x1F3F, rxDsn := 0x3B, fcValid := true, dsnValid := true, syncValid := true, lastHeard := 1 }
def node9 : Node := { index := 4, eui := 77, short := 9, pennant := some pen, sec := { keyGen := 1, skValid := true, usesLeft := 1000 } }
def entry9 : NtEntry := ⟨0, false, 77, 9, false, false, false, true, false, false, 7, 1, 0, 4, 0, 0⟩
def cell9 : Cell := ⟨0, 1, 0, 0, 1, 3, 9, 0, 127, 1, 1, 0⟩

/-- A served device that holds it, runs a schedule and has the key of its district. -/
def home : Dev :=
  { served with
      nbr := { served.nbr with nodes := [node9] }
      fwd := { served.fwd with entries := [entry9], sidx := [(9, 77)] }
      sched := { served.sched with st := .running, ver := { served.sched.ver with cells := [cell9] } }
      hier := { served.hier with st := .leased, leaseEnd := 1000000000000 }
      can := { served.can with table := [⟨6, 0, false, true, 1, 5, 0⟩], kek := true } }

/-- A received frame of neighbour 9 at a queue, with SECSTAT `st`, in granule 3. -/
def rxInfo (st : Nat) (v : Nat) : RxInfo :=
  ⟨5000, 0, 1, 0, 20, 15, 1, .g, false, false, false, 10, -600, 200, 0, true, false, true, false, false, false, true, false, { secstat := st, verdict := v }⟩
def frameIn (f : MacFrame) (q st v : Nat) : Dev :=
  (push { home with store := { home.store with granules := [⟨3, 1, 1, 32, 20, 0, .mac f, false, 0⟩] } } q ⟨1, 0, 20, some 3, .rx (rxInfo st v)⟩).1
def fromNine (fc dsn : Nat) : MacFrame :=
  { plainFrame with src := .short 9, seq := some dsn, secured := true, level := 5, fc := fc, key := .raw 1, payload := .data [1] }

theorem witness_verify : (takeFrom (frameIn plainFrame 1 0 0) 1).2.isSome = true ∧ (queue (frameIn plainFrame 1 0 0) 2).space 2 = true
    ∧ macOf (frameIn plainFrame 1 0 0) (some 3) = some plainFrame
    ∧ leads (exec (.rxVerify .g) (at_ worker (frameIn plainFrame 1 0 0)))
        (fun t => ((queue t.d 2).packets.map Desc.body) = [.rx { rxInfo 0 0 with stage := { secstat := 1 } }]) = true := by decide +kernel

theorem witness_judged : verdictOf (frameIn (fromNine 0x1F40 0x3C) 2 2 0) ⟨1, 0, 20, some 3, .plain⟩ (rxInfo 2 0) (fromNine 0x1F40 0x3C) = .accepted
    ∧ (sourceNode home (fromNine 0x1F40 0x3C)).isSome = true ∧ awaitOf home (rxInfo 2 0) = none
    ∧ leads (exec .frameJudgement (at_ worker (frameIn (fromNine 0x1F40 0x3C) 2 2 0)))
        (fun t => (queue t.d 3).count = 1 && counter t.d 0x310013 = 1 && (pennantOf t.d 9).map Pennant.rxFc = some 0x1F40 && t.d.nbr.hitMarks = [9]) = true
    ∧ leads (exec .frameJudgement (at_ worker (frameIn (fromNine 0x1F3F 0x3B) 2 2 0)))
        (fun t => (queue t.d 3).count = 0 && counter t.d 0x310014 = 1 && (pennantOf t.d 9).map Pennant.lastHeard = some 5000) = true
    ∧ leads (exec .frameJudgement (at_ worker (frameIn (fromNine 0x1F3E 0x3A) 2 2 0)))
        (fun t => counter t.d 0x310015 = 1 && t.d.ev.pending.testBit 51 && pennantOf t.d 9 = some pen) = true
    ∧ leads (exec .frameJudgement (at_ worker (frameIn (fromNine 0x1F3F 0x3D) 2 2 0))) (fun t => counter t.d 0x310015 = 1 && pennantOf t.d 9 = some pen) = true := by
  decide +kernel

theorem witness_tests : leads (exec .hitMark (at_ worker { home with nbr := { home.nbr with hitMarks := [9] } })) (fun t => t.d.nbr.hitMarks = [] && (tableEntry t.d 77).map NtEntry.hit = some true) = true
    ∧ named home 9 = true
    ∧ leads (exec .adriftCheck (at_ worker { home with clk := { home.clk with tb := BitVec.ofNat 96 (90000000000000 * 4294967296) } }))
        (fun t => (nodeOf t.d 9).map Node.state = some .adrift && t.d.ev.pending.testBit 48) = true
    ∧ leads (exec .txHoldCheck (at_ worker { home with clk := { home.clk with up := 10 ^ 15 }, nbr := { home.nbr with lists := [⟨9, [headItem]⟩] } }))
        (fun t => txList t.d 9 = [] && counter t.d 0x310019 = 1) = true
    ∧ leads (exec .rxNotOkRecord (at_ worker (frameIn plainFrame 4 0 9))) (fun t => (queue t.d 4).count = 0) = true := by decide +kernel

/-- Descriptors of frames to send. -/
def p0Desc : Desc := ⟨0x0B, 0, 20, none, .p0 ⟨0, 9, 0, true, true, .g, 15, 1, 0, 1, 0⟩⟩
def downDesc : Desc := ⟨6, 0, 20, none, .down ⟨0, 9, 0, 0, true, 0, 0, 3, 5, false, 0⟩⟩
def imageDesc : Desc := ⟨8, 0, 20, none, .image 0 2 9 0 0 0 9 0 0⟩

theorem witness_lists : leads (exec .timedTransmit (at_ worker (push home 48 p0Desc).1)) (fun t => (txList t.d 9).map TxItem.desc = [p0Desc]) = true
    ∧ leads (exec .downlinkFrame (at_ worker (push home 32 downDesc).1)) (fun t => (txList t.d 9).map TxItem.desc = [downDesc]) = true
    ∧ leads (exec .imageBlock (at_ worker (push home 35 imageDesc).1)) (fun t => (txList t.d 9).map TxItem.desc = [imageDesc]) = true
    ∧ leads (exec .secureFrame (at_ worker (push home 33 downDesc).1)) (fun t => (queue t.d 34).count = 1) = true
    ∧ leads (exec .securedDownlink (at_ worker { (push home 34 { downDesc with dtype := 7, dstat := 2 }).1 with
        nbr := { home.nbr with lists := [⟨9, [{ headItem with inQ33 := true, secured := none }]⟩] } }))
        (fun t => (txList t.d 9).map (fun i => (i.inQ33, i.secured)) = [(false, some (0, 5))]) = true
    ∧ leads (exec .p0DescriptorReturned (at_ worker (push home 4 ⟨0x0B, 1, 20, none, .p0Done 0 ⟨0, 9, 0, true, true, .g, 15, 1, 0, 1, 0⟩⟩).1))
        (fun t => (queue t.d 4).count = 0) = true := by decide +kernel

/-- An attempt to neighbour 9 in Band SF awaits its acknowledgement, with `k` attempts behind it. -/
def waiting (k : Nat) : Dev :=
  { home with nbr := { home.nbr with nodes := [{ node9 with pennant := some { pen with retry := k } }], lists := [⟨9, [headItem]⟩]
                                     awaits := [⟨.sf, .frame 9, 9, 3, true, 0, 8000, 0, 1, 0, some 1, 0, true, false⟩] } }

theorem witness_attempts : (failStale (waiting 0)).nbr.awaits.length = 1 ∧ numN home 0x31000D = 3
    ∧ leads (exec (.ackWindowClose .sf) (at_ worker (waiting 2))) (fun t => (txList t.d 9).length = 1 && (pennantOf t.d 9).map Pennant.retry = some 3) = true
    := by decide +kernel

theorem witness_abandoned : leads (exec (.ackWindowClose .sf) (at_ worker { waiting 3 with nbr := { (waiting 3).nbr with
      awaits := [⟨.sf, .frame 9, 9, 3, true, 0, 8000, 0, 1, 0, some 1, 0, false, false⟩] } }))
        (fun t => (txList t.d 9).length = 0 && (pennantOf t.d 9).map Pennant.retry = some 0 && counter t.d 0x310019 = 1) = true := by decide +kernel

/-- A join request of the neighbour's EUI. -/
def joinFrame (good : Bool) : MacFrame :=
  { plainFrame with src := .eui 77, oui := octets served 0x310022, payload := .joinReq ⟨true, 42, 9, 0, if good then .nlk 5 77 else .raw 0⟩ }
def burstArg : List Byte := [1, 15, 5, 0, 200, 0]

theorem witness_joins : dmk home = some 5 ∧ flag home 0x310010 = true
    ∧ (front (frameIn (joinFrame true) 4 1 1) 4).isSome = true ∧ macOf (frameIn (joinFrame true) 4 1 1) (some 3) = some (joinFrame true)
    ∧ nodeByEui (frameIn (joinFrame true) 4 1 1) 77 = some node9 ∧ nodeAt home 4 = some node9 ∧ (tableEntry home 77).isSome = true
    ∧ joinAnswered home 77 42 = none ∧ messageOf home (joinFrame true) = (joinFrame true).payload ∧ runtimeUp home = true
    ∧ leads (exec .joinReq (at_ worker (frameIn (joinFrame false) 4 1 1))) (fun t => t.d.nbr.nodes = [node9]) = true
    ∧ leads (exec .joinTimeout (at_ worker { home with nbr := { home.nbr with nodes := [{ node9 with pennant := some { pen with state := .joining } }] } })) (fun t => t.d.nbr.nodes = [] && t.d.fwd.entries = []) = true
    ∧ accepts home req 0x31001E = true ∧ accepts home req 0x310020 = true ∧ accepts home req 0x310021 = true ∧ mayTransmit worker home = true
    ∧ leads (exec (.pennantQuery req [9, 0]) (at_ worker home)) (fun t => said t = some .ok) = true
    ∧ leads (exec (.pennantReset req [9, 0]) (at_ worker home)) (fun t => said t = some .ok) = true
    ∧ (bandChannels home .g).contains 15 = true
    ∧ leads (exec (.halyardSend req burstArg) (at_ worker home)) (fun t => said t = some .ok && t.d.nbr.burst.isSome) = true
    ∧ leads (exec .halyardSent (at_ worker { home with nbr := { home.nbr with burst := some ⟨.g, 15, 5, 200, 0, some (0, 20)⟩ } })) (fun t => t.d.nbr.burst = none && t.d.ev.pending.testBit 55) = true := by decide +kernel

/-! ## Store and queues (witnesses of the statements of chapter 8) -/

/-- The scrub may run as SCRUB_NOW in M10. -/
def scrubbing (pos : Nat) : Dev :=
  { served with pwr := { served.pwr with mode := .m10 }, store := { served.store with scrubNow := true, scrubPos := pos } }

theorem witness_scrub : scrubRuns (scrubbing 0) = true ∧ domainOn served 5 = true ∧ accepts { served with pwr := { served.pwr with mode := .m10 } } req 0x402005 = true
    ∧ leads (exec (.scrubBurst 4 [] [] []) (at_ worker (scrubbing 0))) (fun t => t.d.store.scrubPos = 256 && t.d.store.passes = 0) = true
    ∧ leads (exec (.scrubBurst 4 [] [] []) (at_ worker (scrubbing 4294967232))) (fun t => t.d.store.scrubPos = 0 && t.d.store.passes = 1 && t.d.ev.pending.testBit 65) = true
    ∧ leads (exec .scrubBehind (at_ worker served)) (fun t => t.d.store.behind && t.d.ev.pending.testBit 66 && (evRec t.d 66).lastData = 4096) = true
    ∧ leads (exec (.scrubNow req []) (at_ worker { served with pwr := { served.pwr with mode := .m10 } }))
        (fun t => t.d.store.scrubNow && replyOf t.d req = some (.ok, .exec 0x402005 1 [])) = true := by decide +kernel

/-- A packet of Q2, and a device with queue `q` so. -/
def packet : Desc := ⟨1, 0, 20, none, .plain⟩
def withQueue (q : Nat) (x : Queue) : Dev := updQueue served q (fun _ => x)

theorem witness_queues : queuesOn served = true ∧ served.queues.length = 56 ∧ typeListed 2 1 = true ∧ bufValid served none = true
    ∧ leads (exec (.queuePush 2 packet false) (at_ worker served)) (fun t => (queue t.d 2).packets = [packet]) = true
    ∧ leads (exec (.queuePush 2 packet true) (at_ worker served)) (fun t => (queue t.d 2).packets = [] && (queue t.d 2).rewinds = 1) = true
    ∧ leads (exec (.queuePush 51 packet false) (at_ worker (withQueue 51 { drain := List.replicate 64 packet, wr := 64 })))
        (fun t => (queue t.d 51).count = 64 && (queue t.d 51).refused = 1) = true
    ∧ leads (exec (.queuePop 2) (at_ worker (withQueue 2 { drain := [packet], fill := [packet] })))
        (fun t => (queue t.d 2).taken = some packet && (queue t.d 2).packets = [packet] && (queue t.d 2).reading = 3) = true
    ∧ leads (exec (.dropRest 2) (at_ worker (withQueue 2 { reading := 2 }))) (fun t => (queue t.d 2).reading = 0 && (queue t.d 2).dropRests = 1) = true
    ∧ ptrOk 51 { drain := List.replicate 64 packet, wr := 64 } = true ∧ ptrOk 51 { wr := 64 } = false := by decide +kernel

theorem witness_recovery : accepts served req 0x410001 = true
    ∧ leads (exec (.queueFault 2 true none) (at_ worker (withQueue 2 { drain := [{ packet with buf := some 3 }] })))
        (fun t => (queue t.d 2).state = .recovering && (queue t.d 2).collected = [3] && (queue t.d 2).discarded = 1) = true
    ∧ leads (exec (.queueFault 2 false none) (at_ worker (withQueue 2 { state := .recovering, nest := 1, discarded := 1 })))
        (fun t => (queue t.d 2).nest = 2 && (queue t.d 2).discarded = 1) = true
    ∧ leads (exec (.queueReopen 2) (at_ worker (withQueue 2 { state := .recovering, nest := 1, discarded := 1 })))
        (fun t => (queue t.d 2).state = .openQ && t.d.ev.pending.testBit 61 && (evRec t.d 61).lastData = 131073) = true
    ∧ leads (exec (.queueReopen 2) (at_ worker (withQueue 2 { state := .recovering, nest := 3 }))) (fun t => (queue t.d 2).state = .quarantined && t.d.ev.pending.testBit 62) = true
    ∧ leads (exec (.queueRestore req [2]) (at_ worker (withQueue 2 { state := .quarantined, nest := 3 }))) (fun t => (queue t.d 2).state = .openQ && said t = some .ok) = true := by
  decide +kernel

/-! ## Forwarding (witnesses of the statements of chapter 9) -/

/-- A packet of node 77 to the backhaul, with `n` hops left, and one that carries a DAO of its own. -/
def srcAddr : Nat := 0xFE80000000000000 * 18446744073709551616 + 0xFFFE000009
def packetTo (n : Nat) : Ip := ⟨srcAddr, 0x20010DB8000000000000000000000001, n, 8, 100, false, [], .data [1]⟩
def daoPacket (life : Nat) : Ip := { packetTo 9 with body := .rpl (.dao srcAddr 0 5 241 life false) }

/-- A granule 3 with a payload, and a descriptor of it at a queue. -/
def holding3 (body : Payload) (q : Nat) (x : Desc) : Dev :=
  (push { home with store := { home.store with granules := [⟨3, 1, 1, 32, 20, 0, body, false, 0⟩] }
                    rw := dictPut 0x440020 (.bytes (toLe 16 9)) home.rw } q x).1
def upDesc : Desc := ⟨3, 0, 20, some 3, .uplink 5000 77 9 200 20⟩
def upFrame (n : Nat) : Payload := .mac { fromNine 1 1 with payload := .lowpan .iphc none (packetTo n) }
def upPort (d : Dev) : Dev := updPort (updPort d 0 (fun x => { x with up := true })) 1 (fun x => { x with up := true })

theorem witness_forward : engineOn home = true ∧ hoistPause home = false
    ∧ (lookup home (keyOfIid (iidOf srcAddr)).1 (keyOfIid (iidOf srcAddr)).2).2 = some entry9
    ∧ toDevice home (packetTo 9).dst = false ∧ inDistrict home (packetTo 9).dst = false ∧ isMulticast (packetTo 9).dst = false
    ∧ leads (exec .forwardUplink (at_ worker (holding3 (upFrame 1) 3 upDesc))) (fun t => (queue t.d 5).packets.map Desc.dstat = [4]) = true
    ∧ leads (exec .forwardUplink (at_ worker (upPort (holding3 (upFrame 9) 3 upDesc)))) (fun t => (queue t.d 9).count = 1 && (queue t.d 9).packets.map Desc.buf = [some 3]) = true
    := by decide +kernel

/-- A frame of port E0 that is not IPv6. -/
def ethDesc : Desc := ⟨2, 0, 60, some 3, .eth 0 0 0 0 0 0x0800⟩
def cand : Candidate := ⟨17, 99, 0xFFFF, 2, 200, 5, 0, 1, 0, 0, 100⟩
def learning : Dev := { home with fwd := { home.fwd with lps := [cand] } }
def reasm1 : Reasm := ⟨9, 1, packetTo 9, 100, [(0, 50)], 3, 0⟩

theorem witness_forward2 : nextIngress (holding3 (.eth ⟨1, 2, [], false, 0x0800, false, 60, .other []⟩) 6 ethDesc) = some (6, 2)
    ∧ leads (exec .forwardDownlink (at_ worker (holding3 (.eth ⟨1, 2, [], false, 0x0800, false, 60, .other []⟩) 6 ethDesc)))
        (fun t => (queue t.d 5).packets.map Desc.dstat = [2]) = true
    ∧ learnRecord worker home cand = none
    ∧ leads (exec .exceptionPacket (at_ worker (push learning 5 ⟨4, 1, 0, none, .exc 99 0xFFFF 17 0 0 0 0 0⟩).1)) (fun t => t.d.fwd.lps.map Candidate.st = [3]) = true
    ∧ leads (exec .learnRetry (at_ worker learning)) (fun t => t.d.fwd.lps.map Candidate.st = [1] && (queue t.d 5).count = 1) = true
    ∧ oldestCandidate learning = some cand
    ∧ leads (exec .learnTimeout (at_ worker learning)) (fun t => t.d.fwd.lps = [] && counter t.d 0x44000E = 1) = true
    ∧ leads (exec .reasmTimeout (at_ worker { home with fwd := { home.fwd with reasm := [reasm1] } })) (fun t => t.d.fwd.reasm = [] && t.d.ev.pending.testBit 79) = true
    ∧ leads (exec .dioTrickle (at_ worker home)) (fun t => t.d.fwd.trickleAt = t.d.clk.up && 0 < t.d.clk.up) = true := by decide +kernel

theorem witness_dao : frontDao (holding3 (.ip (daoPacket 2)) 5 ⟨4, 6, 100, some 3, .exc 77 9 0xFF 0 0 0 0 0⟩) = true
    ∧ routeNode home srcAddr = some node9 ∧ tableEntry home 77 = some entry9 ∧ node9.route.pathKnown = false ∧ lollipopNewer 241 240 = true ∧ lollipopNewer 240 241 = false
    ∧ leads (exec .dao (at_ worker (holding3 (.ip (daoPacket 2)) 5 ⟨4, 6, 100, some 3, .exc 77 9 0xFF 0 0 0 0 0⟩)))
        (fun t => (tableEntry t.d 77).map (fun e => (e.routeValid, e.hit)) = some (true, true) && (nodeOf t.d 9).map (fun n => (n.route.daoSeq, n.route.pathSeq, n.route.routeExpiry)) = some (5, 241, 120)) = true
    ∧ firstExpiry { home with fwd := { home.fwd with entries := [{ entry9 with routeValid := true }] } } = some node9
    ∧ leads (exec .routeExpiry (at_ worker { home with fwd := { home.fwd with entries := [{ entry9 with routeValid := true }] } }))
        (fun t => (tableEntry t.d 77).map NtEntry.routeValid = some false) = true := by decide +kernel

/-- EUI 77, any short address; EUI 77 made static. -/
def nodeArg : List Byte := toLe 8 77 ++ toLe 2 0xFFFF

theorem witness_table : entryLimit worker home = 65533 ∧ (placeFor { home with fwd := { home.fwd with entries := [] } } 78).isSome = true
    ∧ leads (exec (.nodeInsert 77 11 7 0 4) (at_ worker home)) (fun t => (tableEntry t.d 77).map (fun e => (e.short, e.hit)) = some (11, true) && t.d.fwd.entries.length = 1) = true
    ∧ leads (exec .tableRebuild (at_ worker { home with fwd := { home.fwd with entries := [{ entry9 with eui := 77 }], lostShort := [3] } })) (fun t => t.d.fwd.lostShort = []) = true
    ∧ leads (exec .ageBehind (at_ worker home)) (fun t => t.d.fwd.behind && t.d.ev.pending.testBit 76) = true
    ∧ accepts home req 0x440015 = true ∧ accepts home req 0x440016 = true ∧ accepts home req 0x440017 = true ∧ findNode home nodeArg = some entry9
    ∧ leads (exec (.nodeQuery req nodeArg) (at_ worker home)) (fun t => said t = some .ok) = true
    ∧ leads (exec (.nodeRemove req nodeArg) (at_ worker home)) (fun t => said t = some .ok && t.d.nbr.nodes = [] && t.d.fwd.entries = []) = true
    ∧ leads (exec (.nodeStatic req (nodeArg ++ [1])) (at_ worker home)) (fun t => said t = some .ok && (tableEntry t.d 77).map NtEntry.static = some true) = true := by
  decide +kernel

/-- A pass under way that has not visited the entry, whose HIT and STALE are given. -/
def sweeping (hit stale : Bool) : Dev :=
  { home with sched := { home.sched with now := some { slotPlan with tasks := [2, 5] } }
              fwd := { home.fwd with entries := [{ entry9 with hit := hit, stale := stale }], parity := true } }

theorem witness_sweep : taskRuns (sweeping true false) 2 = true ∧ nextVisit (sweeping true false) = some { entry9 with hit := true, stale := false }
    ∧ leads (exec (.sweepVisit 1) (at_ worker (sweeping true true))) (fun t => t.d.fwd.entries = [{ entry9 with swept := true }]) = true
    ∧ leads (exec (.sweepVisit 1) (at_ worker (sweeping false false))) (fun t => t.d.fwd.entries = [{ entry9 with swept := true, stale := true }]) = true
    ∧ leads (exec (.sweepVisit 1) (at_ worker (sweeping false true))) (fun t => t.d.fwd.entries = [] && counter t.d 0x440013 = 1) = true
    ∧ leads (exec (.sweepVisit 1) (at_ worker { sweeping true true with fwd := { home.fwd with behind := true, entries := [] } })) (fun t => t.d.fwd.parity && counter t.d 0x440012 = 1) = true
    := by decide +kernel

/-! ## Shaping (witnesses of the statements of chapter 10) -/

/-- Port E0 up at 1 Gbit/s, its packet of class 5 waiting; and a list whose base is past, as in the example of R310. -/
def egress : Desc := ⟨5, 0, 996, some 3, .down ⟨0, 0xFFFF, 5, 0, true, 0, 0, 0, 0, false, 0⟩⟩
def ethOut : EthFrame := ⟨1, 2, [], false, 0x86DD, false, 996, .other []⟩
def port0 (f : Port → Port) (d : Dev) : Dev := updPort d 0 (fun x => f { x with up := true, speed := 3 })
def sendable (f : Port → Port) : Dev := port0 f (holding3 (.eth ethOut) 13 egress)

theorem witness_port : shaperOn (sendable id) = true ∧ domainOn (sendable id) 11 = true ∧ gatesBind (sendable id) 0 = false
    ∧ classHead (sendable id) 0 5 = some egress ∧ eligible (sendable id) 0 5 = true ∧ gatesNow (sendable id) 0 = 255 ∧ Machine.fits (sendable id) 0 5 996 = true
    ∧ leads (exec (.ethernetTransmit 0) (at_ worker (sendable id))) (fun t => (port t.d 0).sending = some ⟨5, egress, 522240⟩ && (queue t.d 13).count = 0) = true
    ∧ leads (exec (.ethernetTransmit 0) (at_ worker (port0 id home))) (fun t => t.d = port0 id home) = true
    ∧ leads (exec (.ethernetTransmit 0) (at_ worker (sendable (fun x => { x with sending := some ⟨5, egress, 522240⟩ }))))
        (fun t => t.d.out.contains (.eth 0 ethOut) && 522240 ≤ t.d.clk.up) = true := by decide +kernel

/-- PEND_BASE 500 ms, PEND_CYCLE 1 ms, one entry of 1 ms, at a time base of 2.00025 s. -/
def pended : Dev :=
  { port0 id home with
      clk := { home.clk with tb := BitVec.ofNat 96 (2000250000 * 4294967296) }
      rw := dictPut (gateKey 0 7) (.num 500000000) (dictPut (gateKey 0 8) (.num 1000000) (dictPut (gateKey 0 0x0A) (.num 1)
        (dictPut (gateKey 0 9) (.bytes ([255, 0, 0, 0] ++ toLe 4 1000000)) home.rw))) }

theorem witness_gate : accepts pended req (gateKey 0 0x0B) = true ∧ gateListOk pended 0 = true ∧ pended.shp.ports.length = 2 ∧ (pendList pended 0).base = 500000000
    ∧ switchInstant pended (pendList pended 0) = (2002000000, some 1502) := by decide +kernel

theorem witness_shaping : leads (exec (.linkDown 0) (at_ worker (sendable id))) (fun t => (port t.d 0).up = false && (queue t.d 13).count = 0 && (evRec t.d 83).lastData = 1) = true
    ∧ (home.queues.map Queue.taken).eraseDups = [none] ∧ home.shp.credits.length = 32
    ∧ hostOn home = true ∧ (port home 0).up = false
    ∧ leads (exec (.linkUp 0 3) (at_ worker home)) (fun t => (port t.d 0).up && (port t.d 0).speed = resolvedSpeed home 0 3) = true
    ∧ accepts home req (gateKey 0 0x12) = true
    ∧ leads (exec (.gateCancel req 0 []) (at_ worker (port0 (fun x => { x with waiting := some (pendList pended 0, 9) }) home))) (fun t => said t = some .ok && (port t.d 0).waiting = none) = true
    ∧ leads (exec (.gateCancel req 0 []) (at_ worker home)) (fun t => said t = some .wrongMode) = true
    ∧ leads (exec (.gateSwitched 0) (at_ worker (port0 (fun x => { x with waiting := some (pendList pended 0, 2500) }) home)))
        (fun t => (port t.d 0).active.map GateList.base = some 2500 && tbNs t.d = 2500 && t.d.ev.pending.testBit 80) = true
    ∧ leads (exec (.gateEntryBoundary 0) (at_ worker (port0 (fun x => { x with active := some (pendList pended 0) }) pended))) (fun t => tbNs t.d = 2001000000) = true
    ∧ accepts home req 0x480007 = true ∧ leads (exec (.nbQuery req [9, 0]) (at_ worker home)) (fun t => said t = some .ok) = true := by decide +kernel

/-- A first fragment to neighbour 9 in class 3, and one held. -/
def meshDesc : Desc := ⟨5, 0, 50, some 3, .down ⟨0, 9, 3, 0, true, 7, 0, 0, 0, false, 0⟩⟩
def meshing : Dev := holding3 (.mac plainFrame) 27 meshDesc
def held9 : Dev := { home with shp := { home.shp with hold := [⟨meshDesc, 100⟩] } }

theorem witness_mesh : classHead meshing 2 3 = some meshDesc ∧ eligible meshing 2 3 = true ∧ meshEligible meshing 5 = false ∧ nbCredit meshing 9 = 0
    ∧ leads (exec .meshShaperTurn (at_ worker meshing)) (fun t => (queue t.d 32).count = 1 && decide (nbCredit t.d 9 < 0)) = true
    ∧ heldOrphan held9 = none ∧ oldestHeld held9 = some (⟨meshDesc, 100⟩, 0)
    ∧ leads (exec .holdExpired (at_ worker held9)) (fun t => t.d.shp.hold = [] && counter t.d 0x480003 = 1) = true := by decide +kernel

/-! ## Canton (witnesses of the statements of chapter 11) -/

/-- A message of R335 by UOP, KIND, KEY_ID, NODE_EUI and COUNTER; all else zero. -/
def message (uop kind id eui ctr : Nat) : List Byte :=
  toLe 1 1 ++ toLe 1 uop ++ toLe 1 kind ++ toLe 1 0 ++ toLe 2 id ++ toLe 2 0 ++ toLe 8 worker.deviceEui ++ toLe 8 eui ++ toLe 32 0 ++ toLe 8 ctr ++ toLe 176 0
/-- District 14 with its DMK and DGK, a hot key of node 9, and a message staged. -/
def keyed (m : List Byte) : Dev :=
  { home with
      hier := { home.hier with district := 14 }
      can := { home.can with table := [⟨6, 14, false, true, 3, 55, 0⟩, ⟨7, 14, true, true, 2, 66, 0⟩], hot := [⟨70, .session 4, 1, 3, [(5, 100)], 0⟩], ctrOperator := 8 }
      rw := dictPut 0x500005 (.bytes m) home.rw }
def fine : KeyProof := ⟨true, true, some 99⟩
def upd_ (m : List Byte) : KeyUpdate := parseUpdate (octets (keyed m) 0x500005) fine

theorem witness_keyUpdate : accepts (keyed (message 1 6 14 0 9)) req 0x500006 = true
    ∧ ((upd_ (message 1 6 14 0 9)).uop, (upd_ (message 2 7 14 0 9)).uop, (upd_ (message 3 0 0 0 9)).uop, (upd_ (message 4 0 0 0 9)).uop) = (1, 2, 3, 4)
    ∧ checkUpdate worker (keyed (message 1 6 14 0 9)) (upd_ (message 1 6 14 0 9)) = .ok ∧ (updateCommit (keyed (message 1 6 14 0 9)) (upd_ (message 1 6 14 0 9))).2 = .ok
    ∧ checkUpdate worker (keyed (message 1 6 14 0 8)) (upd_ (message 1 6 14 0 8)) = .counterStale ∧ checkUpdate worker (keyed (message 2 7 14 0 9)) (upd_ (message 2 7 14 0 9)) = .ok
    ∧ checkUpdate worker (keyed (message 2 9 0 77 9)) (upd_ (message 2 9 0 77 9)) = .ok ∧ nodeByEui (keyed (message 2 9 0 77 9)) 77 = some node9
    ∧ checkUpdate worker (keyed (message 3 0 0 0 9)) (upd_ (message 3 0 0 0 9)) = .ok ∧ checkUpdate worker (keyed (message 4 0 0 0 9)) (upd_ (message 4 0 0 0 9)) = .ok
    ∧ (updateCommit (keyed (message 3 0 0 0 9)) (upd_ (message 3 0 0 0 9))).2 = .ok ∧ (updateCommit (keyed (message 4 0 0 0 9)) (upd_ (message 4 0 0 0 9))).2 = .ok ∧ (updateCommit (keyed (message 2 9 0 77 9)) (upd_ (message 2 9 0 77 9))).2 = .ok := by decide +kernel

theorem witness_keyRefused : leads (exec (.install req [] fine) (at_ worker (keyed (message 1 6 14 0 8)))) (fun t => said t = some .counterStale && counter t.d 0x500017 = 1) = true := by decide +kernel

def compatArg : List Byte := toLe 1 6 ++ toLe 1 0 ++ toLe 2 14 ++ toLe 24 1 ++ toLe 3 (Config.kcv 99 % 16777216) ++ toLe 1 0
def compat (v : Nat) : Dev := { keyed [] with rw := dictPut 0x50000B (.num v) home.rw }
theorem witness_compat : accepts (compat 1) req 0x50000C = true ∧ tampered (compat 1) = false ∧ flag (compat 0) 0x50000B = false ∧ flag (compat 1) 0x50000B = true
    ∧ compatArg.length = 32 ∧ leAt compatArg 0 1 = 6 ∧ leAt compatArg 1 1 = 0 ∧ leAt compatArg 2 2 = 14 ∧ leAt compatArg 31 1 = 0 ∧ (keyPresent (compat 1) 6 14).isSome = true
    ∧ (commitNv (compat 1) 1 64 [keyPage (keySlot (compat 1) 6 14)]).2 = .ok
    ∧ leads (exec (.keyReplaceCompat req compatArg none) (at_ worker (compat 1))) (fun t => said t = some .outOfRange) = true
    ∧ leads (exec (.keyReplaceCompat req compatArg (some 99)) (at_ worker (compat 0))) (fun t => said t = some .accessDenied) = true := by decide +kernel

/-- The check value in the argument is the key's (KCV is a free value, so it is read back, not computed). -/
theorem witness_compatKcv : leAt compatArg 28 3 = Config.kcv 99 % 16777216 := by
  have h : ∀ v : Nat, v < 16777216 → leNat (toLe 3 v) = v := by
    intro v hv
    simp [toLe, leNat]
    omega
  exact h _ (Nat.mod_lt _ (by decide))

theorem witness_tamper : (keyed []).pwr.mode ≠ .m0 ∧ (keyed []).can.asserted.testBit 1 = false ∧ (numN (keyed []) 0x500011).testBit 1 = true
    ∧ (numN ({ keyed [] with rw := dictPut 0x500011 (.num 1) home.rw }) 0x500011).testBit 1 = false
    ∧ leads (exec (.tamper 1 true false) (at_ worker (keyed []))) (fun t => t.d.can.cause = 257 && t.d.can.hot = [] && t.d.pwr.mode = .m11) = true
    ∧ leads (exec .tamperFlagCommit (at_ worker { keyed [] with can := { home.can with flagDue := some 5 } })) (fun t => t.d.can.flag) = true := by decide +kernel

def keyReqDesc (k : Nat) : Desc := ⟨0x0D, 0, 0, none, .keyReq 4 k 9 5 (if k = 1 then 100 else 0)⟩
def asked (k : Nat) : Dev := updQueue { keyed [] with nbr := { home.nbr with nodes := [{ node9 with sec := { node9.sec with dmkGen := 3 } }] } } (pq 2) (fun q => q.commit (pq 2) (keyReqDesc k))
def grouped : Dev := { keyed [] with can := { (keyed []).can with markDue := some 5, overlapEnd := some 7, sweeps := [(14, 0)] } }

theorem witness_security : runtimeUp (asked 1) = true ∧ (queue (asked 1) (pq 2)).state = .openQ ∧ leastUntil (queue (asked 1) (pq 2)).drain = some (keyReqDesc 1)
    ∧ hotOf (asked 1) 4 = some ⟨70, .session 4, 1, 3, [(5, 100)], 0⟩ ∧ (nodeAt (asked 1) 4).map (keyCheck (asked 1)) = some 0 ∧ (nodeAt (asked 1) 4).map (isHot (asked 1)) = some true
    ∧ leads (exec .keyRequest (at_ worker (asked 1))) (fun t => (hotOf t.d 4).map HotSlot.pins = some [(5, 100), (5, 100)]) = true
    ∧ leads (exec .keyRequest (at_ worker (asked 2))) (fun t => (hotOf t.d 4).map HotSlot.pins = some []) = true
    ∧ firstPinEnd (keyed []) = some 100
    ∧ accepts (keyed []) req 0x50000A = true ∧ manager.manager = true ∧ (commitNv (keyed []) 1 8 [cantonPage]).2 = .ok ∧ grouped.can.old = [] ∧ keyEntry grouped 7 14 = some ⟨7, 14, true, true, 2, 66, 0⟩
    ∧ (updateCommit (keyed (message 2 7 14 0 9)) (upd_ (message 2 7 14 0 9))).2 = .ok
    ∧ accepts (keyed []) req 0x500018 = true ∧ accepts (keyed []) req 0x510009 = true
    ∧ leads (exec (.forceRejoin req (toLe 8 77)) (at_ worker (keyed []))) (fun t => said t = some .ok) = true
    ∧ leads (exec (.secQuery req (toLe 2 9)) (at_ worker (keyed []))) (fun t => said t = some .ok) = true
    ∧ leads (exec .rejoinRequiredSweep (at_ worker grouped)) (fun t => (nodeAt t.d 4).map Node.state = some .rejoinRequired) = true := by decide +kernel

/-! ## The hierarchy (witnesses of the statements of chapter 12) -/

/-- A worker of district 14 in epoch 3, its links to the manager and to worker 8 up. -/
def inHier (st : HierSt) (f : HierState → HierState) : Dev :=
  { home with
      sched := { home.sched with epoch := 3, st := if st = .autonomous then .autonomous else .running }
      hier := f { home.hier with st := st, district := 14, links := [linkOf 0, { linkOf 8 with link := 2 }], peers := [⟨8, 1, 1⟩]
                                 heardAt := some 100, leaseEnd := 30000000 } 
      can := { home.can with table := [⟨6, 14, false, true, 1, 5, 0⟩] } }
def head_ : HlHead := headOf
def head8 : HlHead := ⟨2, 6, ⟨linkKey, 2, 6, 1⟩, 5842⟩
def hb (k : Nat) (revoke standby : Bool) (epoch : Nat) : HlMsg := .heartbeat 40 k revoke standby 8 epoch 250 6000000000
def afterHb (st : HierSt) (f : HierState → HierState) (k : Nat) (revoke standby : Bool) (epoch : Nat) (g : State → Bool) : Bool :=
  leads (exec (.heartbeat head_ 40 k revoke standby 8 epoch 250 6000000000) (at_ worker (inHier st f))) g

theorem witness_links : openAccepted manager relays 7 (peerPub manager relays 7) = true ∧ hlArrives relays 5842 = true ∧ openAccepted worker (inHier .leased id) 8 1 = true
    ∧ leads (exec (.openAck 5842 8 9 4 6 1) (at_ worker (inHier .leased (fun h => { h with links := [], opening := [(8, 6, 0)] })))) (fun t => linkUp t.d 8 && (t.d.hier.links.map Link.key) = [⟨1, 6, 4⟩] && t.d.hier.opening.isEmpty) = true
    ∧ linkHead (.hlClose headOf 0) = some headOf
    ∧ hlTakes (inHier .leased id) head_ 0 (.close 0) = true
    ∧ leads (exec (.openMsg 5842 7 1 (peerPub manager relays 7)) (at_ manager relays)) (fun t => linkUp t.d 7 && (evRec t.d 114).lastData = 1793) = true
    ∧ leads (exec (.hlClose head_ 0) (at_ worker (inHier .leased id))) (fun t => !linkUp t.d 0 && linkUp t.d 8) = true
    ∧ leads (exec (.hlClose ⟨1, 5, ⟨linkKey, 1, 5, 1⟩, 5842⟩ 0) (at_ worker (inHier .leased id))) (fun t => linkUp t.d 0 && counter t.d 0x700010 = 1) = true
    ∧ leads (exec .requestRepeat (at_ worker (inHier .leased (fun h => { h with requests := [⟨8, .peerProbe 3, 0⟩] })))) (fun t => t.d.out = [.hl 8 (.peerProbe 3)]) = true
    ∧ leads (exec (.hlLinkDown 8) (at_ worker (inHier .leased id))) (fun t => !linkUp t.d 8 && ms 750 ≤ t.d.clk.up) = true
    ∧ leads (exec .hierarchyControl (at_ worker (push' (inHier .leased id) (pq 4) ⟨0x0F, 0, 0, none, .hier 2 1 14 3 7 8 none⟩))) (fun t => t.d.out = [.hl 0 (.report 2 1 14 3 7 8)]) = true := by decide +kernel

theorem witness_leases : worker.role = 2 ∧ hlTakes (inHier .leased id) head_ 0 (hb 14 false false 3) = true ∧ serves (inHier .leased id) = true ∧ serves (inHier .unlinked id) = false
    ∧ afterHb .leased id 14 false false 3 (fun t => t.d.hier.leaseEnd = 6000000000 && t.d.hier.lastHeartbeat = 0) = true
    ∧ afterHb .autonomous id 14 false false 3 (fun t => t.d.hier.st = .leased) = true
    ∧ afterHb .autonomous id 14 true false 3 (fun t => t.d.hier.st = .expired) = true
    ∧ afterHb .takingOver (fun h => { h with readySent := true }) 14 false false 3 (fun t => (evRec t.d 112).lastData = 14 * 256 + 7) = true
    ∧ afterHb .leased id 14 false false 4 (fun t => t.d.hier.fenceEpoch = 4 && t.d.hier.st = .fenced) = true
    ∧ afterHb .unlinked id 0 false true 0 (fun t => t.d.hier.st = .standby) = true
    ∧ leads (exec .leaseExpired (at_ worker (inHier .leased id))) (fun t => t.d.hier.st = .expired && t.d.sched.stopCause = 1) = true
    ∧ leads (exec .autonomyEnd (at_ worker (inHier .autonomous id))) (fun t => t.d.hier.st = .autonomyEnded) = true
    ∧ leads (exec .heartbeatMissLimit (at_ worker (inHier .leased id))) (fun t => t.d.out = [.hl 8 (.peerProbe 1)]) = true
    ∧ leads (exec .peerProbeTimeout (at_ worker (inHier .leased (fun h => { h with probe := some ⟨1, 0, [(8, 3000)]⟩ })))) (fun t => t.d.hier.st = .autonomous) = true
    ∧ leads (exec .peerProbeTimeout (at_ worker (inHier .leased (fun h => { h with probe := some ⟨1, 0, [(8, 30)]⟩ })))) (fun t => t.d.hier.st = .leased) = true := by decide +kernel

def repl11 : ReplNode := ⟨11, 78, 10, some { pen with short := 10, eui := 78 }, { keyGen := 2, txFc := 5 }, {}⟩
def taking : Dev := inHier .takingOver id
def joinReq1 : JoinReq := ⟨false, 55, 0xFFFF, 0, .raw 0⟩
def heldJoin (eui : Nat) : HeldJoin := ⟨4, eui, .g, 1000, 0, false, 200, 0, -600, joinReq1, 0⟩
def joining (eui : Nat) : Dev := inHier .leased (fun h => { h with joins := [heldJoin eui] })

theorem witness_server : hlTakes (inHier .standby id) head_ 0 (.takeover 15 false 4 7 9000) = true ∧ hlTakes taking head_ 0 (.replDistrict 14 3 100 5000 10000000 9 7 1) = true
    ∧ hlTakes taking head_ 0 (.replNodes [repl11]) = true ∧ hlTakes taking head_ 0 (.replGone [4]) = true ∧ nodeAt taking 4 = some node9 ∧ nodeByEui taking 77 = some node9
    ∧ hlTakes taking head_ 0 (.restoreEnd 1 7) = true ∧ hlTakes taking head_ 0 (.peers [⟨9, 1, 1⟩]) = true ∧ hlTakes taking head_ 0 (.keyMsg (message 1 6 14 0 9) fine) = true
    ∧ hlTakes taking head_ 0 (.deltaPart 9 2 0 [1, 2, 3]) = true ∧ (queue taking (pq 3)).space (pq 3) = true ∧ hlTakes (joining 77) head_ 0 (.verdict 4 true 7) = true
    ∧ dmk (joining 77) = some 5 ∧ (joining 77).hier.joins.find? (fun j => j.id = 4) = some (heldJoin 77)
    ∧ leads (exec (.takeover head_ 15 false 4 7 9000) (at_ worker (inHier .standby id))) (fun t => t.d.hier.st = .takingOver && t.d.sched.epoch = 4 && t.d.hier.district = 15) = true
    ∧ leads (exec (.replGone head_ [4]) (at_ worker taking)) (fun t => (nodeAt t.d 4).isNone) = true
    ∧ leads (exec (.restoreEnd head_ 1 7) (at_ worker taking)) (fun t => t.d.hier.readyOwed) = true
    ∧ leads (exec (.restoreEnd head_ 1 7) (at_ worker { taking with clk := { taking.clk with sync := .locked } })) (fun t => t.d.out = [.hl 0 (.ready 14 0)]) = true
    ∧ leads (exec (.peers head_ [⟨9, 1, 1⟩]) (at_ worker taking)) (fun t => t.d.hier.peers.length = 1 && t.d.hier.opening.length = 1) = true
    ∧ leads (exec (.deltaPart head_ 9 2 0 [1, 2, 3]) (at_ worker taking)) (fun t => (queue t.d (pq 3)).count = 1) = true := by decide +kernel

theorem witness_server2 : (insertEntry worker { taking with fwd := { taking.fwd with entries := [{ entry9 with eui := 78 }] } } 78 10 7 14 11 true).2 = true
    ∧ isServer (inHier .leased id) = true ∧ linkUp (inHier .leased id) 0 = true
    ∧ (match nodeByEui (joining 77) 77 with | some n => (insertEntry worker (joining 77) 77 n.short 7 14 n.index true).2 | none => false) = true
    ∧ (restoredSec taking repl11.sec).txFc ≤ 0xFFFFFFFF ∧ taking.hier.answers = [] ∧ findKey DeltaParts.id 9 taking.hier.parts = none
    ∧ leads (exec (.verdict head_ 4 true 7) (at_ worker { joining 77 with store := { (joining 77).store with fbUnits := 0 } })) (fun t => t.d.hier.joins.isEmpty && (nodeByEui t.d 77).map (fun n => n.sec.nonce) = some 55) = true
    ∧ leads (exec (.replNodes head_ [repl11]) (at_ worker { taking with fwd := { taking.fwd with entries := [{ entry9 with eui := 78 }] } })) (fun t => (nodeAt t.d 11).map Node.short = some 10) = true
    ∧ leads (exec (.witnessReq head_ 3 15) (at_ worker (inHier .leased (fun h => { h with beacons := [(15, 0, 2)] })))) (fun t => t.d.out = [.hl 0 (.witnessRsp 3 15 0 2)]) = true
    ∧ leads (exec (.witnessReq head_ 3 16) (at_ worker (inHier .leased id))) (fun t => t.d.out = [.hl 0 (.witnessRsp 3 16 4294967295 0)]) = true
    ∧ leads (exec (.peerProbe head8 3) (at_ worker (inHier .leased id))) (fun t => t.d.out = [.hl 8 (.peerAnswer 3 0)]) = true
    ∧ leads (exec (.peerAnswer head8 1 30) (at_ worker (inHier .leased (fun h => { h with probe := some ⟨1, 0, []⟩ })))) (fun t => t.d.hier.probe = some ⟨1, 0, [(8, 30)]⟩) = true
    ∧ leads (exec .replInterval (at_ worker (inHier .leased id))) (fun t => t.d.hier.replicated.length = 1 && sec 1 ≤ t.d.clk.up) = true
    ∧ leads (exec .fullReplPeriod (at_ worker (inHier .leased id))) (fun t => t.d.hier.fullAt = t.d.clk.up && sec 3600 ≤ t.d.clk.up) = true := by decide +kernel

/-- The manager with devices 13, 14, 15 provisioned and linked; worker 14 serves district 14 in epoch 3; node 77 is worker 14's, last heard at 5 s with LQI 190 (the example of R390). -/
def city (f : HierState → HierState) : Dev :=
  { served with
      nv := { served.nv with rp := dictPut (wKey 13 2) (.bytes (List.replicate 64 1)) (dictPut (wKey 14 2) (.bytes (List.replicate 64 2)) (dictPut (wKey 15 2) (.bytes (List.replicate 64 3)) [])) }
      fwd := { served.fwd with entries := [{ entry9 with worker := 14, district := 14 }] }
      hier := f { served.hier with links := [linkOf 13, { linkOf 14 with link := 2 }, { linkOf 15 with link := 3 }]
                                   ws := [{ id := 13, hstate := 6, align := 10 }, { id := 14, suspect := true, hbSeq := some 40 }]
                                   districts := [{ district := 14, server := 14, dstate := 1, epoch := 3 }]
                                   sightings := [⟨77, 14, 5000000000, 190⟩] } }
def from_ (w : Nat) : HlHead := ⟨w - 12, 6, ⟨linkKey, w - 12, 6, 1⟩, 5842⟩
def gone : Takeover := { district := 14, restart := false, assign := false, wanted := none, tried := [], old := 14, committed := false, target := none, start := 0, due := 0, key := none }
def claimed (w lqi : Nat) (t : Int) (f : State → Bool) : Bool := leads (exec (.claim (from_ w) 3 77 lqi 9 t) (at_ manager (city id))) f

theorem witness_claims : hlTakes (city id) (from_ 15) 15 (.claim 3 77 204 9 6300000000) = true ∧ holderOf (city id) 77 = some (14, 5000000000, 190) ∧ linkUp (city id) 14 = true
    ∧ hlTakes (city id) (from_ 15) 15 (.claim 3 79 204 9 6300000000) = true ∧ holderOf (city id) 79 = none
    ∧ (insertEntry manager (city id) 77 9 15 0 0xFFFFFFFF false).2 = true
    ∧ claimed 15 204 6300000000 (fun t => t.d.out = [.hl 15 (.verdict 3 true 15), .hl 14 (.drop 77 15)] && counter t.d 0x70100B = 1) = true
    ∧ claimed 13 190 6900000000 (fun t => t.d.out = [.hl 13 (.verdict 3 true 13), .hl 14 (.drop 77 13)]) = true
    ∧ claimed 15 190 6900000000 (fun t => t.d.out = [.hl 15 (.verdict 3 false 14)] && counter t.d 0x70100B = 1) = true
    ∧ claimed 15 10 7100000000 (fun t => t.d.out = [.hl 15 (.verdict 3 true 15), .hl 14 (.drop 77 15)] && counter t.d 0x70100B = 0) = true
    ∧ claimed 15 10 7000000000 (fun t => t.d.out = [.hl 15 (.verdict 3 false 14)]) = true
    ∧ hlTakes (inHier .leased id) head_ 0 (.drop 77 15) = true ∧ txList (inHier .leased id) 9 = []
    ∧ leads (exec (.drop head_ 77 15) (at_ worker (inHier .leased id))) (fun t => (nodeAt t.d 4).isNone && (tableEntry t.d 77).isNone && counter t.d 0x70000F = 1) = true
    ∧ (inHier .leased id).nbr.nodes = [node9] ∧ txList (setTxList (inHier .leased id) 9 [headItem]) 9 ≠ []
    ∧ leads (exec (.drop head_ 77 15) (at_ worker (setTxList (inHier .leased id) 9 [headItem]))) (fun t => (nodeAt t.d 4).map Node.state = some .dropped) = true := by decide +kernel

/-- The same with worker 14 in good standing. -/
def goodCity : Dev := city (fun h => { h with ws := [{ id := 14, acked := true, hbSeq := some 40 }] })

theorem witness_heartbeats : (wRec goodCity 14).suspect = false ∧ (wRec goodCity 14).acked = true ∧ takeoverOf goodCity 14 = none ∧ districtOf goodCity 13 = none
    ∧ leads (exec .heartbeatSend (at_ manager goodCity)) (fun t =>
        t.d.out.any (fun o => match o with | .hl 14 (.heartbeat _ 14 false false 8 3 250 e) => e = leaseFrom t.d | _ => false)
          && t.d.out.any (fun o => match o with | .hl 13 (.heartbeat _ 0 false true 8 0 250 0) => true | _ => false)) = true := by decide +kernel

theorem witness_manager : qdlServed (city id) = true ∧ (city id).pwr.mode.running = true ∧ wProvisioned (city id) 14 = true
    ∧ hlTakes (city id) (from_ 14) 14 (.hbAck 40 1 1 0 0 0) = true ∧ hlTakes (city id) (from_ 13) 13 (.witnessRsp 1 14 2172 3) = true ∧ accepts (city id) req 0x70100A = true
    ∧ wState (city id) 14 = 3 ∧ accepts (city id) req 0x701009 = true ∧ accepts (city id) req 0x701008 = true ∧ (distRec (city id) 14).dstate = 1 ∧ (distRec (city id) 15).dstate = 0
    ∧ districtOf (city id) 13 = none ∧ (districtOf (city id) 14).map DistrictRec.district = some 14 ∧ firstDue (city (fun h => { h with takeovers := [gone] })) = some gone
    ∧ chooseServer (city (fun h => { h with takeovers := [gone] })) gone = some 13 ∧ (commitEpoch (reach (city id) 0) gone).2 = true
    ∧ hlTakes (city (fun h => { h with takeovers := [{ gone with target := some 13 }] })) (from_ 13) 13 (.ready 14 0) = true
    ∧ writes manager (city id) req 0 ⟨0x7020 + 14, 2, 0x11, List.replicate 64 9⟩ = true
    ∧ leads (exec (.hbAck (from_ 14) 40 1 1 0 7 0) (at_ manager (city id))) (fun t => !(wRec t.d 14).suspect && (wRec t.d 14).align = 7) = true
    ∧ leads (exec (.witnessRsp (from_ 13) 1 14 2172 3) (at_ manager (city id))) (fun t => (wRec t.d 14).dead && (evRec t.d 111).lastData = 14) = true
    ∧ leads (exec (.witnessRsp (from_ 13) 1 14 2000 3) (at_ manager (city id))) (fun t => (wRec t.d 14).suspect && !(wRec t.d 14).dead) = true
    ∧ leads (exec (.declareDead req [14]) (at_ manager (city id))) (fun t => said t = some .ok && (wRec t.d 14).dead) = true
    ∧ leads (exec (.declareDead req [13]) (at_ manager (city id))) (fun t => said t = some .wrongMode) = true
    ∧ leads (exec (.takeoverCommand req [14, 0, 255]) (at_ manager (city id))) (fun t => said t = some .ok && (takeoverOf t.d 14).isSome) = true
    ∧ leads (exec (.assign req [13, 15, 0]) (at_ manager (city id))) (fun t => said t = some .ok && (takeoverOf t.d 15).map Takeover.assign = some true) = true
    ∧ leads (exec (.ready (from_ 13) 14 0) (at_ manager (city (fun h => { h with takeovers := [{ gone with target := some 13 }] })))) (fun t => (distRec t.d 14).server = 13 && (evRec t.d 112).lastData = 14 * 256 + 13) = true
    ∧ leads (exec (.ready (from_ 13) 14 5) (at_ manager (city (fun h => { h with takeovers := [{ gone with target := some 13 }] })))) (fun t => (takeoverOf t.d 14).map Takeover.tried = some [13]) = true
    ∧ leads (exec (.replDistrict (from_ 14) 14 3 9 8 7 6 5 4) (at_ manager (city id))) (fun t => (distRec t.d 14).mark = 6) = true
    ∧ leads (exec (.replNodes (from_ 14) [{ repl11 with eui := 77 }]) (at_ manager (city id))) (fun t => (distRec t.d 14).nodes.length = 1) = true
    ∧ leads (exec (.keyResult (from_ 14) 9 0) (at_ manager (city id))) (fun t => (wRec t.d 14).keyResult = some (9, 0)) = true
    ∧ leads (exec (.deltaResult (from_ 14) 9 0 0 77) (at_ manager (city id))) (fun t => (wRec t.d 14).deltaResult = some (9, 0, 77)) = true
    ∧ leads (exec (.report (from_ 14) 5 255 14 4 0 0) (at_ manager (city id))) (fun t => (wRec t.d 14).lastReport = some (5, 255, 14, 4, 0, 0)) = true := by decide +kernel

/-! ## Bunting (witnesses of the statements of chapter 13) -/

/-- Image slot 2 holds an image of 600 octets; campaign 1 sends it and has neighbour 9 as its target. -/
def image2 : ImageRec := ⟨2, 1, 7, 3, 1, 600, 0, 0⟩
def campaigning (st : Nat) (f : Campaign → Campaign) (b : BuntArea) : Dev :=
  { home with
      rw := dictPut (campKey 1 2) (.num 2) home.rw
      nbr := { home.nbr with nodes := [{ node9 with bunt := b }] }
      bunting := { home.bunting with images := [image2], camps := upd home.bunting.camps 1 (fun k => f { k with st := st }) {} } }
def receiving : BuntArea := { campaign := 1, state := 2, verify := 2 }
def fromQ36 (kind : Nat) (body : DescBody) (d : Dev) : Dev :=
  (push { d with store := { d.store with granules := [⟨3, 1, 1, 32, 20, 0, .mac plainFrame, false, 0⟩] } } 36 ⟨9, kind, 20, none, body⟩).1
def report_ (kind : Nat) (d : Dev) : Dev := fromQ36 kind (.blockReq 0 9 0 0 1 5 2) d
def ask (done refuse fail : Bool) : BlockReq := ⟨done, fail, refuse, 0, 0xFFFF, 0, 8, [1]⟩
def asking (q : BlockReq) (d : Dev) : Dev :=
  (push { d with store := { d.store with granules := [⟨3, 1, 1, 32, 20, 0, .mac { plainFrame with payload := .blockReq q, oui := octets d 0x310022 }, false, 0⟩] } } 36 ⟨9, 0, 20, some 3, .blockReq 0 9 0 0 255 0 0⟩).1
def asked_ (q : BlockReq) (b : BuntArea) (f : State → Bool) : Bool := leads (exec .blockReq (at_ worker (asking q (campaigning 3 id b)))) f
def area (t : State) : BuntArea := ((nodeAt t.d 4).map Node.bunt).getD {}

theorem witness_blockReq : queuesOn (asking (ask false false false) (campaigning 3 id receiving)) = true ∧ unitWorks (asking (ask false false false) (campaigning 3 id receiving)) .bunting = true
    ∧ (takeFrom (asking (ask false false false) (campaigning 3 id receiving)) 36).2 = front (asking (ask false false false) (campaigning 3 id receiving)) 36
    ∧ (front (asking (ask false false false) (campaigning 3 id receiving)) 36).map Desc.buf = some (some 3)
    ∧ (nodeOf (campaigning 3 id receiving) 9).map Node.index = some 4 ∧ campActive (campaigning 3 id receiving) 1 = true ∧ campBlocks (campaigning 3 id receiving) 1 = 3
    ∧ asked_ (ask true false false) receiving (fun t => (area t).state = 3 && (camp t.d 1).doneN = 1 && (camp t.d 1).st = 5) = true
    ∧ asked_ (ask false true false) receiving (fun t => (area t).state = 4) = true
    ∧ asked_ (ask false false true) receiving (fun t => (area t).state = 5 && (area t).cause = 3 && (area t).verify = 3) = true
    ∧ asked_ (ask false false true) { receiving with verify := 0 } (fun t => (area t).state = 2 && (area t).verify = 1) = true
    ∧ asked_ (ask false false false) receiving (fun t => (area t).holds 0 && !(area t).holds 1 && (area t).holds 2 && !(area t).holds 3 && (area t).held = 2) = true
    ∧ asked_ (ask false false false) receiving (fun t => (camp t.d 1).waiting = [⟨9, 9, 1, 0⟩, ⟨9, 9, 1, 1⟩, ⟨9, 9, 1, 2⟩, ⟨9, 9, 1, 3⟩] && demand t.d 1 1 = 1) = true
    ∧ asked_ (ask false false false) { receiving with tag := 4 } (fun t => counter t.d 0x610009 = 1) = true := by decide +kernel

/-- The digest of the one octet "a" (FIPS 180-4), first octet least significant. -/
def shaA : Nat := 0xBB48EEAF857780B9724E7C14F8EF86A74DDC239AB331C2FACABD1BCA128197CA
def staging (digest : Nat) : Dev := { served with bunting := { served.bunting with committing := some (5, 7, 1, 1, digest) }, qdl := { served.qdl with staged := [(0x610003, [(0, 97)])] } }
def commitArg : List Byte := toLe 2 5 ++ toLe 2 7 ++ toLe 4 1 ++ toLe 4 600 ++ toLe 32 0
theorem witness_images : accepts (campaigning 3 id receiving) req 0x610004 = true ∧ commitArg.length = 44 ∧ leAt commitArg 0 2 = 5 ∧ repoSlots home = 512 ∧ imageAt (campaigning 3 id receiving) 5 = none ∧ slotUsers (campaigning 3 id receiving) 5 = []
    ∧ slotUsers (campaigning 3 id receiving) 2 = [1] ∧ taskRuns served 6 = true ∧ accepts (campaigning 3 id receiving) req 0x610005 = true ∧ accepts home req 0x610007 = true
    ∧ leads (exec (.imageCommit req commitArg) (at_ worker (campaigning 3 id receiving))) (fun t => said t = some .ok && t.d.bunting.committing = some (5, 7, 1, 600, 0)) = true
    ∧ leads (exec .imageCommitted (at_ worker (staging 0))) (fun t => (evRec t.d 104).lastData = 1281 && t.mem = []) = true
    ∧ leads (exec .imageCommitted (at_ worker (staging shaA))) (fun t => (evRec t.d 104).lastData = 1280 && t.mem = [(slotBase served 5, 97)] && (imageAt t.d 5).map ImageRec.blocks = some 1) = true
    ∧ leads (exec (.imageDelete req [2, 0]) (at_ worker (campaigning 3 id receiving))) (fun t => said t = some .wrongMode) = true
    ∧ leads (exec (.imageDelete req [2, 0]) (at_ worker (campaigning 0 id receiving))) (fun t => said t = some .ok && t.d.bunting.images = []) = true
    ∧ leads (exec (.imageDiscard req []) (at_ worker home)) (fun t => said t = some .ok) = true := by decide +kernel

theorem witness_campaigns : home.bunting.camps.length = 8 ∧ spareIdle (campaigning 0 id {}) = false ∧ Memory.wf (at_ worker (staging 0)).mem = true ∧ accepts (campaigning 0 id {}) req (campKey 1 0x0D) = true ∧ accepts (campaigning 3 id {}) req (campKey 1 0x0E) = true ∧ accepts (campaigning 4 id {}) req (campKey 1 0x0F) = true
    ∧ accepts (campaigning 4 id {}) req (campKey 1 0x10) = true ∧ accepts (campaigning 0 id {}) req 0x61000F = true ∧ accepts home req 0x61000D = true
    ∧ leads (exec (.cStart req 1 []) (at_ worker (campaigning 0 id {}))) (fun t => (area t).state = 1 && (area t).campaign = 1 && (camp t.d 1).st = 1 && (replyOf t.d req).map Prod.snd = some (.exec (campKey 1 0x0D) 0 [1, 0, 0, 0])) = true
    ∧ leads (exec (.cPause req 1 []) (at_ worker (campaigning 3 id {}))) (fun t => (camp t.d 1).st = 4 && (camp t.d 1).prior = 3) = true
    ∧ leads (exec (.cResume req 1 []) (at_ worker (campaigning 4 (fun k => { k with prior := 2 }) {}))) (fun t => (camp t.d 1).st = 2) = true
    ∧ leads (exec (.cAbort req 1 []) (at_ worker (campaigning 4 id {}))) (fun t => (camp t.d 1).st = 6) = true
    ∧ leads (exec (.campaignAssign req [7, 1, 2, 0]) (at_ manager (campaigning 0 id {}))) (fun t => said t = some .ok) = true
    ∧ leads (exec (.buntingQuery req [9, 0]) (at_ worker (campaigning 3 id receiving))) (fun t => said t = some .ok) = true
    ∧ leads (exec .multicastFrameSent (at_ worker (report_ 1 (campaigning 2 (fun k => { k with outN := 1 }) receiving)))) (fun t => (camp t.d 1).st = 3 && counter t.d 0x61000A = 1) = true
    ∧ leads (exec .repairAcknowledged (at_ worker (report_ 2 (campaigning 2 (fun k => { k with repairs := [⟨9, 9, 5, 2⟩] }) receiving)))) (fun t => (camp t.d 1).repairs = [] && counter t.d 0x61000B = 1) = true
    ∧ leads (exec .repairAbandoned (at_ worker (report_ 3 (campaigning 2 (fun k => { k with repairs := [⟨9, 9, 5, 2⟩] }) receiving)))) (fun t => (camp t.d 1).repairs = []) = true
    ∧ leads (exec .frameDiscarded (at_ worker (report_ 4 (campaigning 2 (fun k => { k with outN := 3 }) receiving)))) (fun t => (camp t.d 1).outN = 2) = true := by decide +kernel

theorem witness_rounds : (queue (campaigning 1 id receiving) 35).space 35 = true ∧ imageAt (campaigning 1 id receiving) 2 = some image2 ∧ (camp (campaigning 1 (fun k => { k with announce := 8 }) receiving) 1).announce = 8
    ∧ outstanding (campaigning 2 (fun k => { k with waiting := [⟨9, 9, 1, 0⟩] }) receiving) 9 = 0
    ∧ leads (exec (.roundGapEnd 1) (at_ worker (campaigning 3 id receiving))) (fun t => (camp t.d 1).st = 3 && sec 60 ≤ t.d.clk.up) = true
    ∧ leads (exec (.roundGapEnd 1) (at_ worker (campaigning 3 id {}))) (fun t => (camp t.d 1).st = 5) = true
    ∧ leads (exec (.roundGapEnd 1) (at_ worker { campaigning 3 id receiving with rw := dictPut (campKey 1 6) (.num 1) (campaigning 3 id receiving).rw })) (fun t => (camp t.d 1).st = 2 && (camp t.d 1).plan = [(0, 0), (1, 0), (2, 0)]) = true
    ∧ lateCause (reach { campaigning 3 id receiving with rw := dictPut (campKey 1 0x0C) (.num 1) (campaigning 3 id receiving).rw } (sec 1)) { node9 with bunt := receiving } = some 2
    ∧ leads (exec .targetCheck (at_ worker { campaigning 3 id receiving with rw := dictPut (campKey 1 0x0C) (.num 1) (campaigning 3 id receiving).rw })) (fun t => (area t).state = 5 && (area t).cause = 2 && (camp t.d 1).st = 5) = true
    ∧ leads (exec (.campaignStalled 1) (at_ worker (campaigning 2 id receiving))) (fun t => (evRec t.d 107).lastData = 257) = true
    ∧ leads (exec .buntingControl (at_ worker (push' home (pq 6) ⟨0x11, 1, 0, none, .bunt 1 2 9 0 0⟩))) (fun t => (queue t.d (pq 6)).count = 0) = true := by decide +kernel

/-- A granule is there to be had, wherever the free pick begins. -/
theorem pick_served (d : Dev) (hg : d.store.granules = []) (hr : d.store.retired = []) (h : 0 < granuleTotal d) : ∃ g, pickGranule d = some g := by
  refine ⟨Config.granulePick d.free % granuleTotal d, ?_⟩
  unfold pickGranule firstFrom
  rw [if_pos]
  unfold granuleFree
  simp [hg, hr, Nat.mod_lt _ h]

def announcing : Dev := campaigning 1 (fun k => { k with announce := 8 }) receiving
def repairing : Dev := campaigning 2 (fun k => { k with waiting := [⟨9, 9, 1, 0⟩] }) receiving
theorem witness_pushAnnounce : (pushAnnounce announcing 1 image2).2 = true := by
  obtain ⟨g, hg⟩ := pick_served announcing rfl rfl (by decide)
  have hc : poolClosed announcing 8 = false := by decide +kernel
  simp [pushAnnounce, pushBlock, alloc, hg, hc]
theorem witness_pushData : (pushData [] repairing 1 image2 1 0 true 2 9 0xFFFF).2 = true := by
  obtain ⟨g, hg⟩ := pick_served repairing rfl rfl (by decide)
  have hc : poolClosed repairing 8 = false := by decide +kernel
  have hp : spanPoisoned repairing (slotBase repairing image2.slot + (blockSpan image2 1 0 true).1) (blockSpan image2 1 0 true).2 = false := by decide +kernel
  simp [pushData, pushBlock, alloc, hg, hc, hp]

/-! ## The governor (witnesses of the statements of chapter 14) -/

def sampled (temp : Int) (e : Int) (st : Nat) (f : State → Bool) : Bool :=
  leads (exec (.sensorSample (List.replicate 8 temp) 900) (at_ worker { home with gov := { home.gov with e := e, st := st } })) f

theorem witness_govStates : home.pwr.mode ≠ .m0 ∧ home.pwr.mode.asleep = false ∧ (queue home (pq 7)).space (pq 7) = true ∧ (eCap home, num home 0x114001, num home 0x114002, num home 0x114003) = (60000000, 1100, 50, 1200)
    ∧ sampled 250 18000000 0 (fun t => t.d.gov.st = 0 && tMax t.d = 250 && t.d.nv.sense = [900]) = true
    ∧ sampled 250 5999999 0 (fun t => t.d.gov.st = 1 && (evRec t.d 8).lastData = 1 && (queue t.d (pq 7)).count = 2) = true
    ∧ sampled 250 6000000 0 (fun t => t.d.gov.st = 0) = true
    ∧ sampled 250 17999999 1 (fun t => t.d.gov.st = 1) = true ∧ sampled 250 18000000 1 (fun t => t.d.gov.st = 0) = true
    ∧ sampled 1100 18000000 0 (fun t => t.d.gov.st = 2) = true ∧ sampled 1051 18000000 2 (fun t => t.d.gov.st = 2) = true ∧ sampled 1050 18000000 2 (fun t => t.d.gov.st = 0) = true
    ∧ sampled 1100 0 0 (fun t => t.d.gov.st = 3) = true ∧ sampled 1200 18000000 0 (fun t => t.d.gov.st = 4) = true ∧ sampled 1150 18000000 4 (fun t => t.d.gov.st = 2) = true
    ∧ sampled 1250 18000000 0 (fun t => t.d.pwr.mode = .m11 && (evRec t.d 15).lastData = 1250) = true ∧ sampled 1249 18000000 0 (fun t => t.d.pwr.mode = .m7 || t.d.pwr.mode = .m8) = true := by decide +kernel

theorem witness_governor : leads (exec .refill (at_ worker home)) (fun t => t.d.gov.e = 18000150 && ms 1 ≤ t.d.clk.up) = true
    ∧ leads (exec .refill (at_ worker { home with gov := { home.gov with e := 60000000 } })) (fun t => t.d.gov.e = 60000000) = true
    ∧ leads (exec (.reconciliation []) (at_ worker { home with gov := { home.gov with granted := [⟨5, 300, 300⟩] } })) (fun t => t.d.gov.granted = [] && t.d.gov.e = 18000300) = true
    ∧ leads (exec .battStale (at_ worker { home with gov := { home.gov with battStale := false, battAt := some 0 } })) (fun t => t.d.gov.battStale && t.d.ev.pending.testBit 10 && sec 600 ≤ t.d.clk.up) = true
    ∧ leads (exec (.cmdDeferMax 0x402005) (at_ worker { home with gov := { home.gov with deferred := [(0x402005, 0)] } })) (fun t => t.d.ev.pending.testBit 65 && t.d.gov.deferred = []) = true
    ∧ leads (exec .governorCommand (at_ worker (push' home (pq 7) ⟨0x12, 2, 0, none, .gov 1 0 0 0 0 0⟩))) (fun t => t.d.gov.hold) = true
    ∧ leads (exec .governorCommand (at_ worker (push' home (pq 7) ⟨0x12, 3, 0, none, .gov 0 0 0 0 0 0⟩))) (fun t => !t.d.gov.hold) = true := by decide +kernel

/-! ## Modes, sleep and wake (witnesses of the statements of chapter 15) -/

def idleDev : Dev := { served with pwr := { served.pwr with baseFull := true } }
def sleepArg (mode : Nat) (force : Nat) (hb : Nat) (ch : Nat) (alarm : Nat) : List Byte := toLe 1 mode ++ toLe 1 force ++ toLe 1 hb ++ toLe 1 ch ++ toLe 4 0 ++ toLe 8 alarm
def slept (d : Dev) (arg : List Byte) (st : Status) : Bool :=
  leads (exec (.sleep req arg) (at_ worker d)) (fun t => said t = some st && t.d.pwr.sleepReq.isSome = decide (st = .ok))

theorem witness_modes : writes worker idleDev req 0 (writeItem 0x100003 [0]) = true ∧ preparesSlots idleDev = false ∧ accepts idleDev req 0x10000A = true ∧ idleDev.gov.st = 0 ∧ idleDev.pwr.fullOnly = false
    ∧ leads (exec (.maintenanceEnter req [1]) (at_ worker idleDev)) (fun t => t.d.pwr.mode = .m10 && said t = some .ok && (evRec t.d 0).lastData = 1802) = true
    ∧ leads (exec (.maintenanceEnter req [1]) (at_ worker { idleDev with sched := { idleDev.sched with st := .running } })) (fun t => t.d.pwr.mode = .m7 && said t = some .wrongMode) = true
    ∧ accepts { idleDev with pwr := { idleDev.pwr with mode := .m10 } } req 0x10000A = true
    ∧ leads (exec (.maintenanceExit req [0]) (at_ worker { idleDev with pwr := { idleDev.pwr with mode := .m10 } })) (fun t => t.d.pwr.mode = .m6 && said t = some .ok) = true
    ∧ accepts idleDev req 0x100009 = true ∧ slept idleDev (sleepArg 2 0 0 0 0) .ok = true ∧ slept idleDev (sleepArg 0 0 0 0 0) .outOfRange = true ∧ slept idleDev (sleepArg 4 0 0 0 0) .outOfRange = true
    ∧ slept idleDev (sleepArg 2 0 0 0 99999999) .outOfRange = true ∧ slept idleDev (sleepArg 2 0 0 0 100000000) .ok = true
    ∧ slept { idleDev with nv := { idleDev.nv with rp := [(0x10000B, .num 9)] } } (sleepArg 1 0 0 0 0) .outOfRange = true
    ∧ slept { idleDev with nv := { idleDev.nv with rp := [(0x10000B, .num 9)] } } (sleepArg 1 0 0 0 100000000) .ok = true
    ∧ slept { idleDev with hier := { idleDev.hier with st := .leased } } (sleepArg 3 0 1 11 0) .wrongMode = true
    ∧ slept { idleDev with hier := { idleDev.hier with st := .leased } } (sleepArg 3 1 1 11 0) .ok = true ∧ slept idleDev (sleepArg 3 1 1 27 0) .outOfRange = true
    ∧ leads (exec (.maintenanceExit req [0]) (at_ worker idleDev)) (fun t => said t = some .wrongMode && t.d.pwr.mode = .m7) = true
    ∧ leads (exec (.sleep req (sleepArg 2 0 0 0 0)) (at_ worker { idleDev with pwr := { idleDev.pwr with sleepReq := some (1, 0, 0, 0) } })) (fun t => said t = some .busy) = true := by decide +kernel

def falling (entering : Bool) : Dev := { idleDev with pwr := { idleDev.pwr with sleepReq := some (3, 1, 11, 90), sleepDue := 6400, entering := entering, sleepDistrict := 14 } }
def asleep (mode : Mode) (k : Nat) (en : Nat) : Dev :=
  { idleDev with pwr := { idleDev.pwr with mode := mode, sleepReq := some (k, 0, 0, 90), sleepDistrict := 14 }, start := { idleDev.start with stage := .idle }
                 clk := { idleDev.clk with fast := false }, nv := { idleDev.nv with rp := [(0x10000B, .num en)] } }
def woken (c : Instr) (d : Dev) (bit : Nat) : Bool := leads (exec c (at_ worker d)) (fun t => t.d.pwr.wakeCause = 2 ^ bit && t.d.start.stage = .waitPg && t.d.start.cause = 3)
def unwoken (c : Instr) (d : Dev) : Bool := leads (exec c (at_ worker d)) (fun t => t.d.start.stage = .idle)

theorem witness_sleep : sleepable (falling false) = true ∧ (asleep .m3 3 15).pwr.mode.asleep = true ∧ (numN (asleep .m3 3 15) 0x10000B, numN (asleep .m3 3 15) 0x100011) = (15, 60)
    ∧ leads (exec .sleepEntry (at_ worker (falling false))) (fun t => t.d.pwr.entering && t.d.qdl.sessions = [] && t.d.out.length = 1) = true
    ∧ leads (exec .sleepEntry (at_ worker (falling true))) (fun t => t.d.pwr.mode = .m3 && t.d.pwr.domains = 3 && t.d.pwr.padHold = 0x980) = true
    ∧ woken .wakeIn (asleep .m1 1 15) 2 = true ∧ unwoken .wakeIn (asleep .m1 1 11) = true ∧ woken .e0LinkEnergy (asleep .m2 2 15) 0 = true ∧ unwoken .e0LinkEnergy (asleep .m1 1 15) = true
    ∧ woken (.halyardWindow 60 true 14) (asleep .m3 3 15) 1 = true ∧ woken (.halyardWindow 64 true 0xFFFF) (asleep .m3 3 2) 1 = true ∧ unwoken (.halyardWindow 60 true 14) (asleep .m3 3 13) = true
    ∧ woken .wakeAlarm (asleep .m1 1 8) 3 = true ∧ unwoken .wakeAlarm (asleep .m1 1 7) = true
    ∧ leads (exec .wakeAlarm (at_ worker (asleep .m1 1 8))) (fun t => decide (90 ≤ t.d.pwr.wakeTime)) = true
    ∧ leads (exec .wakeIn (at_ worker (falling true))) (fun t => !t.d.pwr.entering && t.d.pwr.mode = .m7 && (evRec t.d 4).lastData = 4) = true
    ∧ woken .wakeIn { falling true with clk := { (falling true).clk with up := 6400 + ms 57 } } 2 = true
    ∧ leads (exec (.halyardWindow 60 true 15) (at_ worker (asleep .m3 3 15))) (fun t => t.d.pwr.halyardForeign = 1 && t.d.pwr.halyardLastId = 15 && t.d.start.stage = .idle) = true := by decide +kernel

/-! ## The start, provisioning and resets (witnesses of the statements of chapter 16) -/

/-- A device that awaits power-good, with an IMAGE key and a GOOD slot. -/
def cold (f : Dev → Dev) : Dev :=
  let d : Dev := {}
  f { d with can := { d.can with table := [⟨5, 0, false, true, 1, 9, 0⟩] }, fw := { d.fw with slots := [{ st := 4, keyGen := 1 }, {}] } }
def pg : BootResult := ⟨true, true, true, 0, 0, 0xEF4018, 67108864, 0, true, false⟩
def begun (p : Perm) (d : Dev) (b : BootResult) (f : State → Bool) : Bool := leads (exec (.powerGood b) (at_ p d)) f
def faultAt (cause detail : Nat) (t : State) : Bool := t.d.pwr.mode = .m11 && t.d.pwr.faultCause = cause && t.d.start.detail = detail

theorem witness_startSteps : (cold id).start.stage = .waitPg ∧ (cold id).start.factoryTest = false ∧ (cold id).nv.unreadable = false ∧ slotReason worker (cold id) 0 0 = 0
    ∧ begun worker (cold id) { pg with lock := false } (faultAt 2 0) = true ∧ begun worker (cold id) { pg with storeOk := false } (faultAt 4 1) = true
    ∧ begun {} (cold id) pg (fun t => t.d.pwr.mode = .m5 && t.d.start.rootDue.isSome) = true ∧ begun { root := true } (cold id) pg (fun t => t.d.pwr.mode = .m5 && t.d.start.rootDue.isNone) = true
    ∧ begun { worker with root := false } (cold id) pg (faultAt 5 0) = true ∧ begun worker (cold (fun d => { d with can := { d.can with flag := true } })) pg (faultAt 1 0) = true
    ∧ begun worker (cold (fun d => { d with can := { d.can with asserted := 1 }, nv := { d.nv with rp := [(0x500011, .num 1)] } })) pg (faultAt 1 0) = true
    ∧ begun worker (cold (fun d => { d with start := { d.start with cause := 6, watchdogResets := 3 } })) pg (faultAt 4 5) = true
    ∧ begun worker (cold (fun d => { d with start := { d.start with cause := 6, watchdogResets := 2 } })) pg (fun t => t.d.start.stage = .booting) = true
    ∧ begun worker (cold (fun d => { d with can := {} })) pg (faultAt 4 3) = true ∧ begun worker (cold id) { pg with unwrapOk := false } (faultAt 4 3) = true
    ∧ begun worker (cold id) { pg with flashSize := 67108863 } (faultAt 4 2) = true ∧ begun worker (cold (fun d => { d with fw := {} })) pg (faultAt 4 2) = true
    ∧ begun worker (cold id) pg (fun t => t.d.pwr.mode = .m4 && t.d.fw.running = some 0 && t.d.start.stage = .booting && t.d.pwr.vioA18 && !t.d.pwr.vioB18) = true := by decide +kernel

def booting (f : Dev → Dev) : Dev := f { cold id with start := { stage := .booting }, fw := { (cold id).fw with running := some 0 } }
def inM5 : Dev := { served with pwr := { served.pwr with mode := .m5 }, start := { served.start with bootRuntime := true, rootDue := some 100 }, nv := { served.nv with sense := [900] } }
def unset : Perm := { root := true }
/-- M5 with every value that R487 asks for. -/
def complete : Dev :=
  { inM5 with rw := [(0x120008, .num 2), (0x120009, .num 7)]
              nv := { inM5.nv with rp := [(0x021301, .bytes (List.replicate 64 1)), (0x021302, .num 2), (0x021303, .num 1), (0x500014, .bytes (List.replicate 64 1)), (0x700002, .bytes (List.replicate 64 1))] }
              can := { inM5.can with table := [⟨5, 0, false, true, 1, 9, 0⟩] }, fw := { inM5.fw with slots := [{ st := 2, keyGen := 1 }, {}] } }

theorem witness_startCommands : leads (exec (.storeClearDone 0) ⟨[], worker, [⟨5, 1⟩], booting id⟩) (fun t => t.mem = [] && t.d.start.clearDone) = true
    ∧ leads (exec (.storeClearDone 0) (at_ manager (booting (fun d => { d with start := { d.start with ready := true } })))) (fun t => t.d.pwr.mode = .m7 && t.d.start.startCount = 1 && t.d.pwr.meshOk) = true
    ∧ leads (exec (.storeClearDone 0) (at_ unset { inM5 with start := { stage := .idle } })) (fun t => t.d.start.served && t.d.start.bootRuntime && t.d.pwr.mode = .m5) = true
    ∧ leads (exec (.storeClearDone 2) (at_ worker (booting id))) (fun t => faultAt 4 4 t && counter t.d 0x40000C = 2) = true
    ∧ (migrate (booting (fun d => { d with start := { d.start with ready := true } })) true).2 = .ok
    ∧ leads (exec (.runtimeReady true) (at_ worker (booting id))) (fun t => t.d.start.ready) = true
    ∧ (booting id).start.stage = .booting ∧ (booting id).start.ready = false ∧ (booting id).fw.running = some 0
    ∧ leads (exec (.rootCommit true) (at_ {} inM5)) (fun t => t.perm.root) = true ∧ leads (exec (.rootCommit false) (at_ {} inM5)) (faultAt 4 6) = true
    ∧ accepts inM5 req 0x12000A = true ∧ accepts complete req 0x12000A = true ∧ complete.start.pendingReset = none ∧ complete.start.record = none ∧ provisionCheck {} complete = some (1, .wrongMode) ∧ provisionCheck unset inM5 = some (2, .outOfRange)
    ∧ provisionCheck unset { complete with rw := [(0x120008, .num 1), (0x120009, .num 1)] } = some (2, .outOfRange) ∧ provisionCheck unset { complete with rw := [(0x120008, .num 1), (0x120009, .num 0)] } = none
    ∧ provisionCheck unset complete = none ∧ (commitNv complete 5 64 [cantonPage]).2 = .ok
    ∧ leads (exec (.provisionCommit req []) (at_ unset inM5)) (fun t => replyOf t.d req = some (.outOfRange, .exec 0x12000A 0 [2]) && !t.perm.provisioned) = true := by decide +kernel

theorem witness_resets : leads (exec (.powerOn false) (at_ worker { served with pwr := { mode := .m0 } })) (fun t => t.d.pwr.mode = .m4 && t.d.start.cause = 1) = true
    ∧ leads (exec .powerOff (at_ worker served)) (fun t => t.d.pwr.mode = .m0) = true ∧ leads (exec (.brownout true) (at_ worker served)) (fun t => t.d.pwr.brownFlag = 1) = true
    ∧ leads (exec .powerGoodTimeout (at_ worker (cold id))) (fun t => t.d.start.attempts = 2 && decide (ms 30 ≤ t.d.clk.up)) = true
    ∧ leads (exec .powerGoodTimeout (at_ worker { asleep .m2 2 15 with start := { stage := .waitPg, cause := 3, attempts := 3 } })) (fun t => t.d.pwr.mode = .m2 && t.d.pwr.wakeFails = 1) = true
    ∧ leads (exec (.powerOn true) (at_ worker { served with pwr := { mode := .m0 } })) (fun t => t.d.start.factoryTest) = true
    ∧ leads (exec .powerGoodTimeout (at_ worker { cold id with start := { (cold id).start with attempts := 3 } })) (fun t => t.d.start.attempts = 4 && t.d.start.pgFails = 1 && decide (sec 1 ≤ t.d.clk.up)) = true
    ∧ leads (exec (.reset req []) (at_ worker { served with start := { served.start with pendingReset := some (4, 9) } })) (fun t => said t = some .busy) = true
    ∧ accepts served req 0x120005 = true ∧ leads (exec (.reset req []) (at_ worker served)) (fun t => said t = some .ok && t.d.start.pendingReset = some (4, ms 100)) = true
    ∧ leads (exec .deviceReset (at_ worker { served with start := { served.start with pendingReset := some (4, 6400) } })) (fun t => t.d.start.cause = 4 && t.d.pwr.mode = .m4) = true
    ∧ accepts { served with pwr := { served.pwr with padHold := 0x980 } } req 0x100007 = true
    ∧ leads (exec (.padRelease req [0x80, 0x0F, 0, 0]) (at_ worker { served with pwr := { served.pwr with padHold := 0x880 } })) (fun t => t.d.pwr.padHold = 0 && (evRec t.d 3).lastData = 0x880) = true
    ∧ leads (exec (.padRelease req [0, 0x10, 0, 0]) (at_ worker served)) (fun t => said t = some .outOfRange) = true := by decide +kernel

/-! ## The persistent store and firmware update (witnesses of the statements of chapters 17 and 18) -/

/-- The example of R501: 0.47 F, 11:1, 6.0 V, one commit of START_COUNT waiting, the pin at `mv`. -/
def pole (mv : Nat) (cap : Nat) : Dev :=
  { served with nv := { served.nv with rp := [(0x132001, .num cap), (0x132002, .num 11000), (0x132003, .num 6000)], sense := [900, mv, 900], waiting := [⟨1, 0⟩] } }

theorem witness_commits : domainOn (pole 546 470000) 1 = true ∧ (pole 546 470000).pwr.entering = false ∧ (numN served 0x11100F, numN served 0x111010) = (2000, 500)
    ∧ pagesWorn (pole 546 470000) [149] = false ∧ pagesWorn { pole 546 470000 with nv := { (pole 546 470000).nv with worn := [149] } } [149] = true
    ∧ (holdupCheck (pole 546 470000) 6500).2 = true ∧ (holdupCheck (pole 545 470000) 6500).2 = false ∧ (holdupCheck (pole 738 470000) 7000000).2 = true
    ∧ (holdupCheck (pole 737 470000) 7000000).2 = false ∧ (holdupCheck (pole 545 0) 6500).2 = true ∧ holdupAvail (pole 738 470000) = 7026
    ∧ leads (exec (.commit none true) (at_ worker (pole 545 470000))) (fun t => t.d.nv.saved = ⟨0, 0⟩ && counter t.d 0x132006 = 1) = true := by decide +kernel

/-- Page 8 written 1,000,001 times more than any spare. -/
def wearing : Dev := { served with nv := { served.nv with writes := [(10, 1000001)] } }

theorem witness_wear : qdlServed wearing = true ∧ taskRuns wearing 3 = true ∧ numN wearing 0x130006 = 1000000 ∧ pageWrites wearing (physPage wearing 8) = 1000001
    ∧ leads (exec (.wearMove 8 true) (at_ worker wearing)) (fun t => physPage t.d 8 = 10) = true
    ∧ (migrate (reach (booting (fun d => { d with start := { d.start with migrationWait := some 64000 } })) 64000) true).2 = .ok
    ∧ leads (exec (.settingsMigrationRetry true) (at_ worker (booting (fun d => { d with start := { d.start with ready := true, migrationWait := some 64000 } })))) (fun t => t.d.start.migrationWait = none) = true := by decide +kernel

/-- Slot A runs, GOOD or on trial; slot B in a state. -/
def updating (a b : Nat) (f : Dev → Dev) : Dev :=
  f { served with can := { served.can with table := [⟨5, 0, false, true, 1, 9, 0⟩] }, fw := { served.fw with slots := [{ st := a, keyGen := 1, sec := 2 }, { st := b, keyGen := 1, sec := 3 }], running := some 0 } }
def swinging (revert : Bool) : Dev := updating 4 3 (fun d => { d with pwr := { d.pwr with mode := .m9 }, fw := { d.fw with hoist := some (1, revert, 0) } })

theorem witness_update : accepts (updating 4 0 id) req 0x600002 = true ∧ slotIn (updating 4 0 id) 3 = none ∧ slotIn (updating 4 3 id) 3 = some 1 ∧ (commitNv (updating 4 0 id) 1 64 [counterPage]).2 = .ok
    ∧ leads (exec (.fwWrite req [0]) (at_ worker (updating 4 0 id))) (fun t => said t = some .wrongMode) = true
    ∧ writeRuns (updating 4 1 (fun d => { d with fw := { d.fw with writing := some 1 } })) = true
    ∧ targetSlot (updating 4 0 id) 255 = some 1 ∧ leads (exec (.fwWrite req [1]) (at_ worker (updating 4 1 (fun d => { d with fw := { d.fw with writing := some 1 } })))) (fun t => said t = some .busy) = true
    ∧ leads (exec (.fwWritten true true true none) (at_ worker (updating 4 1 (fun d => { d with nv := (pole 545 470000).nv, fw := { d.fw with writing := some 1 } })))) (fun t => (evRec t.d 100).lastData = 263 && t.d.fw.writing = none) = true
    ∧ accepts (updating 4 0 id) req 0x600003 = true ∧ leads (exec (.fwDiscard req []) (at_ worker (updating 4 0 id))) (fun t => said t = some .ok) = true
    ∧ leads (exec (.fwDiscard req []) (at_ worker (updating 4 1 (fun d => { d with fw := { d.fw with writing := some 1 } })))) (fun t => said t = some .busy) = true
    ∧ accepts (updating 4 2 id) req 0x600004 = true ∧ slotIn (updating 4 2 id) 2 = some 1 ∧ worksOn (updating 4 2 id) = false ∧ (updating 4 2 id).pwr.mode.running = true
    ∧ slotReason worker (updating 4 2 id) 1 0 = 0 ∧ slotReason worker (updating 4 2 id) 1 2 = 2 ∧ slotReason worker (updating 4 2 (fun d => { d with fw := { d.fw with floor := 3 } })) 1 0 = 0
    ∧ slotReason worker (updating 4 2 (fun d => { d with fw := { d.fw with floor := 4 } })) 1 0 = 5
    ∧ (holdupCheck (updating 4 2 id) 7000000).2 = true ∧ (commitNv (holdupCheck (updating 4 2 id) 7000000).1 2 128 [counterPage]).2 = .ok
    ∧ (holdupCheck (updating 4 2 (fun d => { d with nv := (pole 737 470000).nv })) 7000000).2 = false
    ∧ leads (exec (.fwHoist req [] 0) (at_ worker (updating 4 2 (fun d => { d with nv := (pole 737 470000).nv })))) (fun t => (evRec t.d 101).lastData = 264 && t.d.pwr.mode = .m7) = true
    ∧ (swinging false).fw.hoist = some (1, false, 0) ∧ (swinging false).pwr.mode = .m9 ∧ (migrate { swinging false with fw := { (swinging false).fw with running := some 1 } } true).2 = .ok
    ∧ leads (exec (.fwHoist req [] 0) (at_ worker (updating 4 0 id))) (fun t => said t = some .wrongMode) = true
    ∧ (switchBack (reach (swinging true) (ms 900)) 1).2 = .ok ∧ leads (exec (.hoistActivation true true) (at_ worker (swinging true))) (fun t => t.d.fw.running = some 1 && (evRec t.d 101).lastData = 256) = true
    ∧ leads (exec (.hoistActivation true false) (at_ worker (swinging false))) (fun t => t.d.fw.hoist = none) = true
    ∧ accepts (updating 3 4 id) req 0x600006 = true ∧ slotIn (updating 3 4 id) 3 = some 0 ∧ slotIn (updating 3 4 id) 4 = some 1 ∧ worksOn (updating 3 4 id) = false
    ∧ runningTrial (updating 3 4 id) = some 0 ∧ accepts (updating 3 4 id) req 0x600005 = true ∧ (commitNv (updating 3 4 id) 3 192 [counterPage]).2 = .ok ∧ numN (updating 3 4 id) 0x600007 = 900
    ∧ (commitNv (updating 3 4 (fun d => { d with nv := (pole 545 470000).nv })) 3 192 [counterPage]).2 = .holdupLow
    ∧ leads (exec (.fwConfirm req []) (at_ worker (updating 3 4 (fun d => { d with nv := (pole 545 470000).nv })))) (fun t => t.d.fw.confirmAt = some (sec 1)) = true := by decide +kernel

/-! ## General timers (witnesses of the statements of chapter 19) -/

/-- TM4 at 1 MHz with a PERIOD, a count and settings. -/
def ticking (l : List (Nat × Val)) (f : Timer → Timer) : Dev :=
  { served with rw := l, timers := served.timers.set 4 (f { run := true, count := 7200 }) }
def per (k : Nat) (p : Int) : Nat × Val := (tmKey k 5, .num p)
/-- The example of R533: TM4, TM5, TM9 and TM12 in group 2, each with PERIOD 1,000. -/
def group2 : Dev :=
  { served with rw := [(tmKey 4 5, .num 1000), (tmKey 4 7, .num 2), (tmKey 5 5, .num 1000), (tmKey 5 7, .num 2), (tmKey 9 5, .num 1000), (tmKey 9 7, .num 2), (tmKey 12 5, .num 1000), (tmKey 12 7, .num 2)] }
def askedTo (l : List Bool) : Timer → Timer := fun t => { t with deferred := l }

theorem witness_timers : srcRuns (ticking [per 4 5000] id) (tmSel (ticking [per 4 5000] id) 4) = true ∧ tmFrozen (ticking [] id) 4 = false ∧ gateOpen (ticking [] id) 4 = true ∧ timersOn served = true
    ∧ (timer (ticking [] id) 4).deferred = []
    ∧ leads (exec (.timerExpiry 4) (at_ worker (ticking [per 4 5000, (tmKey 4 0x0B, .num 1)] id))) (fun t => (timer t.d 4).count = 0 && (evRec t.d 116).lastData = 0x40001 && (timer t.d 4).expiries = 1) = true
    ∧ leads (exec (.timerExpiry 4) (at_ worker (ticking [(tmKey 4 1, .num 1), per 4 7202] id))) (fun t => (timer t.d 4).count = 7202 && (timer t.d 4).expired && !(timer t.d 4).run && decide (128000 ≤ t.d.clk.up)) = true
    ∧ leads (exec (.timerWrap 4) (at_ worker (ticking [] (fun t => { t with count := maxCount })))) (fun t => (timer t.d 4).count = 0 && (timer t.d 4).wrap && t.d.ev.pending.testBit 118) = true
    ∧ leads (exec (.timerExpiry 4) (at_ worker (ticking [] (askedTo [true])))) (fun t => (timer t.d 4).run && (timer t.d 4).deferred.isEmpty && decide ((timer t.d 4).count < 100)) = true
    ∧ leads (exec (.timerExpiry 4) (at_ worker (ticking [per 4 9000] (askedTo [false])))) (fun t => !(timer t.d 4).run && (timer t.d 4).count = 7201) = true
    ∧ leads (exec (.timerExpiry 4) (at_ worker { ticking [per 4 9000] (askedTo [false]) with halted := true })) (fun t => (timer t.d 4).run && (timer t.d 4).count = 7200) = true
    ∧ leads (exec (.timerCapture 4 false) (at_ worker (ticking [(tmKey 4 8, .num 25)] (fun t => { t with capNew := true })))) (fun t => (timer t.d 4).capture = 7200 && (timer t.d 4).overrun && (evRec t.d 117).lastData = 4) = true
    ∧ capEdge (ticking [(tmKey 4 8, .num 25)] id) 4 false = true ∧ capEdge (ticking [(tmKey 4 8, .num 25)] id) 4 true = false ∧ takesUp served req = true := by decide +kernel

theorem witness_timer_requests : leads (exec (.capLoRead req 4 false) (at_ worker (ticking [] (fun t => { t with capNew := true, capture := 9 })))) (fun t => said t = some .ok && !(timer t.d 4).capNew) = true
    ∧ leads (exec (.capLoRead req 4 true) (at_ worker (ticking [(tmKey 4 8, .num 25)] (fun t => { t with capNew := true, capture := 9 })))) (fun t => (timer t.d 4).capNew && (timer t.d 4).capture = 7200) = true
    ∧ writes worker served req 0 (writeItem (tmKey 4 5) (toLe 8 5000)) = true ∧ accepts served req (tmKey 4 0x0C) = true ∧ accepts served req (tmKey 23 0x0D) = true ∧ accepts served req (tmKey 0 0x0F) = true
    ∧ leads (exec (.periodWrite req 4 5000#64) (at_ worker (ticking [] id))) (fun t => tmPeriod t.d 4 = 5000 && (timer t.d 4).count = 7200) = true
    ∧ leads (exec (.arm req 4 []) (at_ worker (ticking [per 4 100, (tmKey 4 6, .num 100)] id))) (fun t => said t = some .outOfRange) = true
    ∧ leads (exec (.arm req 4 []) (at_ worker (ticking [per 4 100, (tmKey 4 6, .num 99)] id))) (fun t => said t = some .ok && (timer t.d 4).deferred = [true]) = true
    ∧ leads (exec (.stop req 4 []) (at_ worker (ticking [per 4 100] id))) (fun t => (timer t.d 4).run && (timer t.d 4).deferred = [false]) = true
    ∧ leads (exec (.clearFlags req 4 [2, 0, 0, 0]) (at_ worker (ticking [] (fun t => { t with expired := true, wrap := true })))) (fun t => !(timer t.d 4).expired && (timer t.d 4).wrap) = true := by decide +kernel

theorem witness_groups : accepts group2 req 0x190002 = true ∧ members group2 2 = [4, 5, 9, 12] ∧ groupOk group2 [4, 5, 9, 12] true = true ∧ groupOk group2 [] false = false
    ∧ leads (exec (.groupStart req [2, 1]) (at_ worker group2)) (fun t => [4, 5, 9, 12].map (fun n => tmPhase t.d n) = [0, 250, 500, 750] && (evRec t.d 119).lastData = 0x204) = true
    ∧ leads (exec (.groupStart req [3, 0]) (at_ worker group2)) (fun t => said t = some .outOfRange) = true
    ∧ accepts group2 req 0x190003 = true ∧ leads (exec (.groupStop req [2]) (at_ worker group2)) (fun t => said t = some .ok && (timer t.d 12).deferred = [false]) = true
    ∧ leads (exec (.debugHalt true) (at_ { root := true } served)) (fun t => t.d.halted) = true ∧ leads (exec (.debugHalt true) (at_ worker served)) (fun t => !t.d.halted) = true
    ∧ leads (exec (.debugHalt false) (at_ { root := true } { served with halted := true })) (fun t => !t.d.halted) = true := by decide +kernel

/-! ## Events, errors and telemetry (witnesses of the statements of chapter 20) -/

def errRec : ErrRec := { severity := 2, buf := none, time := 5, unit := 9, inst := 0, code := 1, nest := 1, addr := none, arg0 := 0, arg1 := 0, rseq := 1 }
/-- Event 12 waits at P5, an error record at P1; the session has two subscriptions, one of them to event 12. -/
def telling : Dev :=
  let d := (push (push served (pq 5) ⟨0x10, 0, 0, none, .event 12 0 7 1 5⟩).1 (pq 1) ⟨0x0C, 2, 56, none, .error errRec⟩).1
  { d with qdl := { d.qdl with sessions := d.qdl.sessions.map (fun y => { y with subs := [⟨1, true, 12, 0, none, none⟩, ⟨2, true, 13, 0, none, none⟩] }) } }
def faulty (n : Nat) : Dev := { served with err := { served.err with episodes := if n = 0 then [] else [(6, n, 0x41)] } }
def gathering (frozen : Bool) : Dev := { served with tel := { served.tel with frozen := frozen, staged := [⟨.event 12 0 7 1 5, 64, 5⟩] }, store := { served.store with telemUnits := 1, fbUnits := 4 } }

theorem witness_raise : served.ev.recs.length = 128 ∧ served.queues.length = 56 ∧ qdlServed served = true ∧ (queue served (pq 5)).space (pq 5) = true ∧ qdlServed (cold id) = false
    ∧ evRec (raise served 127 9) 127 = ⟨1, 0, 9⟩ ∧ (queue (raise served 127 9) (pq 5)).count = 1 ∧ (raise (cold id) 0 9).ev.held = [(0, 9, 0)]
    ∧ counter (raise { cold id with ev := { (cold id).ev with held := List.replicate 32 (0, 0, 0) } } 0 9) 0x800008 = 1 := by decide +kernel

theorem witness_events : ((takeFrom telling (pq 5)).2.map Desc.body = some (.event 12 0 7 1 5)) ∧ flag telling ((0x8080 + 12) * 256 + 7) = true ∧ stagingUsed telling = 0
    ∧ leads (exec .eventNotification (at_ worker telling)) (fun t => (session t.d 5).map Session.notifySeq = some 1 && t.d.tel.staged.length = 1) = true
    ∧ accepts telling req 0x800005 = true
    ∧ leads (exec (.evtAck req (1 :: List.replicate 15 0)) (at_ worker { served with ev := { served.ev with pending := 3 } })) (fun t => t.d.ev.pending = 2) = true
    ∧ ((takeFrom telling (pq 1)).2.map Desc.body = some (.error errRec)) ∧ leads (exec .errorRecord (at_ worker telling)) (fun t => t.d.err.log = [errRec]) = true
    ∧ accepts telling req 0x810005 = true ∧ leads (exec (.errLogClear req []) (at_ worker telling)) (fun t => said t = some .ok) = true := by decide +kernel

theorem witness_faults : leads (exec (.unitFault .forwarding true 2) (at_ worker (faulty 0))) (fun t => episode t.d 6 = some (6, 1, 0x41)) = true
    ∧ leads (exec (.unitFault .forwarding false 2) (at_ worker (faulty 2))) (fun t => episode t.d 6 = some (6, 3, 0x40) && counter t.d 0x810009 = 1) = true
    ∧ leads (exec (.unitFault .forwarding false 2) (at_ worker (faulty 3))) (fun t => episode t.d 6 = some (6, 3, 0x41)) = true
    ∧ leads (exec (.unitRecovered .forwarding) (at_ worker (faulty 2))) (fun t => unitWorks t.d .forwarding) = true
    ∧ leads (exec (.unitRecovered .forwarding) (at_ worker (faulty 3))) (fun t => !unitWorks t.d .forwarding && (evRec t.d 126).lastData = 0x600) = true
    ∧ accepts served req 0x81000B = true ∧ leads (exec (.unitRestore req [6]) (at_ worker served)) (fun t => said t = some .wrongMode) = true
    ∧ leads (exec (.unitRestore req [6]) (at_ worker { served with err := { served.err with quarantined := 64 } })) (fun t => said t = some .ok && (evRec t.d 126).lastData = 0x80000600) = true
    := by decide +kernel

theorem witness_runtime_fault : served.pwr.mode ≠ .m0 ∧ served.pwr.mode.asleep = false ∧ served.start.stage ≠ .waitPg
    ∧ leads (exec (.runtimeFault .coreException 3) (at_ worker { served with nv := (pole 545 470000).nv })) (fun t => (t.d.err.lastFatal.map ErrRec.arg0 = some 2) && t.d.start.cause = 6 && t.d.start.stage = .waitPg && t.d.pwr.mode = .m4 && t.d.bandSf.tx.isNone) = true := by decide +kernel

theorem witness_telemetry : runtimeUp telling = true ∧ eventSubs telling 12 = [(5, 1)] ∧
    leads (exec .telemWrite (at_ worker { gathering false with tel := { (gathering false).tel with head := 67108800, staged := [⟨.error errRec, 128, 5⟩] } })) (fun t => t.d.tel.head = 128 && counter t.d 0x82000B = 1 && memGet (regionBase t.d 7) t.mem = 2) = true ∧ fullRuntime (gathering false) = true ∧ taskRuns (gathering false) 4 = true ∧ ringSize (gathering false) = 67108864 ∧ numN served 0x820007 ≠ 0 ∧ accepts served req 0x820005 = true
    ∧ leads (exec .telemWrite (at_ worker (gathering false))) (fun t => t.d.tel.head = 64 && t.d.tel.staged = [] && memGet (regionBase t.d 7) t.mem = 1 && memGet (regionBase t.d 7 + 4) t.mem = 1) = true
    ∧ leads (exec .telemWrite (at_ worker (gathering true))) (fun t => t.mem = [] && t.d.tel.staged.length = 1) = true
    ∧ leads (exec .sample (at_ worker { gathering true with rw := [(0x820007, .num 1)], nv := { served.nv with rp := [(0x820007, .num 1)] } })) (fun t => t.d.tel.lastSample = t.d.clk.up && t.d.tel.staged.length = 2) = true
    ∧ leads (exec (.telemFreeze req [1]) (at_ worker served)) (fun t => t.d.tel.frozen && said t = some .ok) = true := by decide +kernel

/-! ## Interfaces (witnesses of the statement of chapter 21) -/

/-- E0 up, host interfaces on, a usable credential, and what the statement's rows need. -/
def wired (f : Dev → Dev) : Dev :=
  f { creds with shp := { creds.shp with ports := creds.shp.ports.map (fun x => { x with up := true, speed := 3 }) }, store := { creds.store with fbUnits := 4 } }
def goodEth : EthFrame := ⟨0xFFFFFFFFFFFF, 2, [], false, 0x86DD, false, 60, .other []⟩
/-- A HELLO with credential 3, and the stuffed frame that carries it. -/
def helloPdu : List Byte := [1, 0x10, 0, 0] ++ toLe 4 0 ++ toLe 4 1 ++ toLe 2 84 ++ toLe 2 0 ++ toLe 1 3 ++ List.replicate 83 5
def helloFrame : List Byte := helloPdu ++ toLe 4 (crc32c 0xFFFFFFFF helloPdu)

theorem witness_ports : hostOn (wired id) = true ∧ (port (wired id) 1).up = true ∧ frameAccepted (wired id) 1 true goodEth = true ∧ frameAccepted (wired id) 1 true { goodEth with len := 59 } = false
    ∧ frameAccepted (wired id) 1 true { goodEth with len := 1518 } = true ∧ frameAccepted (wired id) 1 true { goodEth with len := 1519 } = false ∧ frameAccepted (wired id) 1 true { goodEth with tags := [5, 6] } = false
    ∧ frameAccepted (wired id) 1 true { goodEth with dst := 0x333300000001 } = true ∧ frameAccepted (wired id) 1 true { goodEth with dst := 0x01005E000001 } = false
    ∧ poolClosed (wired id) 3 = false ∧ (queue (wired id) 7).space 7 = true ∧ (wired id).queues.length = 56
    ∧ leads (exec (.ethernetReceive 1 false goodEth) (at_ worker (wired id))) (fun t => counter t.d 0x901109 = 1) = true
    ∧ writes worker (wired id) req 0 (writeItem 0x901101 [2]) = true ∧ writes worker (wired id) req 0 (writeItem 0x901002 [0]) = true
    ∧ leads (exec (.routerAdvertisement 9 (some 77)) (at_ worker (wired id))) (fun t => t.d.ifs.router = some 9 && t.d.ifs.raPrefix = some 77) = true
    ∧ leads (exec (.neighborSolicitation 0 true 9) (at_ worker (wired (fun d => { d with ifs := { d.ifs with addr4 := 9 } })))) (fun t => t.d.out = [.arpReply 0 9]) = true
    ∧ leads (exec (.duplicateAddressDetection 9 true) (at_ worker (wired (fun d => { d with ifs := { d.ifs with tentative := [9] } })))) (fun t => t.d.ifs.tentative = [] && counter t.d 0x900809 = 1) = true
    ∧ leads (exec (.duplicateAddressDetection 9 false) (at_ worker (wired (fun d => { d with ifs := { d.ifs with tentative := [9] } })))) (fun t => t.d.ifs.global_ = some 9) = true := by decide +kernel

theorem witness_serial : qdlServed (wired id) = true ∧ frameContent helloFrame = some helloPdu ∧ frameContent [1, 2, 3, 4, 5] = none ∧ helloFrame.contains 0x7E = false ∧ helloPdu.length = 100 ∧ helloPdu.take 4 = [1, 0x10, 0, 0]
    ∧ leAt helloPdu 12 2 = 84 ∧ leAt helloPdu 16 1 = 3 ∧ credUsable (wired id) 3 = true
    ∧ leads (exec (.muartFrame (0x7E :: (helloFrame ++ [0x7E])) false true true) (at_ worker (wired id))) (fun t => t.d.qdl.handshakes.length = 2 && counter t.d 0x902003 = 1) = true
    ∧ leads (exec (.muartFrame [0x7E, 1, 2, 3, 4, 5, 0x7E] false true true) (at_ worker (wired id))) (fun t => counter t.d 0x902004 = 1) = true
    ∧ leads (exec (.muartFrame [] true true true) (at_ worker (wired (fun d => { d with ifs := { d.ifs with muartPart := some [7] } })))) (fun t => counter t.d 0x902004 = 1) = true
    ∧ leads (exec .muartIdleTimeout (at_ worker (wired (fun d => { d with ifs := { d.ifs with muartPart := some [7] } })))) (fun t => t.d.ifs.muartPart = none && decide (ms 100 ≤ t.d.clk.up)) = true
    ∧ leads (exec (.muartCtsN true) (at_ worker (wired (fun d => { d with ifs := { d.ifs with muartOut := [⟨4, .mspiLen 1⟩, ⟨4, .mspiLen 2⟩] } })))) (fun t => t.d.out = [.mspiLen 1, .mspiLen 2]) = true
    ∧ writes worker (wired id) req 0 (writeItem 0x902001 (toLe 4 9600)) = true ∧ writes worker (wired id) req 0 (writeItem 0x902001 (toLe 4 9599)) = false
    ∧ leads (exec (.mspiWrite 100 helloPdu (BitVec.ofNat 32 (crc32c 0xFFFFFFFF helloPdu)) true true) (at_ worker (wired id))) (fun t => t.d.qdl.handshakes.length = 2 && counter t.d 0x902101 = 1) = true
    ∧ leads (exec (.mspiWrite 3 [1, 2, 3] 0 true true) (at_ worker (wired id))) (fun t => counter t.d 0x902102 = 1) = true
    ∧ leads (exec (.mspiRead 9) (at_ worker (wired (fun d => { d with ifs := { d.ifs with mspiOut := [⟨4, .mspiLen 7⟩] } })))) (fun t => t.d.out = [.mspiLen 4] && t.d.ifs.mspiOut.length = 1) = true
    ∧ leads (exec (.mspiRead 10) (at_ worker (wired (fun d => { d with ifs := { d.ifs with mspiOut := [⟨4, .mspiLen 7⟩] } })))) (fun t => t.d.out = [.mspiLen 4, .mspiLen 7] && t.d.ifs.mspiOut = []) = true
    ∧ leads (exec (.mspiStatus 3) (at_ worker (wired id))) (fun t => t.d.out = [.mspiStatus 0 4096]) = true ∧ leads (exec (.mspiStatus 4) (at_ worker (wired id))) (fun t => counter t.d 0x902102 = 1) = true := by decide +kernel

theorem witness_board : writes worker (wired id) req 0 (writeItem 0x903802 (toLe 2 800)) = true ∧ writes worker (wired id) req 0 (writeItem 0x903802 (toLe 2 881)) = false ∧ voltageCode 800 600 5000 = 0x28
    ∧ writes worker (wired id) req 0 (writeItem 0x904003 [1]) = true ∧ writes worker (wired id) req 0 (writeItem 0x905703 [0]) = true
    ∧ leads (exec (.gpioOutWrite req 0 1) (at_ worker (wired (fun d => { d with nv := { d.nv with rp := [(0x904001, .num 1)] } })))) (fun t => t.d.out.contains (.gpio 0 true)) = true
    ∧ pgState (wired id) = true ∧ leads (exec .extest (at_ worker (wired id))) (fun t => t.d.ifs.extest && !t.d.pwr.meshOk) = true
    ∧ leads (exec .idcode (at_ worker (wired (fun d => { d with ifs := { d.ifs with extest := true } })))) (fun t => t.d.start.cause = 4 && !t.d.ifs.extest) = true := by decide +kernel

/-! ## Clauses that the witnesses above leave aside -/

/-- Eight sessions are open. -/
def full8 : Dev := { creds with qdl := { creds.qdl with sessions := List.replicate 8 hostSession } }
/-- Node 9 has sent a DAO with Path Sequence `q`. -/
def heldDao (q : Nat) : Dev :=
  let d := holding3 (.ip (daoPacket 2)) 5 ⟨4, 6, 100, some 3, .exc 77 9 0xFF 0 0 0 0 0⟩
  { d with nbr := { d.nbr with nodes := [{ node9 with route := { node9.route with pathKnown := true, pathSeq := q } }] } }
/-- The table is limited to the entry it holds. -/
def fullTable : Dev := { home with nv := { home.nv with rp := [(0x440003, .num 1)] } }
def staticSweep : Dev := { sweeping true true with fwd := { (sweeping true true).fwd with entries := [{ entry9 with static := true, hit := true, stale := true }] } }

theorem witness_clauses : sessionsFull full8 = true ∧ openLevel full8 .muart = some 0
    ∧ leads (exec (.hello {} 0 3 21 22) (at_ worker full8)) (fun t => t.d.qdl.handshakes.length = 1 && t.d.out = [.qdl 0 0 .busy .empty]) = true
    ∧ leads (exec (.hello {} 0 255 21 22) (at_ worker full8)) (fun t => t.d.out = [.qdl 0 0 .busy .empty]) = true
    ∧ frontDao (heldDao 242) = true ∧ lollipopNewer 241 242 = false
    ∧ leads (exec .dao (at_ worker (heldDao 242))) (fun t => t.d.nbr.nodes = (heldDao 242).nbr.nodes && t.d.fwd.entries = home.fwd.entries) = true
    ∧ leads (exec .dao (at_ worker (heldDao 240))) (fun t => (nodeOf t.d 9).map (fun n => n.route.pathSeq) = some 241) = true
    ∧ queuesOn fullTable = true ∧ tableEntry fullTable 78 = none ∧ entryLimit worker fullTable = 1
    ∧ leads (exec (.nodeInsert 78 11 7 0 4) (at_ worker fullTable)) (fun t => t.d.fwd.entries = [entry9] && counter t.d 0x440008 = 1) = true
    ∧ nextVisit staticSweep = some { entry9 with static := true, hit := true, stale := true }
    ∧ leads (exec (.sweepVisit 1) (at_ worker staticSweep)) (fun t => t.d.fwd.entries = [{ entry9 with static := true, hit := true, stale := true, swept := true }]) = true := by decide +kernel

/-- What is left at the hold-up pin is too little for a commit (R501). -/
def poor (d : Dev) : Dev :=
  { d with nv := { d.nv with rp := [(0x132001, .num 470000), (0x132002, .num 11000), (0x132003, .num 6000)], sense := [300] } }
/-- TAMPER_EN holds input 0 only, and the power-good of the mesh stands as its condition does. -/
def oneInput : Dev := { keyed [] with rw := dictPut 0x500011 (.num 1) home.rw, pwr := { home.pwr with meshOk := true } }
/-- The manager holds node 77's replicated record. -/
def seen : Dev := city (fun h => { h with districts := [{ district := 14, server := 14, dstate := 1, epoch := 3, nodes := [{ repl11 with eui := 77 }] }] })
/-- Settings at version 7; slot A's image reads versions 1 to 9. -/
def outdated (f : Dev → Dev) : Dev :=
  f (booting (fun d => { d with nv := { d.nv with version := 7 }, fw := { d.fw with slots := [{ st := 4, keyGen := 1, dict := 9, minSet := 1 }, {}] } }))
def retrying (d : Dev) : Dev := { d with start := { d.start with ready := true, migrationWait := some 64000 } }
def swung (f : Dev → Dev) : Dev :=
  f { swinging false with nv := { (swinging false).nv with version := 7 }, fw := { (swinging false).fw with slots := [{ st := 4, keyGen := 1, sec := 2 }, { st := 3, keyGen := 1, sec := 3, dict := 9, minSet := 1 }] } }

theorem witness_clauses2 : (commitNv (poor (compat 1)) 1 64 [keyPage (keySlot (poor (compat 1)) 6 14)]).2 = .holdupLow ∧ flag (poor (compat 1)) 0x50000B = true
    ∧ (keyPresent (poor (compat 1)) 6 14).isSome = true ∧ accepts (poor (compat 1)) req 0x50000C = true
    ∧ (numN oneInput 0x500011).testBit 1 = false ∧ (oneInput.pwr.meshOk = (meshCondition worker oneInput && !oneInput.ifs.extest))
    ∧ leads (exec (.tamper 1 true false) (at_ worker oneInput)) (fun t => t.d.can.asserted = 2 && t.d.can.hot = oneInput.can.hot) = true
    ∧ keyEntry (keyed []) 7 14 = some ⟨7, 14, true, true, 2, 66, 0⟩
    ∧ (districtOf seen 14).map (fun x => x.nodes.map ReplNode.eui) = some [77] ∧ holderOf seen 77 = some (14, 5000000000, 190)
    ∧ leads (exec (.sensorSample (List.replicate 8 250) 900) (at_ worker (asleep .m2 2 15))) (fun t => t.d.pwr.mode = .m2) = true := by decide +kernel

theorem witness_clauses3 : (migrate (poor (outdated id)) true).2 = .holdupLow ∧ (migrate (outdated id) false).2 = .migrationFailed
    ∧ leads (exec (.runtimeReady true) (at_ worker (poor (outdated id)))) (fun t => t.d.start.ready && t.d.start.migrationWait = some (t.d.clk.up + sec 1)) = true
    ∧ leads (exec (.runtimeReady false) (at_ worker (outdated id))) (fun t => t.d.start.cause = 4 && t.d.start.stage = .waitPg) = true
    ∧ leads (exec (.settingsMigrationRetry true) (at_ worker (poor (outdated retrying)))) (fun t => t.d.start.migrationWait = some (t.d.clk.up + sec 1) && 64000 ≤ t.d.clk.up) = true
    ∧ leads (exec (.settingsMigrationRetry false) (at_ worker (outdated retrying))) (fun t => t.d.start.cause = 4 && t.d.start.stage = .waitPg) = true
    ∧ (migrate { swung id with fw := { (swung id).fw with running := some 1 } } false).2 = .migrationFailed
    ∧ leads (exec (.hoistActivation true true) (at_ worker (swung poor))) (fun t => (fwSlot t.d 1).st = 2 && t.d.fw.running = some 0) = true
    ∧ leads (exec (.wearMove 8 false) (at_ worker { wearing with nv := { (poor wearing).nv with writes := [(10, 1000001)] } })) (fun t => physPage t.d 8 = 10 && counter t.d 0x130009 = 0) = true
    ∧ leads (exec (.ethernetReceive 1 true goodEth) (at_ worker (wired (fun d => { d with store := { d.store with fbUnits := 0 } })))) (fun t => counter t.d 0x901109 = 1 && (queue t.d 7).count = 0) = true := by decide +kernel

/-- P5 is full. -/
def full5 : Dev := { served with queues := upd served.queues (pq 5) (fun q => { q with drain := List.replicate 1024 ⟨0x10, 0, 0, none, .event 12 0 7 1 5⟩ }) {} }

theorem witness_clauses4 : qdlServed full5 = true ∧ (queue full5 (pq 5)).space (pq 5) = false ∧ counter (raise full5 127 9) 0x800007 = 1
    ∧ accepts (campaigning 0 id {}) req 0x61000F = true
    ∧ leads (exec (.campaignAssign req [7, 1, 2, 0]) (at_ manager (campaigning 0 id {}))) (fun t => replyOf t.d req = some (.ok, .exec 0x61000F 1 []) && (evRec t.d 105).lastData = 511) = true := by decide +kernel

/-! ## The frames by `touches`: in each group a command that goes on, and the part it changes -/

/-- A command meets the hypotheses of its group's frame on the served worker. -/
def framed (c : Instr) (lo hi : Nat) : Bool := lo ≤ chapterOf c && chapterOf c ≤ hi && goesOn (exec c (at_ worker served))

/-- Each group holds a command that goes on. -/
theorem frames_are_met :
    (framed (.ptpDiscard 0 0) 2 3 && framed .adriftCheck 4 7 && framed (.dropRest 3) 8 11 && framed .hlMessageDiscard 12 13 && framed (.debugHalt true) 14 21) = true := by
  decide +kernel

/-- And it changes what it may change: a halt freezes an unlocked device's timers. -/
theorem frame_of_halt_is_sharp :
    leads (exec (.debugHalt true) (at_ { worker with debugLocked := false } served)) (fun t => t.d.halted) = true := by decide +kernel

/-! ## The whole machine (witnesses of the cross-cutting statements) -/

theorem witness_sound : sound State.reset = true ∧ sound (at_ worker served) = true ∧ sound (at_ manager served) = true ∧ sound (at_ { worker with debugLocked := false } served) = false
    ∧ sound (at_ { worker with workerId := 0 } served) = false ∧ sound (at_ { worker with workerId := 159 } served) = true ∧ sound (at_ { worker with workerId := 160 } served) = false
    ∧ sound ⟨[], worker, [⟨5, 1⟩, ⟨5, 2⟩], served⟩ = false ∧ requestReady served = false ∧ served.pwr.mode ≠ .m0
    ∧ leads (step (at_ worker served)) (fun t => t.d.clk.up = 160) = true := by decide +kernel

/-! ## Ill-formed terms are refused (R610 and the tables) -/

def hl (link seq port : Nat) : HlHead := ⟨link, seq, ⟨linkKey, link, seq, 1⟩, port⟩
def ptp (domain seq source sourcePort : Nat) : PtpHead := ⟨0, 0, domain, seq, source, sourcePort⟩

theorem test_wf_fields : reqOk ⟨4294967295, 4294967295, {}⟩ = true ∧ reqOk ⟨4294967296, 0, {}⟩ = false ∧ reqOk ⟨0, 4294967296, {}⟩ = false ∧ reqOk ⟨0, 0, { ver := 256 }⟩ = false
    ∧ pduOk { via := .udp 0 false (2 ^ 128 - 1) 65535, dport := 65535 } = true ∧ pduOk { via := .udp 0 false (2 ^ 128) 0 } = false ∧ pduOk { via := .udp 0 false 0 65536 } = false ∧ pduOk { dport := 65536 } = false ∧ pduOk { dst := 2 ^ 128 } = false
    ∧ addrOk (2 ^ 128 - 1) = true ∧ addrOk (2 ^ 128) = false ∧ argOk (List.replicate 1450 0) = true ∧ argOk (List.replicate 1451 0) = false ∧ dataOk (List.replicate 1445 0) = false
    ∧ ritemsOk [⟨65535, 255, true⟩] = true ∧ ritemsOk [⟨65536, 0, true⟩] = false ∧ ritemsOk [⟨0, 256, true⟩] = false
    ∧ witemsOk [⟨0, 0, 255, []⟩] = true ∧ witemsOk [⟨65536, 0, 0, []⟩] = false ∧ witemsOk [⟨0, 256, 0, []⟩] = false ∧ witemsOk [⟨0, 0, 256, []⟩] = false
    ∧ innerOk (.other 255) = true ∧ innerOk (.other 256) = false ∧ innerOk (.read false [⟨65536, 0, false⟩]) = false ∧ innerOk (.write false [⟨0, 256, 0, []⟩]) = false ∧ innerOk (.exec 0 256 []) = false
    ∧ innerOk (.bulkRead 0 0 4294967296 0) = false ∧ innerOk (.bulkWrite 0 0 4294967296 []) = false ∧ innerOk (.subscribe 256 0 0 0 0) = false ∧ innerOk (.relay 256 (.other 0)) = false ∧ innerOk (.relay 0 (.other 256)) = false
    ∧ headOk (hl 4294967296 0 0) = false ∧ headOk (hl 0 4294967296 0) = false ∧ headOk (hl 0 0 65536) = false ∧ headOk (hl 4294967295 4294967295 65535) = true
    ∧ descOk ⟨255, 255, 2016, none, .plain⟩ = true ∧ descOk ⟨256, 0, 0, none, .plain⟩ = false ∧ descOk ⟨0, 256, 0, none, .plain⟩ = false ∧ descOk ⟨0, 0, 2017, none, .plain⟩ = false ∧ descOk ⟨0, 0, 0, some 4294967296, .plain⟩ = false
    ∧ ethOk goodEth = true ∧ ethOk { goodEth with dst := 2 ^ 48 } = false ∧ ethOk { goodEth with src := 2 ^ 48 } = false ∧ ethOk { goodEth with tags := [65536] } = false ∧ ethOk { goodEth with etherType := 65536 } = false := by decide +kernel

theorem test_wf_ptp : ptpOk (ptp 255 65535 7 65535) = true ∧ ptpOk (ptp 256 0 0 0) = false ∧ ptpOk (ptp 0 65536 0 0) = false ∧ ptpOk (ptp 0 0 (2 ^ 64) 0) = false ∧ ptpOk (ptp 0 0 0 65536) = false ∧ ptpOk { ptp 0 0 0 0 with transport := 3 } = false
    ∧ announceOk ⟨ptp 0 0 1 1, 128, 6, 0x20, 0, 128, 1, 0, 37, 1⟩ = true ∧ announceOk ⟨ptp 256 0 1 1, 128, 6, 0x20, 0, 128, 1, 0, 37, 1⟩ = false ∧ syncOk ⟨ptp 256 0 0 0, false, 0, 0⟩ = false
    ∧ announceOk ⟨ptp 0 0 1 1, 256, 6, 0x20, 0, 128, 1, 0, 37, 1⟩ = false ∧ announceOk ⟨ptp 0 0 1 1, 128, 256, 0x20, 0, 128, 1, 0, 37, 1⟩ = false ∧ announceOk ⟨ptp 0 0 1 1, 128, 6, 256, 0, 128, 1, 0, 37, 1⟩ = false
    ∧ announceOk ⟨ptp 0 0 1 1, 128, 6, 0x20, 65536, 128, 1, 0, 37, 1⟩ = false ∧ announceOk ⟨ptp 0 0 1 1, 128, 6, 0x20, 0, 256, 1, 0, 37, 1⟩ = false
    ∧ announceOk ⟨ptp 0 0 1 1, 128, 6, 0x20, 0, 128, 2 ^ 64, 0, 37, 1⟩ = false ∧ announceOk ⟨ptp 0 0 1 1, 128, 6, 0x20, 0, 128, 1, 65536, 37, 1⟩ = false := by decide +kernel

theorem test_wf_commands : Instr.wf (.hello {} 4294967295 255 0 0) = true ∧ Instr.wf (.hello {} 4294967296 3 0 0) = false ∧ Instr.wf (.hello {} 0 256 0 0) = false ∧ Instr.wf (.hello {} 0 3 (2 ^ 128) 0) = false ∧ Instr.wf (.hello {} 0 3 0 (2 ^ 512)) = false ∧ Instr.wf (.notify 0 256) = false
    ∧ Instr.wf (.entryWrite req false [⟨0, 0, 256, []⟩]) = false ∧ Instr.wf (.bulkWrite req 0 256 0 []) = false ∧ Instr.wf (.subscribe req 0 256 0 0 0) = false ∧ Instr.wf (.relay req 256 (.other 0)) = false
    ∧ Instr.wf (.windowOpen .sf 256 0) = false ∧ Instr.wf (.windowClose .sf 0 256) = false ∧ Instr.wf (.followUp (ptp 256 0 0 0) 0 0) = false ∧ Instr.wf (.keyMsg (hl 0 0 0) (List.replicate 240 0) fine) = true
    ∧ Instr.wf (.keyMsg (hl 0 0 0) (List.replicate 239 0) fine) = false ∧ Instr.wf (.nodeInsert (2 ^ 64) 0 0 0 0) = false ∧ Instr.wf (.nodeInsert 0 65536 0 0 0) = false ∧ Instr.wf (.fwHoist req [] 256) = false
    ∧ Instr.wf (.mspiWrite 65536 [] 0 true true) = false ∧ Instr.wf (.queuePush 0 ⟨256, 0, 0, none, .plain⟩ false) = false ∧ Instr.wf (.heartbeat (hl 0 0 0) 0 65536 false false 0 0 0 0) = false
    ∧ Instr.wf (.routerAdvertisement (2 ^ 128) none) = false ∧ Instr.wf (.routerAdvertisement 0 (some (2 ^ 128))) = false ∧ Instr.wf (.reset req (List.replicate 1451 0)) = false ∧ Instr.wf (.reset ⟨2 ^ 32, 0, {}⟩ []) = false ∧ Instr.wf .refLost = true := by decide +kernel

/-! ## A few single steps -/

theorem test_decode_none : decodeTableWord 16 0x1234 = none := rfl

theorem test_memory : memWrite 5 [1, 0, 3] [(6, 9)] = [(5, 1), (7, 3)] ∧ memGet 6 (memWrite 5 [1, 0, 3] [(6, 9)]) = 0 ∧ memRead [(5, 1), (7, 3)] 4 4 = [0, 1, 0, 3] := by decide

theorem test_crc : crc32c 0xFFFFFFFF [0x31, 0x32, 0x33, 0x34, 0x35, 0x36, 0x37, 0x38, 0x39] = 0xE3069283 := by decide +kernel

theorem test_sha256 : leNat (sha256 [0x61, 0x62, 0x63]).reverse = 0xBA7816BF8F01CFEA414140DE5DAE2223B00361A396177A9CB410FF61F20015AD := by decide +kernel

/-! ## The balls: the counts of R587, and its worked example -/

def ballGrid : List (Nat × Nat) := (upTo 22).flatMap (fun r => (upTo 22).map (fun c => (r + 1, c + 1)))

theorem test_balls : [Supply.vcore, .vdd2, .vddq, .v1p8a, .vserdes, .vioA, .vioB, .vaon, .vss].map (fun x => (ballGrid.filter (fun b => decide (supplyAt b.1 b.2 = some x))).length)
      = [72, 12, 10, 14, 8, 6, 6, 4, 258]
    ∧ (ballRows.flatMap BallRow.at_).length = 86 ∧ (ballRows.flatMap BallRow.at_).eraseDups.length = 86 ∧ (ballGrid.filter (fun b => reservedBall b.1 b.2)).length = 8
    ∧ supplyAt 12 9 = some .vss ∧ supplyAt 13 9 = some .vcore ∧ (ballRow "GPIO8").map (fun r => r.at_[8]?) = some (some (20, 17)) := by decide +kernel

end Evaluated

end Sys2Proof.Tests
end

section
/-!
SUPPORT. The receive lanes (R121-R158): what a lane operation leaves in the lane it names, in the other lanes and in the counters, each row's
step as an equation under its conditions, and the statement that the rows make up.
-/
namespace Sys2Proof.ReceiveLanes

open Machine

/-! ## Lanes read after an update -/

theorem lane_congr {d e : Dev} (h : e.lanes = d.lanes) (k : Nat) : lane e k = lane d k := by unfold lane; rw [h]

@[simp] theorem lane_updLane (d : Dev) (n : Nat) (f : Lane → Lane) : lane (updLane d n f) n = f (lane d n) := nth_upd_self _ _ _ _

theorem lane_updLane_ne {n k : Nat} (h : k ≠ n) (d : Dev) (f : Lane → Lane) : lane (updLane d n f) k = lane d k :=
  nth_upd_ne _ _ _ _ _ (Ne.symm h)

@[simp] theorem lane_count (d : Dev) (c k : Nat) : lane (count d c) k = lane d k := rfl

@[simp] theorem lane_raise (d : Dev) (e x k : Nat) : lane (raise d e x) k = lane d k := lane_congr (raise_lanes d e x) k

@[simp] theorem lane_raiseRate (d : Dev) (e i m p : Nat) (f : Nat → Nat) (k : Nat) : lane (raiseRate d e i m p f) k = lane d k :=
  lane_congr (raiseRate_lanes d e i m p f) k

@[simp] theorem lane_reach (d : Dev) (t k : Nat) : lane (reach d t) k = lane d k := lane_congr (reach_lanes d t) k

@[simp] theorem lane_errBy (d : Dev) (a b c g : Nat) (h i : Option Nat) (j l m k : Nat) : lane (errBy d a b c g h i j l m) k = lane d k :=
  lane_congr (errBy_lanes d a b c g h i j l m) k

@[simp] theorem lane_respond (d : Dev) (i q : Nat) (v : Transport) (st : Status) (b : Body) (k : Nat) : lane (respond d i q v st b) k = lane d k :=
  lane_congr (respond_lanes d i q v st b) k

theorem lanes_ite {c : Prop} [Decidable c] {a b : Dev} {l : List Lane} (h : a.lanes = l) (g : b.lanes = l) : (if c then a else b).lanes = l := by
  split <;> assumption

/-! ## The store and the queues leave the lanes alone (R10-R15, R240-R242) -/

@[simp] theorem dropBuf_lanes (d : Dev) (b : Option Nat) : (dropBuf d b).lanes = d.lanes := by
  cases b with
  | none => rfl
  | some g =>
    change (dropRef d g).lanes = d.lanes
    unfold dropRef retire
    repeat' split
    all_goals simp

@[simp] theorem alloc_lanes (d : Dev) (u l : Nat) (x : Payload) : (alloc d u l x).1.lanes = d.lanes := by
  unfold alloc
  repeat' split
  all_goals simp

@[simp] theorem push_lanes (d : Dev) (q : Nat) (p : Desc) : (push d q p).1.lanes = d.lanes := push'_lanes d q p

@[simp] theorem produce_lanes (d : Dev) (q : Nat) (p : Desc) : (produce d q p).1.lanes = d.lanes := by
  unfold produce owePush
  repeat' (first | split | dsimp only)
  all_goals simp

/-! ## Counters that neither the store nor the events count -/

theorem counter_congr {d e : Dev} (h : e.cnt = d.cnt) (k : Nat) : counter e k = counter d k := by unfold counter; rw [h]

theorem counter_count_congr {d e : Dev} {k : Nat} (h : counter e k = counter d k) (c : Nat) : counter (count e c) k = counter (count d c) k := by
  by_cases hc : k = c
  · rw [hc] at h ⊢; rw [counter_count, counter_count, h]
  · rw [counter_count_ne _ _ _ hc, counter_count_ne _ _ _ hc, h]

theorem counter_ite {c : Prop} [Decidable c] {a b d : Dev} {k : Nat} (h : counter a k = counter d k) (g : counter b k = counter d k) :
    counter (if c then a else b) k = counter d k := by split <;> assumption

@[simp] theorem push_cnt (d : Dev) (q : Nat) (p : Desc) : (push d q p).1.cnt = d.cnt := by
  unfold push gateCores
  repeat' split
  all_goals simp [refuse]

section
variable {k : Nat} (hk : k ≠ 0x800007) (hh : k ≠ 0x800008)
include hk hh

theorem counter_raiseRate (d : Dev) (e i m p : Nat) (f : Nat → Nat) : counter (raiseRate d e i m p f) k = counter d k := by
  unfold raiseRate
  exact counter_ite (counter_raise _ _ _ _ hk hh) rfl

theorem counter_dropBuf (d : Dev) (b : Option Nat) : counter (dropBuf d b) k = counter d k := by
  cases b with
  | none => rfl
  | some g =>
    change counter (dropRef d g) k = counter d k
    unfold dropRef retire
    repeat' split
    all_goals first | rfl | exact counter_raise _ _ _ _ hk hh

theorem counter_alloc (ha : k ≠ 0x40000A) (d : Dev) (u l : Nat) (x : Payload) : counter (alloc d u l x).1 k = counter d k := by
  unfold alloc
  repeat' split
  all_goals first | rfl | rw [counter_raiseRate hk hh, counter_count_ne _ _ _ ha]

/-- A lane's queue, Q0 or Q1, is no port's: what a push to it counts is nothing but a refusal (R15). -/
theorem counter_produce {q : Nat} (hq : q < 8) (d : Dev) (p : Desc) : counter (produce d q p).1 k = counter d k := by
  have h8 : ¬ 8 ≤ q := by omega
  have hp : counter (push d q p).1 k = counter d k := counter_congr (push_cnt d q p) k
  unfold produce
  simp only [h8, decide_false, Bool.false_and, Bool.false_eq_true, if_false]
  repeat' split
  all_goals first | exact hp | rw [counter_dropBuf hk hh, hp]

end

/-! ## A lane returns to rest (R133, R611) -/

/-- What rest leaves of a lane: no preamble and no frame, the episode and the last frame's quality as they were, the lane off, idle or searching. -/
structure Rested (l r : Lane) : Prop where
  lock : r.lock = none
  frame : r.frame = none
  nest : r.nest = l.nest
  lastRssi : r.lastRssi = l.lastRssi
  lastLqi : r.lastLqi = l.lastLqi
  state : r.state = .off ∨ r.state = .idle ∨ r.state = .search

theorem takeNext_rested {l m : Lane} (h : Rested l m) (d : Dev) (n : Nat) : Rested l (takeNext d n m) := by
  unfold takeNext
  split
  · exact h
  · exact { h with state := by dsimp only; split <;> simp }
  · exact { h with state := .inr (.inl rfl) }

theorem restOf_rested (d : Dev) (n : Nat) (l : Lane) : Rested l (restOf d n l) := by
  have h : Rested l { l with lock := none, other := none, frame := none, state := .idle } := ⟨rfl, rfl, rfl, rfl, rfl, .inr (.inl rfl)⟩
  have hm := takeNext_rested h d n
  unfold restOf
  dsimp only
  split
  · exact { hm with state := .inr (.inr rfl) }
  · exact hm

theorem laneRest_rested (d : Dev) (n : Nat) : Rested (lane d n) (lane (laneRest d n) n) := by
  unfold laneRest
  rw [lane_updLane]
  exact restOf_rested d n (lane d n)

@[simp] theorem counter_laneRest (d : Dev) (n k : Nat) : counter (laneRest d n) k = counter d k := rfl

/-! ## Acquisition (R134, R136) -/

theorem preambleAcquired_locks {d : Dev} {n zeros : Nat} {g : Signal} {x : Binding} (hs : (lane d n).state = .search) (hb : (lane d n).bind = some x)
    (ha : acquirable d n zeros x false g = true) : preambleAcquired n zeros g d = lockLane d n g false := by
  simp [preambleAcquired, hs, hb, ha]

theorem handOver_locks {d : Dev} {n zeros : Nat} {g : Signal} {x : Binding} (hs : (lane d n).state = .search) (hb : (lane d n).bind = some x)
    (ha : acquirable d n zeros x true g = true) : handOver n zeros g d = count (lockLane d n g true) (corrKey n 2) := by
  simp [handOver, hs, hb, ha]

@[simp] theorem lane_lockLane (d : Dev) (n : Nat) (g : Signal) (handed : Bool) :
    lane (lockLane d n g handed) n = { lane d n with state := .preamble, lock := some (g.level, handed, d.clk.up), other := none } :=
  lane_updLane _ _ _

@[simp] theorem counter_lockLane (d : Dev) (n : Nat) (g : Signal) (handed : Bool) (k : Nat) :
    counter (lockLane d n g handed) k = counter d k := rfl

/-! ## The frame a lane takes at its SFD (R133, R142) -/

/-- The frame that `takeFrame` gives the lane. -/
def framed (d : Dev) (n : Nat) (x : Binding) (g : Signal) (t : Int) (handed captured : Bool) : LaneFrame :=
  { sfdTime := t, rssi := g.level, cfo := g.cfo, buf := (alloc d 1 0 (.bytes [])).2, len := 0, long := false, gain := (band d (laneBand n)).gain
    handed := handed, captured := captured, gainStep := false, bind := x }

@[simp] theorem lane_takeFrame (d : Dev) (n : Nat) (x : Binding) (g : Signal) (t : Int) (handed captured : Bool) :
    lane (takeFrame d n x g t handed captured) n =
      { lane d n with state := .header, lock := none, other := none, frame := some (framed d n x g t handed captured) } := by
  unfold takeFrame
  dsimp only
  rw [lane_updLane, lane_congr (alloc_lanes d 1 0 (.bytes []))]
  rfl

theorem counter_takeFrame {k : Nat} (hk : k ≠ 0x800007) (hh : k ≠ 0x800008) (ha : k ≠ 0x40000A) (d : Dev) (n : Nat) (x : Binding) (g : Signal) (t : Int)
    (handed captured : Bool) : counter (takeFrame d n x g t handed captured) k = counter d k :=
  (counter_congr (d := (alloc d 1 0 (.bytes [])).1) rfl k).trans (counter_alloc hk hh ha d 1 0 (.bytes []))

@[simp] theorem lane_rehomeTo (d : Dev) (n : Nat) (x : Binding) (g : Signal) (t : Int) :
    lane (rehomeTo d n x g t) n = { lane d n with state := .header, lock := none, other := none, frame := some (framed d n x g t true false) } :=
  lane_takeFrame _ _ _ _ _ _ _

/-! ## Rehoming (R137) -/

section
variable {d : Dev} {n : Nat} {g : Signal} {x : Binding} (hb : (lane d n).bind = some x) (hc : g.cfo.natAbs ≤ 6200)
include hb hc

theorem rehome_stronger_peak {lv : Int} {h : Bool} {u : Nat} (hs : (lane d n).state = .preamble) (hl : (lane d n).lock = some (lv, h, u))
    (hg : lv + rehomeBy d n ≤ g.level) : rehome n g false d = count (lockLane d n g true) (laneKey n 0x0C) := by
  simp [rehome, hb, hs, hl, hg, Nat.not_lt.mpr hc]

theorem rehome_holds_sfd {lv : Int} {h : Bool} {u : Nat} (hs : (lane d n).state = .preamble) (hl : (lane d n).lock = some (lv, h, u)) :
    rehome n g true d = updLane d n (fun y => { y with other := some (stampNs d, g) }) := by
  simp [rehome, hb, hs, hl, Nat.not_lt.mpr hc]

theorem rehome_stronger_frame {f : LaneFrame} (hs : (lane d n).state = .header ∨ (lane d n).state = .payload) (hf : (lane d n).frame = some f)
    (hw : withinSymbol n x (stampNs d) f.sfdTime = true) (hg : f.rssi + rehomeBy d n ≤ g.level) :
    rehome n g true d = rehomeTo (dropBuf (count d (corrKey n 3)) f.buf) n f.bind g (stampNs d) := by
  have hr : rehomeFrame (count d (corrKey n 3)) n f g = rehomeTo (dropBuf (count d (corrKey n 3)) f.buf) n f.bind g (stampNs d) := by
    unfold rehomeFrame
    exact if_pos hg
  obtain hs | hs := hs <;> simp [rehome, hb, hs, hf, hw, hr, Nat.not_lt.mpr hc]

end

/-! ## The SFD (R133, R137) -/

section
variable {d : Dev} {n : Nat} {x : Binding} {lv : Int} {h : Bool} {u : Nat} (hs : (lane d n).state = .preamble) (hb : (lane d n).bind = some x)
  (hl : (lane d n).lock = some (lv, h, u)) (g : Signal)
include hs hb hl

theorem sfdFound_own (ho : ∀ v o, (lane d n).other = some (v, o) → ¬ (withinSymbol n x (stampNs d) v = true ∧ g.level + rehomeBy d n ≤ o.level)) :
    sfdFound n g d = takeFrame d n x g (stampNs d) h false := by
  cases hv : (lane d n).other with
  | none => simp [sfdFound, hs, hb, hl, hv]
  | some p =>
    have hno : (withinSymbol n x (stampNs d) p.1 && decide (g.level + rehomeBy d n ≤ p.2.level)) = false := by
      rw [Bool.eq_false_iff, ne_eq, Bool.and_eq_true, decide_eq_true_eq]
      exact ho p.1 p.2 hv
    simp only [sfdFound, hs, hb, hl, hv, hno, Bool.false_eq_true, if_false]

theorem sfdFound_correlator {v : Int} {o : Signal} (ho : (lane d n).other = some (v, o)) (hw : withinSymbol n x (stampNs d) v = true)
    (hg : g.level + rehomeBy d n ≤ o.level) : sfdFound n g d = rehomeTo d n x o v := by
  simp [sfdFound, hs, hb, hl, ho, hw, hg]

end

/-! ## The preamble timeout and the PHR (R129, R130, R140, R141) -/

theorem counter_falsePreamble (d : Dev) (n : Nat) :
    counter (falsePreamble d n) (laneKey n 0x0B) = satAdd (counter d (laneKey n 0x0B)) 1 := by
  rw [← counter_count]
  unfold falsePreamble
  refine counter_ite (counter_raiseRate ?_ ?_ _ _ _ _ _ _) rfl <;> (unfold laneKey; omega)

theorem falsePreamble_clk (d : Dev) (n : Nat) : (falsePreamble d n).clk = d.clk := by
  unfold falsePreamble
  dsimp only
  split
  · exact (raiseRate_only _ _ _ _ _ _).clk
  · rfl

section
variable {d : Dev} {n : Nat} {x : Binding} {lv : Int} {h : Bool} {u : Nat} (hs : (lane d n).state = .preamble)
  (hb : (lane d n).bind = some x) (hl : (lane d n).lock = some (lv, h, u))
include hs hb hl

theorem preambleTimeout_rests : preambleTimeout n d =
    laneRest (falsePreamble (reach d (u + ns (slotN d (bandLaneKey (laneBand n) 3) * symNs (laneBand n) x.spread))) n) n := by
  simp [preambleTimeout, hs, hb, hl]

theorem preambleTimeout_gives_up :
    (lane (preambleTimeout n d) n).lock = none ∧ (lane (preambleTimeout n d) n).state ≠ .preamble ∧
      counter (preambleTimeout n d) (laneKey n 0x0B) = satAdd (counter d (laneKey n 0x0B)) 1 ∧
      u + ns (slotN d (bandLaneKey (laneBand n) 3) * symNs (laneBand n) x.spread) ≤ (preambleTimeout n d).clk.up := by
  rw [preambleTimeout_rests hs hb hl]
  generalize u + ns (slotN d (bandLaneKey (laneBand n) 3) * symNs (laneBand n) x.spread) = t
  have hr := laneRest_rested (falsePreamble (reach d t) n) n
  have hcnt := counter_falsePreamble (reach d t) n
  rw [counter_congr (reach_cnt d t)] at hcnt
  have hup : t ≤ (falsePreamble (reach d t) n).clk.up := by rw [falsePreamble_clk]; exact (reach_up d t).1
  exact ⟨hr.lock, by obtain h | h | h := hr.state <;> simp [h], hcnt, hup⟩

end

theorem phrReceived_valid {d : Dev} {n : Nat} {b0 b1 : Byte} {f : LaneFrame} (hs : (lane d n).state = .header) (hf : (lane d n).frame = some f)
    (hv : (f.buf.isSome && phrValid d (laneBand n) b0 b1) = true) :
    phrReceived n b0 b1 d =
      updLane d n (fun l => { l with state := .payload, frame := some { f with len := (phrLength b0 b1).1, long := (phrLength b0 b1).2 } }) := by
  obtain ⟨hbuf, hp⟩ := Bool.and_eq_true_iff.mp hv
  simp [phrReceived, hs, hf, Option.isSome_iff_ne_none.mp hbuf, hp]

theorem phrReceived_ends {d : Dev} {n : Nat} {b0 b1 : Byte} {f : LaneFrame} (hs : (lane d n).state = .header) (hf : (lane d n).frame = some f)
    (hv : ¬ (f.buf.isSome && phrValid d (laneBand n) b0 b1) = true) : ∃ e, phrReceived n b0 b1 d = laneRest e n := by
  unfold phrReceived
  simp only [hs, hf]
  by_cases hbuf : f.buf.isNone = true
  · rw [if_pos hbuf]
    exact ⟨_, rfl⟩
  · have hbuf' : f.buf.isSome = true := Option.isSome_iff_ne_none.mpr fun h => hbuf (by rw [h]; rfl)
    have hp : phrValid d (laneBand n) b0 b1 = false := Bool.eq_false_iff.mpr fun h => hv (Bool.and_eq_true_iff.mpr ⟨hbuf', h⟩)
    rw [if_neg hbuf, hp]
    exact ⟨_, rfl⟩

/-! ## The descriptor of a frame (R142, R143, R150) -/

/-- A lane whose frame has left for its descriptor. -/
def committed (f : LaneFrame) (lqi : Nat) (cfo : Int) (l : Lane) : Lane :=
  { l with frame := none, lastRssi := rssiStep f.rssi, lastLqi := lqi, lastCfo := clampInt (-6200) 6200 cfo }

theorem commitRx_lanes (d : Dev) (n st : Nat) (f : LaneFrame) (a b k c : Bool) (q : Nat) (x : Int) :
    (commitRx d n st f a b k c q x).lanes = (updLane d n (committed f q x)).lanes := by
  have hk (e : Dev) (he : e.lanes = (updLane d n (committed f q x)).lanes) :
      (if k = true then e else dropBuf e f.buf).lanes = (updLane d n (committed f q x)).lanes :=
    lanes_ite he ((dropBuf_lanes _ _).trans he)
  unfold commitRx
  refine lanes_ite ?_ ((raiseRate_lanes _ _ _ _ _ _).trans ?_) <;> exact (produce_lanes _ _ _).trans (lanes_ite (hk _ rfl) (hk _ rfl))

theorem clipRx_lanes (d : Dev) (b : Band) (c : Nat) : (clipRx d b c).lanes = d.lanes := by
  unfold clipRx; simp

/-- The counter of a lane's frames that end with RXSTAT `st` (R156). -/
def rxstatKey (n st : Nat) : Nat := laneKey n (if st = 0 then 5 else if st = 1 then 6 else if st = 2 then 7 else if st ≤ 6 then 8 else 0xFF)

theorem bandNum_lt (b : Band) : bandNum b < 8 := by cases b <;> decide

theorem lane_abortRx_ne {n k : Nat} (h : k ≠ n) (d : Dev) (st : Nat) (f : LaneFrame) : lane (abortRx d n st f) k = lane d k := by
  unfold abortRx
  dsimp only
  split <;> simp only [lane_congr (clipRx_lanes _ _ _), lane_congr (commitRx_lanes _ _ _ _ _ _ _ _ _ _), lane_updLane_ne h] <;> rfl

section
variable {k : Nat} (hk : k ≠ 0x800007) (hh : k ≠ 0x800008)
include hk hh

/-- A descriptor counts its frame by RXSTAT (R156); beside it only the events count, what they lose. -/
theorem counter_commitRx {st : Nat} (h7 : st ≠ 7) (d : Dev) (n : Nat) (f : LaneFrame) (a b p c : Bool) (q : Nat) (x : Int) :
    counter (commitRx d n st f a b p c q x) k = counter (count d (rxstatKey n st)) k := by
  unfold commitRx
  simp only [h7, if_false]
  refine counter_ite (d := count d (rxstatKey n st)) ?_ ((counter_raiseRate hk hh _ _ _ _ _ _).trans ?_) <;>
    exact (counter_produce hk hh (bandNum_lt _) _ _).trans (counter_count_congr (counter_ite rfl (counter_dropBuf hk hh _ _)) _)

theorem counter_clipRx (b : Band) (hc : k ≠ bandLaneKey b 0x0D) (d : Dev) (ch : Nat) : counter (clipRx d b ch) k = counter d k := by
  unfold clipRx
  rw [counter_raiseRate hk hh, counter_count_ne _ _ _ hc]

theorem counter_abortRx {n st : Nat} (h7 : st ≠ 7) (hc : k ≠ bandLaneKey (laneBand n) 0x0D) (hr : k ≠ rxstatKey n st) (d : Dev) (f : LaneFrame) :
    counter (abortRx d n st f) k = counter d k := by
  have hm (a c : Bool) (q : Nat) (x : Int) : counter (commitRx (drawn d) n st f a false false c q x) k = counter d k := by
    rw [counter_commitRx hk hh h7, counter_count_ne _ _ _ hr]
    rfl
  unfold abortRx
  refine counter_ite ((counter_clipRx hk hh _ hc _ _).trans ?_) ?_ <;> exact hm _ _ _ _

end

/-! ## Capture (R136, R138, R139) -/

section
variable {d : Dev} {n : Nat} {g : Signal} {f : LaneFrame} {psdu : List Byte}
  (hs : (lane d n).state = .header ∨ (lane d n).state = .payload) (hf : (lane d n).frame = some f) (hc : g.cfo.natAbs ≤ 6200)
  (hw : withinSymbol n f.bind (stampNs d) f.sfdTime = false)
include hs hf hc hw

theorem captureFrame_counted : captureFrame n g psdu d =
    if g.level < f.rssi + slotNum d (bandLaneKey (laneBand n) 1) then count d (corrKey n 3)
    else if keepsFrame d n f psdu then count (count d (corrKey n 3)) (laneKey n 0x0A)
    else takeFrame (count (abortRx (count d (corrKey n 3)) n 3 f) (laneKey n 9)) n f.bind g (stampNs d) false true := by
  obtain hs | hs := hs <;> simp [captureFrame, hs, hf, hw, Nat.not_lt.mpr hc]

theorem counter_captureFrame :
    counter (captureFrame n g psdu d) (corrKey n 3) = satAdd (counter d (corrKey n 3)) 1 := by
  have key (a : Nat) (ha : a % 256 ≠ 3) : corrKey n 3 ≠ a := by unfold corrKey; omega
  have hband : corrKey n 3 ≠ bandLaneKey (laneBand n) 0x0D := key _ (by unfold bandLaneKey; omega)
  rw [captureFrame_counted hs hf hc hw, ← counter_count]
  refine counter_ite rfl (counter_ite (counter_count_ne _ _ _ (key _ (by unfold laneKey; omega))) ?_)
  rw [counter_takeFrame (key _ (by decide)) (key _ (by decide)) (key _ (by decide)),
    counter_count_ne _ _ _ (key _ (by unfold laneKey; omega)),
    counter_abortRx (key _ (by decide)) (key _ (by decide)) (by decide) hband (key _ (by simp [rxstatKey, laneKey]))]

theorem captureFrame_keeps (hk : g.level < f.rssi + slotNum d (bandLaneKey (laneBand n) 1) ∨ keepsFrame d n f psdu = true) :
    lane (captureFrame n g psdu d) n = lane d n := by
  rw [captureFrame_counted hs hf hc hw]
  obtain hk | hk := hk
  · rw [if_pos hk]; rfl
  · rw [if_pos hk]; split <;> rfl

theorem captureFrame_takes (hg : f.rssi + slotNum d (bandLaneKey (laneBand n) 1) ≤ g.level) (hk : keepsFrame d n f psdu = false) :
    ∃ e, captureFrame n g psdu d = takeFrame e n f.bind g (stampNs d) false true := by
  rw [captureFrame_counted hs hf hc hw, if_neg (Int.not_lt.mpr hg), hk]
  exact ⟨_, rfl⟩

end

/-! ## The last chip (R142, R146) -/

section
variable {d : Dev} {n : Nat} {f : LaneFrame} (hs : (lane d n).state = .payload) (hf : (lane d n).frame = some f)
  (m : MacFrame) (good clipped : Bool) (evm : Nat) (cfo : Int)
include hs hf

/-- The last chip's device before the lane rests: the frame committed from a store that holds its octets, the clipping counted. -/
theorem lastChip_commits :
    ∃ e a k, e.lanes = d.lanes ∧ e.cnt = d.cnt ∧ lastChip n m good evm cfo clipped d =
      laneRest (if clipped then clipRx (commitRx e n (if good then 0 else 1) f a good k clipped (lqiOf evm) cfo) (laneBand n) f.bind.channel
        else commitRx e n (if good then 0 else 1) f a good k clipped (lqiOf evm) cfo) n := by
  unfold lastChip
  simp only [hs, hf]
  cases f.buf with
  | none => exact ⟨d, _, _, rfl, rfl, rfl⟩
  | some b => exact ⟨updGranule d b _, _, _, rfl, rfl, rfl⟩

theorem lane_lastChip :
    Rested (committed f (lqiOf evm) cfo (lane d n)) (lane (lastChip n m good evm cfo clipped d) n) := by
  obtain ⟨e, a, k, hl, -, heq⟩ := lastChip_commits hs hf m good clipped evm cfo
  have hcom : (commitRx e n (if good then 0 else 1) f a good k clipped (lqiOf evm) cfo).lanes = (updLane d n (committed f (lqiOf evm) cfo)).lanes := by
    rw [commitRx_lanes]; unfold updLane; rw [hl]
  rw [heq, ← lane_updLane d n (committed f (lqiOf evm) cfo),
    ← lane_congr (lanes_ite (c := clipped = true) ((clipRx_lanes _ (laneBand n) f.bind.channel).trans hcom) hcom) n]
  exact laneRest_rested _ n

theorem counter_lastChip :
    counter (lastChip n m good evm cfo clipped d) (laneKey n (if good then 5 else 6)) =
      satAdd (counter d (laneKey n (if good then 5 else 6))) 1 := by
  obtain ⟨e, a, k, -, hcnt, heq⟩ := lastChip_commits hs hf m good clipped evm cfo
  have hkey : rxstatKey n (if good then 0 else 1) = laneKey n (if good then 5 else 6) := by cases good <;> rfl
  have key (b : Nat) (hb : b % 256 ≠ 5) (hb' : b % 256 ≠ 6) : laneKey n (if good then 5 else 6) ≠ b := by
    unfold laneKey; cases good <;> simp <;> omega
  have h7 : (if good then 0 else 1) ≠ 7 := by cases good <;> decide
  have hcom : counter (commitRx e n (if good then 0 else 1) f a good k clipped (lqiOf evm) cfo) (laneKey n (if good then 5 else 6)) =
      satAdd (counter d (laneKey n (if good then 5 else 6))) 1 := by
    rw [counter_commitRx (key _ (by decide) (by decide)) (key _ (by decide) (by decide)) h7, hkey, counter_count, counter_congr hcnt]
  have hclip : laneKey n (if good then 5 else 6) ≠ bandLaneKey (laneBand n) 0x0D := key _ (by unfold bandLaneKey; omega) (by unfold bandLaneKey; omega)
  rw [heq, counter_laneRest]
  split
  · rw [counter_clipRx (key _ (by decide) (by decide)) (key _ (by decide) (by decide)) _ hclip, hcom]
  · exact hcom

end

/-! ## A lane's faults, its recovery and its restoration (R147-R149, R155, R549) -/

/-- A lane that has taken a fault, the `k`th of its episode. -/
def faulted (k code : Nat) (l : Lane) : Lane :=
  { l with state := .recover, lock := none, other := none, frame := none, nest := k, lastCode := code }

section
variable {d : Dev} {n : Nat} {hang : Bool} (hp : (lane d n).powered = true) (hn : (lane d n).nest < 3)
  (hh : hang = true → (lane d n).state = .header ∨ (lane d n).state = .payload)
include hp hn hh

theorem laneFault_raises : ∃ e code, (∀ k, k ≠ n → lane e k = lane d k) ∧
      laneFault n hang d = raise (updLane e n (faulted ((lane d n).nest + 1) code)) 32 (n * 256 + ((lane d n).nest + 1)) := by
  have hc : (!(lane d n).powered || decide (3 ≤ (lane d n).nest) || (hang && (lane d n).state ≠ .header && (lane d n).state ≠ .payload)) = false := by
    have h3 : ¬ 3 ≤ (lane d n).nest := Nat.not_le.mpr hn
    cases hang with
    | false => simp [hp, h3]
    | true => obtain h | h := hh rfl <;> simp [hp, h3, h]
  unfold laneFault
  simp only [hc, Bool.false_eq_true, if_false]
  refine ⟨_, _, fun k hk => ?_, rfl⟩
  rw [lane_errBy, lane_count, lane_count]
  cases (lane d n).frame with
  | none => rfl
  | some f => exact lane_abortRx_ne hk d 6 f

theorem laneFault_recovers :
    (lane (laneFault n hang d) n).state = .recover ∧ (lane (laneFault n hang d) n).frame = none ∧
      (lane (laneFault n hang d) n).nest = (lane d n).nest + 1 ∧ raised (laneFault n hang d) 32 (n * 256 + (lane d n).nest + 1) ∧
      ∀ k, k ≠ n → lane (laneFault n hang d) k = lane d k := by
  obtain ⟨e, code, hk, he⟩ := laneFault_raises hp hn hh
  rw [he, Nat.add_assoc, lane_raise, lane_updLane]
  exact ⟨rfl, rfl, rfl, raised_raise _ _ _, fun k hkn => by rw [lane_raise, lane_updLane_ne hkn, hk k hkn]⟩

end

theorem laneRecovered_quarantines {d : Dev} {n : Nat} (hs : (lane d n).state = .recover) (hn : 3 ≤ (lane d n).nest) :
    lane (laneRecovered n d) n = { lane d n with state := .quarantined, nest := 0, bind := none, next := none } ∧ raised (laneRecovered n d) 33 n := by
  unfold laneRecovered
  simp only [hs, ne_eq, not_true, if_false, hn, if_true]
  exact ⟨by simp, raised_raise_ne (by decide) (raised_raise _ _ _)⟩

/-- Blanking a lane at rest leaves its episode alone, and puts it neither in RECOVER nor in QUARANTINED. -/
theorem lane_blankLane {l : Lane} {st n : Nat} {d : Dev} (h : Rested l (lane d n)) :
    (lane (blankLane st d n) n).nest = l.nest ∧ (lane (blankLane st d n) n).state ≠ .recover ∧ (lane (blankLane st d n) n).state ≠ .quarantined := by
  unfold blankLane
  obtain hs | hs | hs := h.state <;> simp [hs, h.frame, h.nest]

theorem laneRecovered_rests {d : Dev} {n : Nat} (hs : (lane d n).state = .recover) (hn : ¬ 3 ≤ (lane d n).nest) :
    (lane (laneRecovered n d) n).nest = 0 ∧ (lane (laneRecovered n d) n).state ≠ .recover ∧ (lane (laneRecovered n d) n).state ≠ .quarantined := by
  have hr := laneRest_rested (updLane d n (fun x => { x with nest := 0 })) n
  rw [lane_updLane] at hr
  unfold laneRecovered
  simp only [hs, ne_eq, not_true, if_false, hn]
  split
  · exact lane_blankLane hr
  · obtain h | h | h := hr.state <;> simp [h, hr.nest]

theorem laneRecovered_ends {d : Dev} {n : Nat} (hs : (lane d n).state = .recover) :
    (lane (laneRecovered n d) n).nest = 0 ∧
      if 3 ≤ (lane d n).nest then
        (lane (laneRecovered n d) n).state = .quarantined ∧ (lane (laneRecovered n d) n).bind = none ∧ raised (laneRecovered n d) 33 n
      else (lane (laneRecovered n d) n).state ≠ .recover ∧ (lane (laneRecovered n d) n).state ≠ .quarantined := by
  split
  · next hn =>
    obtain ⟨hl, hr⟩ := laneRecovered_quarantines hs hn
    rw [hl]
    exact ⟨rfl, rfl, rfl, hr⟩
  · next hn => exact laneRecovered_rests hs hn

theorem laneRestoreCore_restores {d : Dev} {b : Band} {n : Fin 32} (hb : (bandLanes b).contains n.val = true) (hs : (lane d n).state = .quarantined) :
    laneRestoreCore b [BitVec.ofNat 8 n] d = (raise (updLane d n (fun l => { l with state := .off })) 34 n, .ok, []) := by
  have hn : (BitVec.ofNat 8 n).toNat = n := by
    rw [BitVec.toNat_ofNat]; exact Nat.mod_eq_of_lt (by omega)
  simp only [laneRestoreCore, hn, hb, hs, answer]
  rfl

/-- A command that the checks let pass is not running (R50, R610). -/
theorem running_of_execCheck {d : Dev} {level key : Nat} (h : execCheck d level key = .ok) : d.qdl.running.contains key = false := by
  refine Bool.eq_false_iff.mpr fun hc => ?_
  simp only [execCheck, hc, if_true] at h
  repeat' split at h
  all_goals exact absurd h (by decide)

/-- A command that completes at once is answered with MODE 0 (R50). -/
theorem respMode_atOnce {d e : Dev} {r : Req} {key : Nat} (h : accepts d r key = true) (he : e.qdl.running = d.qdl.running) (h1 : key ≠ 0x600002)
    (h2 : key ≠ 0x61000F) (st : Status) : respMode e key st = 0 := by
  unfold accepts at h
  have hrun := running_of_execCheck (of_decide_eq_true (Bool.and_eq_true_iff.mp h).2)
  unfold respMode
  rw [he, hrun]
  simp [h1, h2]

theorem laneRestore_restores {d : Dev} {r : Req} {b : Band} {n : Fin 32} (ha : accepts d r (bandLaneKey b 0x0A) = true)
    (hb : (bandLanes b).contains n.val = true) (hs : (lane d n).state = .quarantined) :
    let e := serveExec r (bandLaneKey b 0x0A) [BitVec.ofNat 8 n] (laneRestoreCore b) d
    (lane e n).state = .off ∧ raised e 34 n ∧ replyOf e r = some (.ok, .exec (bandLaneKey b 0x0A) 0 []) := by
  have hcore := laneRestoreCore_restores (d := heard d r) hb hs
  have hm : (laneRestoreCore b [BitVec.ofNat 8 n] (heard d r)).2.1 ≠ .malformed := by rw [hcore]; exact nofun
  have hq : (laneRestoreCore b [BitVec.ofNat 8 n] (heard d r)).1.qdl = (heard d r).qdl := by rw [hcore]; simp
  have hmode := respMode_atOnce (e := (laneRestoreCore b [BitVec.ofNat 8 n] (heard d r)).1) ha (by rw [hq]; rfl) (by cases b <;> decide)
    (by cases b <;> decide) .ok
  have hreply := replyOf_serveExec [BitVec.ofNat 8 n] (laneRestoreCore b) ha hm (by rw [hq])
  dsimp only
  refine ⟨?_, ?_, ?_⟩
  · rw [serveExec_accepts _ _ ha hm, lane_respond, hcore]; simp
  · rw [serveExec_accepts _ _ ha hm, hcore]; exact raised_respond (raised_raise _ _ _)
  · rw [hreply, hcore]; rw [hcore] at hmode; rw [hmode]

/-! ## The statement -/

/-- Settles O12: every row's step by its equation above, the lane and the counters read off it. -/
theorem laneCommandsComplete : Obligations.LaneCommandsComplete := by
  unfold Obligations.LaneCommandsComplete
  refine ⟨fun s n g => ⟨?_, ?_, ?_, ?_, ?_, ?_, ?_, ?_, ?_⟩, fun s n => ⟨?_, ?_, ?_⟩⟩
  · -- PREAMBLE_ACQUIRED
    intro zeros x hs hb ha
    refine ⟨_, rfl, ?_⟩
    simp [preambleAcquired_locks hs hb ha]
  · -- CORRELATOR_HANDOVER
    intro zeros x hs hb ha
    refine ⟨_, rfl, ?_⟩
    simp [handOver_locks hs hb ha]
  · -- REHOME in PREAMBLE
    intro x lv h u hb hs hl hc
    refine ⟨fun hg => ⟨_, rfl, ?_⟩, _, rfl, ?_⟩
    · simp [rehome_stronger_peak hb hc hs hl hg]
    · simp [rehome_holds_sfd hb hc hs hl]
  · -- REHOME of a frame
    intro x f hb hs hf hc hw hg
    refine ⟨_, framed (dropBuf (count s.d (corrKey n 3)) f.buf) n f.bind g (stampNs s.d) true false, rfl, ?_⟩
    simp [rehome_stronger_frame hb hc hs hf hw hg, framed]
  · -- SFD_FOUND: the correlator's SFD, or the lane's own
    intro x lv h u hs hb hl
    by_cases ho : ∃ v o, (lane s.d n).other = some (v, o) ∧ withinSymbol n x (stampNs s.d) v = true ∧ g.level + rehomeBy s.d n ≤ o.level
    · obtain ⟨v, o, ho, hw, hg⟩ := ho
      refine ⟨_, framed s.d n x o v true false, rfl, ?_⟩
      simp [sfdFound_correlator hs hb hl g ho hw hg, ho, hw, hg, framed]
    · have hown (v : Int) (o : Signal) (hv : (lane s.d n).other = some (v, o)) :
          ¬ (withinSymbol n x (stampNs s.d) v = true ∧ g.level + rehomeBy s.d n ≤ o.level) := fun hw => ho ⟨v, o, hv, hw⟩
      refine ⟨_, framed s.d n x g (stampNs s.d) h false, rfl, ?_⟩
      simp only [sfdFound_own hs hb hl g hown, lane_takeFrame]
      refine ⟨trivial, trivial, trivial, ?_⟩
      split
      · rename_i v o hv
        rw [if_neg (hown v o hv)]
        exact ⟨rfl, rfl, rfl⟩
      · exact ⟨rfl, rfl, rfl⟩
  · -- PREAMBLE_TIMEOUT
    intro x lv h u hs hb hl
    exact ⟨_, rfl, preambleTimeout_gives_up hs hb hl⟩
  · -- PHR_RECEIVED
    intro f b0 b1 hs hf
    refine ⟨_, rfl, ?_⟩
    split
    · rename_i hv
      simp [phrReceived_valid hs hf hv]
    · rename_i hv
      obtain ⟨e, he⟩ := phrReceived_ends hs hf hv
      rw [he]
      exact ⟨(laneRest_rested e n).frame, (laneRest_rested e n).lock⟩
  · -- CAPTURE
    intro f psdu hs hf hc hw
    refine ⟨_, rfl, counter_captureFrame hs hf hc hw, fun hg hk => ?_, fun hk => ?_⟩
    · obtain ⟨e, he⟩ := captureFrame_takes hs hf hc hw hg hk
      simp [he, framed]
    · exact (congrArg Lane.frame (captureFrame_keeps hs hf hc hw hk)).trans hf
  · -- LAST_PSDU_CHIP
    intro f m good evm cfo clipped hs hf
    have hr := lane_lastChip hs hf m good clipped evm cfo
    exact ⟨_, rfl, hr.frame, hr.lastLqi, hr.lastRssi, counter_lastChip hs hf m good clipped evm cfo⟩
  · -- LANE_FAULT
    intro hang hp hn hh
    obtain ⟨hst, hf, hnest, hr, hk⟩ := laneFault_recovers hp hn hh
    exact ⟨_, rfl, hst, hf, hnest, hr, fun k hkn => hk k (fun h => hkn (Fin.ext h))⟩
  · -- LANE_RECOVERED
    intro hs
    exact ⟨_, rfl, laneRecovered_ends hs⟩
  · -- LANE_RESTORE
    intro r b ha hb hs
    exact ⟨_, rfl, laneRestore_restores ha hb hs⟩

end Sys2Proof.ReceiveLanes
end

section
/-!
SUPPORT. Schedule deltas (R183-R200): what the check of a delta answers, what an accepted and a refused one leave in the schedule, the walk of
a submitted delta through P3, the write of SF_SUSPEND, and the statement that the rows make up.
-/
namespace Sys2Proof.ScheduleDeltas

open Machine

/-! ## A command answered at once (R43, R50) -/

/-- An accepted EXEC whose command leaves the sessions and the running commands alone: its response, and what the session keeps of it. -/
theorem serveExec_atOnce {d e : Dev} {r : Req} {key : Nat} {arg l : List Byte} {core : Machine.Core} {st : Status} (ha : accepts d r key = true)
    (hc : core arg (heard d r) = (e, st, l)) (hm : st ≠ .malformed) (hs : e.qdl.sessions = (heard d r).qdl.sessions)
    (hr : e.qdl.running = d.qdl.running) (h1 : key ≠ 0x600002) (h2 : key ≠ 0x61000F) :
    serveExec r key arg core d = respond e r.session r.seq r.head.via st (.exec key 0 l) ∧
      replyOf (serveExec r key arg core d) r = some (st, .exec key 0 l) := by
  have hsent := serveExec_accepts arg core ha (by rw [hc]; exact hm)
  have hkept := replyOf_serveExec arg core ha (by rw [hc]; exact hm) (by rw [hc]; exact hs)
  rw [hc, ReceiveLanes.respMode_atOnce ha hr h1 h2 st] at hsent hkept
  exact ⟨hsent, hkept⟩

theorem sendOn_qdl (d : Dev) (t : Transport) (k : Option SessKey) (n : Bool) (o : Out) : (sendOn d t k n o).qdl = d.qdl := by
  cases t <;> simp only [sendOn, emit] <;> (repeat' split) <;> rfl

/-- A response changes no staged content (R43, R55). -/
@[simp] theorem stagedOctets_respond (d : Dev) (i q : Nat) (v : Transport) (st : Status) (b : Body) (key : Nat) :
    stagedOctets (respond d i q v st b) key = stagedOctets d key := by
  unfold stagedOctets respond sendTo
  rw [sendOn_qdl]
  rfl

theorem stagedOctets_unstage (d : Dev) (key : Nat) : stagedOctets (unstage d key) key = [] := by
  have h : (d.qdl.staged.filter (fun x => x.1 ≠ key)).find? (fun x => x.1 = key) = none := by simp
  simp only [stagedOctets, unstage, h]

/-! ## Messages to the manager, and fencing (R370, R386) -/

theorem noteAnswer_eq (d : Dev) (peer : Nat) (m : HlMsg) : ∃ h, noteAnswer d peer m = { d with hier := h } := by
  unfold noteAnswer
  repeat' split
  all_goals exact ⟨_, rfl⟩

/-- A message on a link changes the hierarchy's state and what has left the device only. -/
theorem hlSend_eq (d : Dev) (peer : Nat) (m : HlMsg) : ∃ h o, hlSend d peer m = { d with hier := h, out := o } := by
  obtain ⟨h, hn⟩ := noteAnswer_eq d peer m
  unfold hlSend
  rw [hn]
  dsimp only
  split <;> exact ⟨_, _, rfl⟩

@[simp] theorem hlSend_sched (d : Dev) (peer : Nat) (m : HlMsg) : (hlSend d peer m).sched = d.sched := by
  obtain ⟨h, o, heq⟩ := hlSend_eq d peer m
  rw [heq]

@[simp] theorem hlSend_qdl (d : Dev) (peer : Nat) (m : HlMsg) : (hlSend d peer m).qdl = d.qdl := by
  obtain ⟨h, o, heq⟩ := hlSend_eq d peer m
  rw [heq]

@[simp] theorem hlSend_ev (d : Dev) (peer : Nat) (m : HlMsg) : (hlSend d peer m).ev = d.ev := by
  obtain ⟨h, o, heq⟩ := hlSend_eq d peer m
  rw [heq]

/-- Fencing stops the schedule and changes nothing else of it. -/
theorem fence_sched (d : Dev) (n : Nat) : ∃ st c, (fence d n).sched = { d.sched with st := st, stopCause := c } := by
  unfold fence
  dsimp only
  split
  · exact ⟨_, _, rfl⟩
  · split <;> exact ⟨.stopped, 2, by simp⟩

@[simp] theorem fence_qdl (d : Dev) (n : Nat) : (fence d n).qdl = d.qdl := by
  unfold fence
  dsimp only
  repeat' split
  all_goals simp

/-- Fencing raises events 46, 47 and 109 only. -/
theorem raised_fence {d : Dev} {e x : Nat} (h46 : 46 ≠ e) (h47 : 47 ≠ e) (h109 : 109 ≠ e) (n : Nat) (h : raised d e x) : raised (fence d n) e x := by
  unfold fence
  dsimp only
  split
  · exact h
  · refine raised_of_ev (push'_ev _ _ _) (raised_raise_ne h46 (raised_raise_ne h109 ?_))
    split
    · exact raised_raise_ne h47 (raised_of_ev (d := d) rfl h)
    · exact raised_of_ev (d := d) rfl h

/-! ## The statuses of the check (R185) -/

theorem checkOps_status {d : Dev} {m : DeltaMsg} {v : SchedVer} {st : Status} {reason : Nat} (h : checkOps d m v = .error (st, reason)) :
    st ≠ .ok ∧ st ≠ .malformed := by
  unfold checkOps at h
  repeat' split at h
  all_goals cases h
  all_goals simp

/-- A check that fails answers neither OK nor MALFORMED. -/
theorem checkDelta_status {d : Dev} {sigOk : Bool} {l : List Byte} {st : Status} {reason : Nat} (h : checkDelta d sigOk l = .error (st, reason)) :
    st ≠ .ok ∧ st ≠ .malformed := by
  unfold checkDelta at h
  dsimp only at h
  repeat' split at h
  all_goals cases h
  any_goals exact checkOps_status ‹_›
  all_goals simp

/-- A signature that fails is found after the layout and before all else. -/
theorem checkDelta_badSignature (d : Dev) (l : List Byte) : ∃ st reason, checkDelta d false l = .error (st, reason) ∧ (reason = 1 ∨ reason = 2) := by
  unfold checkDelta
  split
  · exact ⟨_, _, rfl, .inl rfl⟩
  · exact ⟨_, _, rfl, .inr rfl⟩

/-! ## What an accepted and a refused delta leave (R185-R187) -/

theorem deltaOutcome_sched (d : Dev) (id : Nat) (st : Status) (reason a : Nat) :
    (deltaOutcome d id st reason a).sched = { d.sched with lastStatus := statusCode st, lastReason := reason } := by
  unfold deltaOutcome
  dsimp only
  split <;> simp

@[simp] theorem deltaOutcome_qdl (d : Dev) (id : Nat) (st : Status) (reason a : Nat) : (deltaOutcome d id st reason a).qdl = d.qdl := by
  unfold deltaOutcome
  dsimp only
  split <;> simp

theorem raised_deltaOutcome {st : Status} (h : st ≠ .ok) (d : Dev) (id reason a : Nat) :
    raised (deltaOutcome d id st reason a) 42 (statusCode st * 256 + reason) := by
  unfold deltaOutcome
  dsimp only
  rw [if_neg h]
  exact raised_of_ev (hlSend_ev _ _ _) (raised_raise _ _ _)

theorem acceptDelta_sched (d : Dev) (x : DeltaPlan) (id : Nat) :
    (acceptDelta d x id).sched =
      { d.sched with pending := d.sched.pending ++ [x.pd], accepted := x.pd.seq, lastStatus := 0, lastReason := 0 } := by
  unfold acceptDelta
  rw [deltaOutcome_sched]
  dsimp only
  split <;> simp [report, count, statusCode]

@[simp] theorem acceptDelta_qdl (d : Dev) (x : DeltaPlan) (id : Nat) : (acceptDelta d x id).qdl = d.qdl := by
  unfold acceptDelta
  rw [deltaOutcome_qdl]
  dsimp only
  split <;> simp [report, count]

/-- What a delta that fails a check leaves: the schedule and the numbers of its deltas as they were, the status and the reason recorded, event 42. -/
structure Refused (d e : Dev) (st : Status) (reason : Nat) : Prop where
  qdl : e.qdl = d.qdl
  ver : e.sched.ver = d.sched.ver
  pending : e.sched.pending = d.sched.pending
  accepted : e.sched.accepted = d.sched.accepted
  deltaSeq : e.sched.deltaSeq = d.sched.deltaSeq
  epoch : e.sched.epoch = d.sched.epoch
  asn : e.sched.asn = d.sched.asn
  lastStatus : e.sched.lastStatus = statusCode st
  lastReason : e.sched.lastReason = reason
  raised : raised e 42 (statusCode st * 256 + reason)

theorem deltaOutcome_refused {st : Status} (h : st ≠ .ok) (d : Dev) (id reason a : Nat) : Refused d (deltaOutcome d id st reason a) st reason := by
  constructor
  case qdl => exact deltaOutcome_qdl d id st reason a
  case raised => exact raised_deltaOutcome h d id reason a
  all_goals rw [deltaOutcome_sched]

theorem Refused.fence {d e : Dev} {st : Status} {reason : Nat} (h : Refused d e st reason) (n : Nat) : Refused d (fence e n) st reason := by
  obtain ⟨s, c, hs⟩ := fence_sched e n
  constructor
  case qdl => exact (fence_qdl e n).trans h.qdl
  case raised => exact raised_fence (by decide) (by decide) (by decide) n h.raised
  all_goals rw [hs]
  case ver => exact h.ver
  case pending => exact h.pending
  case accepted => exact h.accepted
  case deltaSeq => exact h.deltaSeq
  case epoch => exact h.epoch
  case asn => exact h.asn
  case lastStatus => exact h.lastStatus
  case lastReason => exact h.lastReason

section
variable {d : Dev} {sigOk : Bool} {l : List Byte}

theorem judgeDelta_accepted {x : DeltaPlan} (h : checkDelta d sigOk l = .ok x) (id : Nat) :
    judgeDelta sigOk id l d = (acceptDelta d x id, .ok, x.pd.at_) := by
  unfold judgeDelta
  rw [h]

theorem judgeDelta_refused {st : Status} {reason : Nat} (h : checkDelta d sigOk l = .error (st, reason)) (id : Nat) :
    (judgeDelta sigOk id l d).2 = (st, 0) ∧ Refused d (judgeDelta sigOk id l d).1 st reason := by
  have ho := deltaOutcome_refused (checkDelta_status h).1 d id reason 0
  unfold judgeDelta
  rw [h]
  refine ⟨rfl, ?_⟩
  dsimp only
  split
  · split
    · exact ho.fence _
    · exact ho
  · exact ho

end

/-! ## The next delta of P3 (R196) -/

/-- A descriptor that passes its consumer's checks is taken and nothing more is done. -/
theorem takeFrom_some {d d1 : Dev} {q : Nat} {p : Desc} (h : takeFrom d q = (d1, some p)) : d1 = take1 d q := by
  unfold takeFrom at h
  split at h
  · cases h
  · unfold consumerCheck at h
    repeat' split at h
    all_goals cases h
    rfl

theorem checkNext_delta {d d1 : Dev} {p : Desc} {o id addr dlen : Nat} {tm : Int} (ht : takeFrom d 51 = (d1, some p))
    (hb : p.body = .delta o id addr dlen tm) (sigOk : Bool) :
    checkNext sigOk d = judgeDelta sigOk id (takeDelta d1 addr dlen).2 (takeDelta d1 addr dlen).1 := by
  unfold checkNext
  rw [show pq 3 = 51 from rfl, ht]
  simp only [hb]

theorem exec_deltaCheck {s : State} (hq : qdlServed s.d = true) (hm : s.d.pwr.mode ≠ .m9) (sigOk : Bool) :
    exec (.deltaCheck sigOk) s = .next { s with d := settle s.perm (checkNext sigOk s.d).1 } := by
  change execDeltaCheck sigOk s = _
  simp [execDeltaCheck, onDevSettled, hq, hm, deltaCheck]

/-! ## A queue of one packet (R252-R257) -/

theorem queue_congr {d e : Dev} (h : e.queues = d.queues) (q : Nat) : queue e q = queue d q := by unfold queue; rw [h]

theorem gateCores_queues (d : Dev) : (gateCores d).queues = d.queues := by unfold gateCores; split <;> rfl

/-- A packet without a buffer, pushed to a circular queue that is open and empty, is the one that its consumer takes next. -/
theorem takeFrom_push {d : Dev} {q : Nat} {p : Desc} (hc : circular q = true) (ho : (queue d q).space q = true) (he : (queue d q).drain = [])
    (ht : (queue d q).taken = none) (hb : p.buf = none) (hy : typeListed q p.dtype = true) (hr : readsPayload q = false) :
    (push d q p).2 = true ∧ takeFrom (push d q p).1 q = (take1 (push d q p).1 q, some p) := by
  have hpush : push d q p = (gateCores (updQueue d q (fun x => x.commit q p)), true) := by
    unfold push; rw [if_pos ho, hb]; rfl
  have hqueue : queue (push d q p).1 q = (queue d q).commit q p := by
    rw [hpush, queue_congr (gateCores_queues _)]
    exact nth_upd_self _ _ _ _
  have hopen : (queue d q).state = .openQ := by
    unfold Queue.space at ho
    exact of_decide_eq_true (Bool.and_eq_true_iff.mp ho).1
  have hfront : front (push d q p).1 q = some p := by
    unfold front
    simp [hqueue, Queue.commit, hc, ht, hopen, he]
  refine ⟨by rw [hpush], ?_⟩
  unfold takeFrom
  rw [hfront]
  simp [consumerCheck, bufValid, hb, hy, hr]

/-! ## DELTA_SUBMIT (R196, R200) -/

/-- The delta as it is staged. -/
def stagedDelta (d : Dev) : List Byte := stagedString d 0x301001 (stagedEnd d 0x301001)

/-- The descriptor of the staged delta, placed in the working space. -/
def deltaDesc (d : Dev) : Desc :=
  ⟨0x0E, 0, 0, none, .delta 1 0 (keepDelta d (stagedDelta d)).2 (stagedDelta d).length (tbNs d)⟩

/-- The device whose staged delta has gone to P3. -/
def queued (d : Dev) : Dev := (push (keepDelta d (stagedDelta d)).1 51 (deltaDesc d)).1

/-- What a submitted delta is answered: the check's STATUS, and the switch ASN where it is OK. -/
def submitted (x : Dev × Status × Nat) : Dev × Status × List Byte := (x.1, x.2.1, if x.2.1 = .ok then toLe 8 x.2.2 else [])

theorem queued_only (d : Dev) : ErrOnly (keepDelta d (stagedDelta d)).1 (queued d) := push_only _ _ _

section
variable {d : Dev} (hd : (queue d 51).drain = []) (ht : (queue d 51).taken = none) (ho : (queue d 51).space 51 = true)
include hd ht ho

theorem takeFrom_queued : (push (keepDelta d (stagedDelta d)).1 51 (deltaDesc d)).2 = true ∧
    takeFrom (queued d) 51 = (take1 (queued d) 51, some (deltaDesc d)) :=
  have hq : queue (keepDelta d (stagedDelta d)).1 51 = queue d 51 := queue_congr rfl 51
  takeFrom_push rfl (by rw [hq, ho]) (by rw [hq, hd]) (by rw [hq, ht]) rfl rfl rfl

/-- The delta submitted to an open and empty P3 is the next one checked, on a device whose pending versions and sessions are those before. -/
theorem checkNext_queued (sigOk : Bool) :
    ∃ e l, e.qdl = d.qdl ∧ e.sched.pending = d.sched.pending ∧ checkNext sigOk (queued d) = judgeDelta sigOk 0 l e := by
  have hkept := (queued_only d).trans (take1_only (queued d) 51).err'
  refine ⟨_, _, ?_, ?_, checkNext_delta (takeFrom_queued hd ht ho).2 rfl sigOk⟩
  · exact hkept.qdl
  · have hpending := congrArg SchedState.pending hkept.sched
    exact hpending

theorem deltaSubmitCore_checks (hf : (queue d 51).fill = []) (sigOk : Bool) :
    deltaSubmitCore sigOk [] d = submitted (checkNext sigOk (queued d)) := by
  have hpush := (takeFrom_queued hd ht ho).1
  have hnone : (queue d (pq 3)).count + (if (queue d (pq 3)).taken.isSome then 1 else 0) = 0 := by
    rw [show pq 3 = 51 from rfl]
    simp [Queue.count, hd, hf, ht]
  unfold deltaSubmitCore
  dsimp only
  rw [hnone]
  change (if (!(push (keepDelta d (stagedDelta d)).1 51 (deltaDesc d)).2) = true then _ else _) = _
  rw [hpush]
  change (if (checkNext sigOk (queued d)).2.1 = .ok then _ else _) = _
  unfold submitted
  split
  · next hok => exact Prod.ext rfl (Prod.ext hok.symm rfl)
  · rfl

end

theorem replyOf_settle (p : Perm) (d : Dev) (r : Req) : replyOf (settle p d) r = replyOf d r := by
  unfold replyOf session
  rw [settle_qdl]

/-- DELTA_SUBMIT with P3 open and empty: one pending version more and its switch ASN, or none and a status of failure. -/
theorem deltaSubmit_answers {d : Dev} {r : Req} (sigOk : Bool) (ha : accepts d r 0x301002 = true) (hd : (queue d 51).drain = [])
    (hf : (queue d 51).fill = []) (ht : (queue d 51).taken = none) (ho : (queue d 51).space 51 = true) :
    let t := serveExec r 0x301002 [] (deltaSubmitCore sigOk) d
    ∃ st l, replyOf t r = some (st, .exec 0x301002 0 l) ∧
      (if st = .ok then ∃ v, t.sched.pending = d.sched.pending ++ [v] ∧ ∃ a, l = toLe 8 a else t.sched.pending = d.sched.pending ∧ l = []) ∧
      (sigOk = false → st ≠ .ok) := by
  obtain ⟨e, l, hqdl, hpending, hnext⟩ := checkNext_queued (d := heard d r) hd ht ho sigOk
  have hcore := deltaSubmitCore_checks (d := heard d r) hd ht ho hf sigOk
  rw [hnext] at hcore
  dsimp only
  cases hc : checkDelta e sigOk l with
  | ok x =>
    rw [judgeDelta_accepted hc] at hcore
    obtain ⟨hsent, hreply⟩ := serveExec_atOnce ha hcore nofun (by simp [hqdl]) (by simp [hqdl]; rfl) (by decide) (by decide)
    refine ⟨_, _, hreply, ?_, fun hs => ?_⟩
    · rw [hsent]
      simp only [if_true, respond_sched, acceptDelta_sched, hpending]
      exact ⟨x.pd, rfl, x.pd.at_, rfl⟩
    · subst hs
      obtain ⟨st, reason, hbad, -⟩ := checkDelta_badSignature e l
      rw [hbad] at hc
      cases hc
  | error f =>
    obtain ⟨hok, hmal⟩ := checkDelta_status hc
    obtain ⟨hst, href⟩ := judgeDelta_refused hc 0
    simp only [submitted, hst, if_neg hok] at hcore
    obtain ⟨hsent, hreply⟩ := serveExec_atOnce ha hcore hmal (by rw [href.qdl, hqdl]) (by rw [href.qdl, hqdl]; rfl) (by decide) (by decide)
    refine ⟨_, _, hreply, ?_, fun _ => hok⟩
    rw [if_neg hok, hsent, respond_sched, href.pending, hpending]
    exact ⟨rfl, rfl⟩

/-! ## DELTA_DISCARD and CELL_QUERY (R200) -/

theorem deltaDiscard_empties {d : Dev} {r : Req} (ha : accepts d r 0x301003 = true) :
    let t := serveExec r 0x301003 [] deltaDiscardCore d
    stagedOctets t 0x301001 = [] ∧ replyOf t r = some (.ok, .exec 0x301003 0 []) := by
  have hcore : deltaDiscardCore [] (heard d r) = (unstage (heard d r) 0x301001, .ok, []) := rfl
  obtain ⟨hsent, hreply⟩ := serveExec_atOnce ha hcore nofun rfl rfl (by decide) (by decide)
  refine ⟨?_, hreply⟩
  rw [hsent, stagedOctets_respond, stagedOctets_unstage]

theorem cellQuery_answers {d : Dev} {r : Req} {arg : List Byte} (ha : accepts d r 0x308001 = true) (hl : arg.length = 4) :
    replyOf (serveExec r 0x308001 arg cellQueryCore d) r =
      some (match d.sched.ver.cells.find? (fun c => c.handle = leAt arg 0 1 && c.loc = leAt arg 1 1 && c.slotOffset = leAt arg 2 2) with
        | some c => (.ok, .exec 0x308001 0 (cellOctets c)) | none => (.noEntry, .exec 0x308001 0 [])) := by
  have hcore : cellQueryCore arg (heard d r) =
      match d.sched.ver.cells.find? (fun c => c.handle = leAt arg 0 1 && c.loc = leAt arg 1 1 && c.slotOffset = leAt arg 2 2) with
      | some c => (heard d r, .ok, cellOctets c) | none => (heard d r, .noEntry, []) := by
    unfold cellQueryCore
    rw [show argLen arg 4 = true from decide_eq_true hl]
    rfl
  split at hcore
  all_goals exact (serveExec_atOnce ha hcore nofun rfl rfl (by decide) (by decide)).2

/-! ## SF_SUSPEND (R47, R193) -/

/-- A WRITE of one item that passes its checks and its commit: the item applied, then the response, then what follows it. -/
theorem serveWrite_one {p : Perm} {d : Dev} {r : Req} {nacks : Nat} {w : WItem} (h : writes p d r nacks w = true) :
    serveWrite p nacks r false [w] d = afterWrite [itemKey w]
      (respond (writeOne p (levelOf d r) nacks (heard d r) w).1 r.session r.seq r.head.via .ok (.write [(itemKey w, .ok)])) := by
  unfold writes at h
  simp only [Bool.and_eq_true, decide_eq_true_eq] at h
  obtain ⟨x, -, hl, -, hserve⟩ := serve_takesUp (.write false [w]) (fun x d1 => runWrite p nacks x.level false [w] d1) h.1
  unfold serveWrite
  rw [hserve]
  simp [execute, runWrite, writeEach, hl, h.2]

/-- An item of the RW class that passes its checks is put in force. -/
theorem writeOne_rw {p : Perm} {d : Dev} {level nacks : Nat} {w : WItem} {e : Entry} (he : findEntry w.idx w.sub = some e) (hc : e.acc ≠ .rp)
    (h : (writeOne p level nacks d w).2 = .ok) :
    (writeOne p level nacks d w).1 = writeEffect nacks d (itemKey w) (putRw d (itemKey w) (itemVal e w)) := by
  have hcommit : commitItems d [w] = (d, .ok) := by simp [commitItems, rpItems, he, hc]
  have hout : outcomeOf d [w] = putRw d (itemKey w) (itemVal e w) := by simp [outcomeOf, he, storeVal, hc]
  unfold writeOne at h ⊢
  split at h
  · simp [applyItems, hcommit, hout]
  · contradiction

/-- The entries of the slotframes, 0x3040 to 0x307F, have no effect of their own when written (R57, R200). -/
theorem writeEffect_slotframe {key : Nat} (hlo : 0x304000 ≤ key) (hhi : key < 0x308000) (nacks : Nat) (before d : Dev) :
    writeEffect nacks before key d = d := by
  simp only [writeEffect, keepOld, slotKey, atSub, Bool.or_eq_true, Bool.and_eq_true, decide_eq_true_eq]
  simp (disch := omega) only [if_neg]

theorem afterWrite_slotframe {key : Nat} (hlo : 0x304000 ≤ key) (hhi : key < 0x308000) (d : Dev) : afterWrite [key] d = d := by
  have hne (idx n sub : Nat) (h : idx + n ≤ 0x3040 ∨ 0x3080 ≤ idx) : atSub key idx n sub = false := by
    simp only [atSub, decide_eq_false_iff_not]
    omega
  have hbaud : ([key].contains 0x902001) = false := by
    simp only [List.contains_eq_mem, List.mem_singleton, decide_eq_false_iff_not]
    omega
  simp only [afterWrite, List.any_cons, List.any_nil, hne 0x0210 16 3 (by decide), hne 0x9010 2 1 (by decide), hne 0x9010 2 2 (by decide), hbaud,
    Bool.false_and, Bool.or_false, Bool.false_eq_true, if_false]
  rfl

/-- SF_SUSPEND of every slotframe is a BOOL of the RW class (R200). -/
theorem entryOf_sfSuspend (h : Fin 64) : (entryOf ((0x3040 + h.val) * 256 + 4)).map (fun e => (e.acc, e.ty)) = some (.rw, .bool) := by
  revert h
  decide

theorem sfSuspendWrite_stores {p : Perm} {d : Dev} {r : Req} {h : Fin 64} {v : Byte}
    (hw : writes p d r 0 (writeItem ((0x3040 + h.val) * 256 + 4) [v]) = true) :
    dictGet ((0x3040 + h.val) * 256 + 4) (serveWrite1 p r ((0x3040 + h.val) * 256 + 4) [v] d).rw = some (.num v.toNat) := by
  have hlo : 0x304000 ≤ (0x3040 + h.val) * 256 + 4 := by omega
  have hhi : (0x3040 + h.val) * 256 + 4 < 0x308000 := by omega
  obtain ⟨e, he, hacc⟩ := Option.map_eq_some_iff.mp (entryOf_sfSuspend h)
  obtain ⟨hc, hty⟩ := Prod.mk.inj hacc
  revert hw hlo hhi he
  generalize (0x3040 + h.val) * 256 + 4 = key
  intro hw hlo hhi he
  have hkey : itemKey (writeItem key [v]) = key := by simp only [itemKey, writeItem]; omega
  have hval : itemVal e (writeItem key [v]) = .num v.toNat := by simp [itemVal, writeItem, decodeVal, hty, Ty.signed, leNat]
  have hok : (writeOne p (levelOf d r) 0 (heard d r) (writeItem key [v])).2 = .ok := by
    unfold writes at hw
    exact of_decide_eq_true (Bool.and_eq_true_iff.mp hw).2
  unfold serveWrite1
  rw [serveWrite_one hw, hkey, afterWrite_slotframe hlo hhi, respond_rw, writeOne_rw (w := writeItem key [v]) he (by rw [hc]; decide) hok, hkey,
    writeEffect_slotframe hlo hhi, hval]
  exact dictGet_dictPut _ _ _

/-! ## The statement -/

/-- Settles O14: the requests by their answers at once, DELTA_CHECK by what an accepted and a refused delta leave. -/
theorem deltasSwitchOrChangeNothing : Obligations.DeltasSwitchOrChangeNothing := by
  unfold Obligations.DeltasSwitchOrChangeNothing
  refine ⟨fun s r => ⟨?_, ?_, ?_, ?_⟩, ?_⟩
  · -- DELTA_SUBMIT
    intro sigOk ha hd hf ht ho
    obtain ⟨st, l, hreply, hpending, hsig⟩ := deltaSubmit_answers sigOk ha hd hf ht ho
    refine ⟨_, st, l, rfl, (replyOf_settle _ _ _).trans hreply, ?_, hsig⟩
    rw [settle_sched]
    exact hpending
  · -- DELTA_DISCARD
    intro ha
    exact ⟨_, rfl, deltaDiscard_empties ha⟩
  · -- CELL_QUERY
    intro arg ha hl
    exact ⟨_, rfl, cellQuery_answers ha hl⟩
  · -- SF_SUSPEND_WRITE
    intro h v hw
    refine ⟨_, rfl, ?_⟩
    rw [settle_rw]
    exact sfSuspendWrite_stores hw
  · -- DELTA_CHECK
    intro s sigOk d1 p o id addr dlen tm hq hm ht hb
    have hsched : d1.sched = s.d.sched := by rw [takeFrom_some ht]; exact (take1_only s.d 51).sched
    have hnext := checkNext_delta ht hb sigOk
    refine ⟨fun y hy => ⟨_, exec_deltaCheck hq hm sigOk, ?_⟩, fun st reason hy => ⟨_, exec_deltaCheck hq hm sigOk, ?_⟩, fun hs => ?_⟩
    · rw [hnext, judgeDelta_accepted hy, settle_sched, acceptDelta_sched, ← hsched]
      exact ⟨rfl, rfl, rfl⟩
    · have href := (judgeDelta_refused hy id).2
      rw [hnext, settle_sched, ← hsched]
      exact ⟨href.ver, href.pending, href.accepted, href.deltaSeq, href.epoch, href.asn, href.lastStatus, href.lastReason,
        raised_settle (by decide) href.raised⟩
    · subst hs
      exact checkDelta_badSignature _ _

end Sys2Proof.ScheduleDeltas
end
